-- ==== Sys2Proof/Word.lean ====
section
/-! DEFINITION. The word types of the FW416: what the manual treats as bits. -/

namespace Sys2Proof

/-- One byte of a frame, a message or an image. -/
abbrev Byte := BitVec 8

/-- A value of the 32-bit show tick counter (R49). -/
abbrev Tick := BitVec 32

/-- A position of the 40-bit beat accumulator, in sub-ticks (R49). -/
abbrev SubTick := BitVec 40

/-- A text, as its characters (R185). -/
abbrev Text := List Byte

/-- A chair, link or chair record. The index `c` stands for chair `c + 1` (00 Conventions, Chairs). -/
abbrev Chair := Fin 16

end Sys2Proof
end

