-- ==== Sys2Proof/Syntax.lean ====
section
/-! DEFINITION. The commands of the FW416: one constructor of `Instr` for each row of spec/opcode_table.json, with the
operands as they arrive. A request's operands are raw numbers, so that a value outside its range can be sent and be
refused by the block that owns the request (R184, R185). -/

namespace Sys2Proof

/-- A parameter entry: device address, parameter code and value (R6). -/
structure Entry where
  device : Nat
  code : Nat
  value : Nat
  deriving DecidableEq, Repr

/-- The operands of a song write, in the order of R1. -/
structure SongWrite where
  number : Nat
  title : Text
  firstBar : Nat
  lastBar : Nat
  keyRole : Option Nat
  deriving DecidableEq, Repr

/-- The operands of a segment write, in the order of R2; `beatUnit` and `follow` are enumeration bytes. -/
structure SegmentWrite where
  song : Nat
  startBar : Nat
  beatsPerBar : Nat
  beatUnit : Nat
  startTempo : Nat
  endTempo : Nat
  ramp : Nat
  subdivision : Nat
  follow : Nat
  deriving DecidableEq, Repr

/-- A cue's trigger (R4). -/
inductive Trigger where
  | go
  | bar (bar beat lead : Nat)
  | follow (delay : Nat)
  deriving DecidableEq, Repr

/-- A cue's tempo action (R4). -/
inductive TempoAction where
  | start (song bar : Nat)
  | hold
  | release
  | setTempo (value : Nat)
  | park
  deriving DecidableEq, Repr

/-- A cue's vamp action (R4). -/
inductive VampAction where
  | vamp (first last : Nat)
  | exit
  deriving DecidableEq, Repr

/-- A station action as a cue write carries it (R4); `click` is an enumeration byte. -/
structure ActionWrite where
  chair : Nat
  patch : Option Nat
  click : Nat
  deriving DecidableEq, Repr

/-- The operands of a cue write, in the order of R4; `mask` is the GO source set's byte. -/
structure CueWrite where
  major : Nat
  minor : Nat
  song : Option Nat
  trigger : Trigger
  mask : Nat
  actions : List ActionWrite
  tempo : Option TempoAction
  vamp : Option VampAction
  text : Option Text
  deriving DecidableEq, Repr

/-- The operands of a patch write, in the order of R6. -/
structure PatchWrite where
  chair : Nat
  number : Nat
  base : List Entry
  v1 : Option (List Entry)
  v2 : Option (List Entry)
  v3 : Option (List Entry)
  deriving DecidableEq, Repr

/-- The operands of STATION SET and of a chair record write, in the order of R9; all but the label and the trim are
enumeration bytes. -/
structure ChairWrite where
  chair : Nat
  label : Text
  enabled : Nat
  trim : Int
  subClicks : Nat
  goRights : Nat
  orientation : Nat
  placement : Nat
  overlay : Nat
  deriving DecidableEq, Repr

/-- The operands of a settings write, in the order of R10, less the fault source settings. -/
structure SettingsWrite where
  goGuard : Nat
  deadband : Nat
  maxStep : Nat
  band : Nat
  width : Nat
  height : Nat
  rate : Nat
  failover : Nat
  autoRevert : Nat
  houseSync : Nat
  touch : Nat
  deep : Nat
  hysteresis : Nat
  deriving DecidableEq, Repr

/-- The table, key and fields that a RECORD WRITE names (R11, R185). -/
inductive RecordWrite where
  | song (w : SongWrite)
  | segment (w : SegmentWrite)
  | patch (w : PatchWrite)
  | cue (w : CueWrite)
  | chair (w : ChairWrite)
  | role (role key : Nat)
  | settings (w : SettingsWrite)
  deriving DecidableEq, Repr

/-- A table and a key, as RECORD READ, RECORD RETIRE and CURSOR SET name them (R185). -/
inductive RecordKey where
  | song (number : Nat)
  | segment (song startBar : Nat)
  | patch (chair number : Nat)
  | cue (major minor : Nat)
  | chair (chair : Nat)
  | role (role : Nat)
  | settings
  deriving DecidableEq, Repr

/-- The two camera ports (00 Connections). -/
inductive Camera where
  | a | b
  deriving DecidableEq, Repr

/-- The commands of the FW416, in the order of spec/opcode_table.json. -/
inductive Instr where
  /-- RESET_N rises; `boot` is the level of the BOOT strap. -/
  | powerOn (boot : Bool)
  /-- A transaction's bytes from the fall to the rise of CS_N. -/
  | requestFrame (bytes : List Byte)
  | ownerAnswer
  /-- An answer read that clocks out `count` bytes. -/
  | answerRead (count : Nat)
  | recordWrite (w : RecordWrite)
  | recordRead (k : RecordKey)
  | recordRetire (k : RecordKey)
  | cursorSet (k : RecordKey)
  | cursorRead
  | bookClear
  | bookInfo
  | bookLoad (slot : Nat)
  | bookSave (slot : Nat)
  | castSet (role key : Nat)
  | songCut (song : Nat)
  | songRestore (song : Nat)
  | showOpen
  | showClose
  | go
  | standbySet (major minor : Nat)
  | standbyNext
  | standbyBack
  | vampRelease
  | stop
  | resume (major minor bars : Nat)
  | stationSet (w : ChairWrite)
  | rigWrite (chair : Nat) (entries : List Entry)
  | realign (chair : Nat)
  | videoSelect (mode : Nat)
  | faultSet (source window action : Nat)
  | faultRead (source : Nat)
  | faultClear
  | padReseed
  /-- The part wanted, and the chair number that part 3 carries. -/
  | statusRead (part : Nat) (chair : Option Nat)
  | eventMask (mask : BitVec 16)
  | stopRecordRead
  | systemReset
  | beatProduction
  | songEnd
  | barTrigger
  | followTimerExpiry
  | goGuardExpiry
  | countInBeat
  | countInEnd
  | syncLock
  | syncUnlock
  | clickSend (c : Chair)
  | patchTimeout (c : Chair)
  | probePeriod (c : Chair)
  | probeLost (c : Chair)
  | lineActivity (c : Chair)
  | holdOffExpiry (c : Chair)
  | trainFrame (c : Chair)
  | trainingTimeout (c : Chair)
  | silenceTimeout (c : Chair)
  | leakStep
  /-- The bytes between the delimiters of an uplink message. -/
  | uplinkDamaged (c : Chair) (bytes : List Byte)
  | hello (c : Chair) (seq version : Byte) (latency : BitVec 16) (flags : Byte)
  | goPress (c : Chair) (seq : Byte)
  | patchAck (c : Chair) (seq tag result : Byte)
  | echo (c : Chair) (seq id : Byte) (turnaround : BitVec 16)
  | idle (c : Chair) (seq : Byte)
  | downlinkGrant (c : Chair)
  | cameraFrameStart (cam : Camera)
  /-- The number of active pixels of each active line, and a token that names the picture taken. -/
  | cameraFrameArrival (cam : Camera) (widths : List Nat) (image : Nat)
  | signalWatchExpiry (cam : Camera)
  | failoverExpiry
  | outputFrameBoundary
  /-- The bytes of a pad line frame, its start marker included. -/
  | padSample (bytes : List Byte)
  | padLoss
  | holdPoint
  | stopPoint
  /-- The raw level of STOP_IN after the change: true while the contact is closed. -/
  | stopInChange (active : Bool)
  | stopLineDebounce
  | faultSampleStep
  | armingExpiry
  /-- The header bytes that the flash returned. -/
  | imageHeaderRead (bytes : List Byte)
  /-- A body record as read: table code, record length and the record's bytes. -/
  | imageRecordInstall (code : Byte) (length : BitVec 16) (payload : List Byte)
  | imageBodyEnd
  /-- The bytes of the slot, read back after the erase. -/
  | slotEraseDone (readBack : List Byte)
  | eraseTimeout
  /-- The bytes read back after the record was programmed. -/
  | imageRecordWrite (readBack : List Byte)
  | programTimeout
  /-- The bytes read back after the header was programmed. -/
  | imageHeaderWrite (readBack : List Byte)
  | resetNAsserted
  deriving DecidableEq, Repr

end Sys2Proof
end

