-- ==== Sys2Proof/Machine/Types.lean ====
section
/-! DEFINITION. The enumerations and records of the FW416 that several blocks share: the records of the show book, the
status codes, and the contents of a chair's picture. Constructors stand in the order in which the manual lists the
values, since that order numbers them on the wire (R185). -/

namespace Sys2Proof.Machine

/-- A cue number, major.minor (00 Conventions). -/
structure CueNumber where
  major : Nat
  minor : Nat
  deriving DecidableEq, Repr

/-- A position in a song: song, bar and beat (00 Conventions). -/
structure SongPos where
  song : Nat
  bar : Nat
  beat : Nat
  deriving DecidableEq, Repr

/-- The status codes, in the order of section 12.4. -/
inductive Status where
  | ok | accepted | badCommand | badLength | outOfRange | invalid | notFound | full | inUse | referenced | notOpen
  | showOpen | stopped | stopActive | busy | windowLocked | noStandby | finished
  deriving DecidableEq, Repr

/-! ## The show book -/

/-- A song's running flag (R1). -/
inductive Running where
  | playing | cut
  deriving DecidableEq, Repr

/-- A song record (R1). -/
structure Song where
  number : Nat
  title : Text
  firstBar : Nat
  lastBar : Nat
  keyRole : Option Nat
  running : Running
  cueCount : Nat
  deriving DecidableEq, Repr

/-- The note value a segment counts as one beat (R2). -/
inductive BeatUnit where
  | eighth | quarter | dottedQuarter | half
  deriving DecidableEq, Repr

/-- A tempo segment (R2). -/
structure Segment where
  song : Nat
  startBar : Nat
  beatsPerBar : Nat
  beatUnit : BeatUnit
  startTempo : Nat
  endTempo : Nat
  ramp : Nat
  subdivision : Nat
  follow : Bool
  deriving DecidableEq, Repr

/-- A station action's click action (R4). -/
inductive ClickAction where
  | on | off | unchanged
  deriving DecidableEq, Repr

/-- A station action (R4). -/
structure StationAction where
  chair : Chair
  patch : Option Nat
  click : ClickAction
  deriving DecidableEq, Repr

/-- A GO source mask: any set of PAD, CONTROL and CHAIR (R4). -/
structure GoMask where
  pad : Bool
  control : Bool
  chair : Bool
  deriving DecidableEq, Repr

/-- A cue record (R4). -/
structure Cue where
  number : CueNumber
  song : Option Nat
  trigger : Trigger
  mask : GoMask
  actions : List StationAction
  tempo : Option TempoAction
  vamp : Option VampAction
  text : Option Text
  deriving DecidableEq, Repr

/-- A patch record (R6). -/
structure Patch where
  chair : Chair
  number : Nat
  base : List Entry
  v1 : Option (List Entry)
  v2 : Option (List Entry)
  v3 : Option (List Entry)
  refs : Nat
  deriving DecidableEq, Repr

/-- A variant key (R8). -/
inductive Variant where
  | base | v1 | v2 | v3
  deriving DecidableEq, Repr

/-- A monitor orientation (R9). -/
inductive Orientation where
  | deg0 | deg90 | deg180 | deg270
  deriving DecidableEq, Repr

/-- A strip placement (R9). -/
inductive Placement where
  | top | bottom
  deriving DecidableEq, Repr

/-- A chair record, less its key (R9). -/
structure ChairRec where
  label : Text
  enabled : Bool
  trim : Int
  subClicks : Bool
  goRights : Bool
  orientation : Orientation
  placement : Placement
  overlay : Bool
  deriving DecidableEq, Repr

/-- The expected video rates (R10). -/
inductive FrameRate where
  | f25 | f2997 | f30 | f50 | f5994 | f60
  deriving DecidableEq, Repr

/-- The house sync setting (R10). -/
inductive HouseSync where
  | use | ignore
  deriving DecidableEq, Repr

/-- A fault source's window class (R152). -/
inductive WindowClass where
  | w10 | w25 | w100 | w200
  deriving DecidableEq, Repr

/-- A fault source's action (R152). -/
inductive FaultAction where
  | ignore | report | stop
  deriving DecidableEq, Repr

/-- One entry of the fault source settings (R10). -/
structure FaultSetting where
  window : WindowClass
  action : FaultAction
  deriving DecidableEq, Repr

/-- The show settings record (R10). -/
structure Settings where
  goGuard : Nat
  deadband : Nat
  maxStep : Nat
  band : Nat
  width : Nat
  height : Nat
  rate : FrameRate
  failover : Nat
  autoRevert : Bool
  houseSync : HouseSync
  touch : Nat
  deep : Nat
  hysteresis : Nat
  faults : Vector FaultSetting 70
  deriving DecidableEq, Repr

/-- The tables of the book, in the order of their codes 1 to 7 (R177, R185). -/
inductive Table where
  | songs | segments | patches | cues | chairs | roles | settings
  deriving DecidableEq, Repr

/-! ## Requests to the Patch Dispatcher and links -/

/-- A patch of a chair under a variant key: what a target names (R92). The chair is the one whose state holds it. -/
structure PatchSel where
  number : Nat
  variant : Variant
  deriving DecidableEq, Repr

/-- The classes of a click (R77). -/
inductive ClickClass where
  | downbeat | beat | sub | countIn
  deriving DecidableEq, Repr

/-- A click: its class, bar, beat, sub-click number, tempo and click tick (R76, R77). -/
structure Click where
  cls : ClickClass
  bar : Nat
  beat : Nat
  sub : Nat
  tempo : Nat
  tick : Tick
  deriving DecidableEq, Repr

/-! ## Pictures -/

/-- The sources of a stop request (R164). -/
inductive StopSource where
  | host | pad | line | fault
  deriving DecidableEq, Repr

/-- A rectangle: left, top, width and height (R150). -/
structure Rect where
  left : Nat
  top : Nat
  width : Nat
  height : Nat
  deriving DecidableEq, Repr

/-- The beat lamp: dark, or lit in the beat colour or in the accent colour (R148). -/
inductive Lamp where
  | dark | beat | accent
  deriving DecidableEq, Repr

/-- The fields that the info strip shows (R148). -/
structure StripText where
  cue : Option (CueNumber × Option Text)
  song : Option (Nat × Text)
  position : Option (Nat × Nat)
  standby : Option CueNumber
  deriving DecidableEq, Repr

/-- The info strip and the lamp over the conductor picture, each with its view rectangle and with that rectangle translated
to the frame (R148, R150). -/
structure Strip where
  view : Rect
  rect : Rect
  lampView : Rect
  lampRect : Rect
  text : StripText
  lamp : Lamp
  deriving DecidableEq, Repr

/-- What a chair's picture shows (R147, R149). The conductor picture is the camera picture that `image` names, or black. -/
inductive Shown where
  | stopCard (first : StopSource) (pos : Option SongPos)
  | noConductor
  | countIn (count : Option Nat)
  | conductor (image : Option Nat) (strip : Option Strip)
  deriving DecidableEq, Repr

/-- One chair's picture of one output frame (R147, R150, R151). -/
structure Picture where
  width : Nat
  height : Nat
  orientation : Orientation
  shown : Shown
  deriving DecidableEq, Repr

end Sys2Proof.Machine
end

