-- ==== Sys2Proof/Config.lean ====
section
/-! DEFINITION. The values that the manual leaves open, as constants without a body: nothing can be proved of what they
are. DESIGN CHOICE (log entries 11 and 12). -/

namespace Sys2Proof

/-- The beats in a bar that no segment governs, which R2 leaves without a meter (log 11, safe). -/
opaque Config.ungovernedBeats (song bar : Nat) : Nat

/-- The mapped tempo of a beat in a bar that no segment governs (R2, R59; log 11, safe). -/
opaque Config.ungovernedTempo (song bar beat : Nat) : Nat

/-- The clicks per beat of a bar that no segment governs (R2, R58; log 11, safe). -/
opaque Config.ungovernedSubdivision (song bar : Nat) : Nat

/-- The pixel of a camera frame, named by its token, at a line and a column of the frame: the camera's content is not given
(R145, R151; log 12, safe). -/
opaque Config.framePixel (image line column : Nat) : BitVec 16

/-- The pixel of a STOP card, of its first source and position, at a row and a column of the chair's view, which has the
width and height given: glyphs and colours are not given (R149; log 12, safe). -/
opaque Config.stopCardPixel (first : Machine.StopSource) (pos : Option Machine.SongPos) (width height row column : Nat) :
    BitVec 16

/-- The pixel of the words NO CONDUCTOR at a row and a column of a chair's view, none where no letter covers the point: the
letters are not given (R149; log 12, safe). -/
opaque Config.noConductorInk (width height row column : Nat) : Option (BitVec 16)

/-- The pixel of a count's figures at a row and a column of a chair's view, none where no figure covers the point: the
figures are not given (R149; log 12, safe). -/
opaque Config.countInInk (count width height row column : Nat) : Option (BitVec 16)

/-- The ground of the COUNT-IN card, which is all that a blank one shows: its colour is not given (R149; log 12, safe). -/
opaque Config.countInGround : BitVec 16

/-- The pixel of the info strip at a row and a column of the strip, upright and of the width given, over a pixel of the
conductor picture (R148; log 12, safe). -/
opaque Config.stripPixel (text : Machine.StripText) (width row column : Nat) (under : BitVec 16) : BitVec 16

/-- The pixel of the beat lamp at a row and a column of its square, over a pixel of the conductor picture (R148; log 12,
safe). -/
opaque Config.lampPixel (lamp : Machine.Lamp) (row column : Nat) (under : BitVec 16) : BitVec 16

end Sys2Proof
end

