-- ==== Sys2Proof/Machine/Blocks.lean ====
section
/-! DEFINITION. The state of each block of the FW416, as plain data. Each structure cites the rule that lays its fields
down. -/

namespace Sys2Proof.Machine

/-! ## Time (R49) -/

/-- The show tick counter of R49, with the model's own elapsed time in microseconds and its fraction of a tick in
thousandths (log 1, DESIGN CHOICE). -/
structure Time where
  tick : Tick
  micros : Nat
  phase : Nat
  deriving DecidableEq, Repr

/-! ## Book Store (R1 to R24) -/

/-- The Book Store's state (R1 to R11, R23). A cursor position is a key as a pair, the second part 0 where the table's
key has one part (R23). -/
structure Book where
  songs : List Song
  segments : List Segment
  patches : List Patch
  cues : List Cue
  chairs : Vector ChairRec 16
  roles : Vector Variant 32
  settings : Settings
  revision : Nat
  cursorTable : Table
  cursorPos : Nat × Nat
  deriving DecidableEq, Repr

/-! ## Cue Engine (R25, R26) -/

/-- A cue's run state (R25). -/
inductive RunState where
  | pending | standby | firing | complete | passed
  deriving DecidableEq, Repr

/-- How a FIRING cue is marked to return by a resume (R47). -/
inductive ReturnMark where
  | complete | pending | passed
  deriving DecidableEq, Repr

/-- One cue's run state, with its return mark (R47) and the failed resolutions of the work under way (R46). -/
structure RunEntry where
  cue : CueNumber
  state : RunState
  mark : Option ReturnMark
  failed : Nat
  deriving DecidableEq, Repr

/-- A follow timer: a FOLLOW cue and its expiry tick (R43, R44). -/
structure FollowTimer where
  cue : CueNumber
  expiry : Tick
  deriving DecidableEq, Repr

/-- A held BAR trigger: its cue, its trigger tick and the announced beat it stands on (R40, R41). -/
structure BarTrigger where
  cue : CueNumber
  tick : Tick
  pos : SongPos
  lastOfBar : Bool
  deriving DecidableEq, Repr

/-- The completion record (R26, R46); the summary is OK when `failed` is 0 and SOME_FAILED otherwise. -/
structure Completion where
  cue : CueNumber
  requests : Nat
  failed : Nat
  deriving DecidableEq, Repr

/-- The Cue Engine's state (R26). `holdCandidate` is the FIRING FOLLOW resume cue of R47. -/
structure CueEngine where
  isOpen : Bool
  runs : List RunEntry
  standby : Option CueNumber
  held : Option CueNumber
  holdCandidate : Option CueNumber
  timers : List FollowTimer
  triggers : List BarTrigger
  guard : Option Tick
  lastFired : Option CueNumber
  completion : Option Completion
  ignoredPad : Nat
  ignoredChair : Nat
  deriving DecidableEq, Repr

/-! ## Tempo Clock (R50, R51) -/

/-- The clock states (R52). -/
inductive ClockState where
  | parked | playing | vamping | held | frozen | counting
  deriving DecidableEq, Repr

/-- The beat announced and not yet produced: its position and its sub-tick position (R51, R55). -/
structure NextBeat where
  pos : SongPos
  sub : SubTick
  deriving DecidableEq, Repr

/-- The vamp region with its pass number, last-bar downbeat mark and exit pass (R51, R67). -/
structure Vamp where
  first : Nat
  last : Nat
  pass : Nat
  mark : Bool
  exit : Option Nat
  deriving DecidableEq, Repr

/-- The count-in under way (R51, R74): its beats, how many were given to the Click Scheduler and how many were reached,
its interval, its first sub-tick position and the beats of one bar. -/
structure CountIn where
  total : Nat
  given : Nat
  reached : Nat
  interval : Nat
  first : SubTick
  perBar : Nat
  deriving DecidableEq, Repr

/-- The Tempo Clock's state (R50, R51). `ending` is the tick of the song end that R57 computes. -/
structure Clock where
  syncLocked : Bool
  state : ClockState
  pos : Option SongPos
  p : SubTick
  next : Option NextBeat
  ending : Option Tick
  tempo : Nat
  override : Option Nat
  adjust : Option Nat
  tapOnset : Option Tick
  taps : List Int
  rejected : Nat
  vamp : Option Vamp
  holdDue : Bool
  countIn : Option CountIn
  deriving DecidableEq, Repr

/-! ## Click Scheduler (R76) -/

/-- A chair's click state (R76). -/
structure ClickChair where
  enable : Bool
  filter : List Nat
  basis : Nat
  trim : Int
  advance : Nat
  deriving DecidableEq, Repr

/-- The state of a chair's part in a due item (R76). -/
inductive PartState where
  | waiting | handed | done
  deriving DecidableEq, Repr

/-- A chair's part in a due item: its send tick and state (R77). -/
structure Part where
  send : Tick
  state : PartState
  deriving DecidableEq, Repr

/-- An item of the due list (R76, R77). -/
structure DueItem where
  click : Click
  parts : Vector Part 16
  deriving DecidableEq, Repr

/-! ## Patch Dispatcher (R91, R92) -/

/-- A request to the Patch Dispatcher (R91). A CUE request that SHOW OPEN has detached from its cue is so marked (R107). -/
inductive PatchReq where
  | cue (cue : CueNumber) (detached : Bool) (sel : PatchSel)
  | restore (sel : PatchSel)
  | adHoc
  deriving DecidableEq, Repr

/-- The kinds of request (R91). -/
inductive ReqKind where
  | cue | restore | adHoc
  deriving DecidableEq, Repr

/-- The outcomes of a request (R91). -/
inductive ReqOutcome where
  | ok | rejected | timeout | superseded | linkLost
  deriving DecidableEq, Repr

/-- The in-flight slot's contents (R92). `retired` records that the patch was retired, or the book cleared, since the
send (R96). -/
structure Flight where
  req : PatchReq
  tag : Byte
  expiry : Tick
  retired : Bool
  deriving DecidableEq, Repr

/-- The confirmed patch (R92). -/
inductive Confirmed where
  | unknown
  | modified
  | patch (sel : PatchSel)
  deriving DecidableEq, Repr

/-- A chair's dispatch counts (R92). -/
structure DispatchCounts where
  sent : Nat
  rejected : Nat
  timedOut : Nat
  linkLost : Nat
  superseded : Nat
  deriving DecidableEq, Repr

/-- A chair's dispatch state (R92). An empty ad-hoc buffer is the empty list. -/
structure Dispatch where
  flight : Option Flight
  waiting : Option PatchReq
  target : Option PatchSel
  confirmed : Confirmed
  tag : Byte
  adhoc : List Entry
  counts : DispatchCounts
  last : Option (ReqKind × ReqOutcome)
  deriving DecidableEq, Repr

/-! ## Chair Link Controllers (R83, R108, R119) -/

/-- The link states (R108). -/
inductive LinkState where
  | down | training | locked
  deriving DecidableEq, Repr

/-- A PATCH message: its tag and entries (R95, R114). -/
structure PatchMsg where
  tag : Byte
  entries : List Entry
  deriving DecidableEq, Repr

/-- A downlink message (R114, R151). -/
inductive DownMsg where
  | train (chair : Nat)
  | click (click : Click)
  | patch (msg : PatchMsg)
  | probe (id : Byte)
  | stopMark (on : Bool)
  | video (line : Nat) (picture : Picture)
  deriving DecidableEq, Repr

/-- A link's counts (R108). -/
structure LinkCounts where
  crc : Nat
  format : Nat
  sequence : Nat
  ignoredGo : Nat
  trainingFailures : Nat
  locks : Nat
  lostSilence : Nat
  lostErrors : Nat
  deriving DecidableEq, Repr

/-- The outstanding probe: its id and the time in µs at which it began (R83). -/
structure Probe where
  id : Byte
  start : Nat
  deriving DecidableEq, Repr

/-- A link controller's state (R108), with its downlink holding (R119) and its probe state (R83). Expiry times are in
µs; `sent` is the message that has most recently begun on the downlink. -/
structure Link where
  state : LinkState
  holdOff : Option Nat
  training : Option Nat
  silence : Option Nat
  trainDue : Option Nat
  activity : Option Nat
  seq : Option Byte
  bucket : Nat
  mark : Bool
  latency : Nat
  monitor : Bool
  clickQueue : List Click
  stopMark : Option Bool
  patchMsg : Option PatchMsg
  probeMsg : Option Byte
  counts : LinkCounts
  outstanding : Option Probe
  nextProbe : Byte
  probeDue : Option Tick
  sent : Option DownMsg
  deriving DecidableEq, Repr

/-! ## Cue Pad Interface (R124, R128) -/

/-- The pad states (R124). -/
inductive PadState where
  | seeding | running | lost
  deriving DecidableEq, Repr

/-- An electrode's level (R126). -/
inductive Level where
  | idle | touch | deep
  deriving DecidableEq, Repr

/-- The electrodes Z0 to Z4 (R123). -/
abbrev Zone := Fin 5

/-- An electrode's state (R124); the void mark of Z0 is always clear. -/
structure Electrode where
  b16 : Nat
  level : Level
  onset : Option Tick
  void : Bool
  deriving DecidableEq, Repr

/-- A contact's outcome (R128). -/
inductive ContactOutcome where
  | go | tempoTap | tap | hold | stop | next | back | none | cancelled
  deriving DecidableEq, Repr

/-- One visit of a contact: an electrode and its touch onset (R128). -/
structure Visit where
  zone : Zone
  onset : Tick
  deriving DecidableEq, Repr

/-- A contact record (R128); the duration is written when the contact ends. -/
structure Contact where
  visits : List Visit
  overflow : Bool
  onset : Tick
  deepest : Level
  release : Option Tick
  duration : Nat
  spent : Bool
  stopGiven : Bool
  outcome : Option ContactOutcome
  deriving DecidableEq, Repr

/-- The pad counts (R124). -/
structure PadCounts where
  goTaps : Nat
  tempoTaps : Nat
  holds : Nat
  stopPresses : Nat
  swipesNext : Nat
  swipesBack : Nat
  cancelled : Nat
  stuckReseeds : Nat
  discarded : Nat
  deriving DecidableEq, Repr

/-- The Cue Pad Interface's state (R124). `watch` is the expiry of the pad-loss watch (R134). -/
structure Pad where
  state : PadState
  lastTick : Option Tick
  lastCounts : Option (Vector Nat 5)
  electrodes : Vector Electrode 5
  blocking : Bool
  contact : Option Contact
  holdPoint : Option Tick
  stopPoint : Option Tick
  last : Option Contact
  counts : PadCounts
  watch : Option Tick
  deriving DecidableEq, Repr

/-! ## Video Switch (R136, R138) -/

/-- The camera states (R136). -/
inductive CameraState where
  | noSignal | acquiring | locked | mismatch
  deriving DecidableEq, Repr

/-- A picture size: width and height. -/
structure Size where
  width : Nat
  height : Nat
  deriving DecidableEq, Repr

/-- A camera's state (R136). `arrivals` are the times in µs of the frames that count toward the measured rate. -/
structure Cam where
  state : CameraState
  previous : Option Size
  locked : Option Size
  lockTick : Option Tick
  watch : Option Tick
  arrivals : List Nat
  deriving DecidableEq, Repr

/-- The camera selection mode (R138). -/
inductive VideoMode where
  | auto | a | b
  deriving DecidableEq, Repr

/-- The selection state (R138). -/
inductive Selection where
  | aActive | bActive | holding | none
  deriving DecidableEq, Repr

/-- A complete frame in the store: its camera, its size and the token of its picture (R138). -/
structure Frame where
  camera : Camera
  size : Size
  image : Nat
  deriving DecidableEq, Repr

/-- A buffer of the frame store (R138). -/
inductive Buffer where
  | free
  | filling (camera : Camera)
  | complete (frame : Frame)
  | shown (frame : Frame)
  deriving DecidableEq, Repr

/-- The Video Switch's state (R136, R138). `boundaryDue` is the time of the next output frame boundary, in thirds of a
µs, since the periods of R139 are whole in that unit. -/
structure Video where
  camA : Cam
  camB : Cam
  mode : VideoMode
  sel : Selection
  failover : Option Tick
  failoverDue : Bool
  holdExp : Option Tick
  revertExp : Option Tick
  buffers : Vector Buffer 3
  drops : Nat
  repeats : Nat
  window : List Tick
  boundaryDue : Nat
  deriving DecidableEq, Repr

/-! ## Overlay Compositor (R146, R151) -/

/-- The beat field: the beat's tick and its downbeat flag (R146). -/
structure BeatField where
  tick : Tick
  downbeat : Bool
  deriving DecidableEq, Repr

/-- The STOP card's first source and stop position (R146, R149). -/
structure StopCard where
  first : StopSource
  pos : Option SongPos
  deriving DecidableEq, Repr

/-- A chair's view: its latched settings, composing mark, line cursor, short frame count (R146) and composed picture
(R147). -/
structure View where
  orientation : Orientation
  placement : Placement
  overlay : Bool
  composing : Bool
  cursor : Nat
  shortFrames : Nat
  picture : Option Picture
  deriving DecidableEq, Repr

/-- The Overlay Compositor's state (R146). The COUNT-IN card, when on, holds the count or no count yet. -/
structure Overlay where
  lastCue : Option (CueNumber × Option Text)
  standby : Option CueNumber
  position : Option SongPos
  beat : Option BeatField
  stopCard : Option StopCard
  countCard : Option (Option Nat)
  views : Vector View 16
  deriving DecidableEq, Repr

/-! ## Fault Monitor (R152, R153) -/

/-- A fault source's window, oldest sample first, and its flags (R152). -/
structure FaultSource where
  window : List Bool
  live : Bool
  held : Bool
  deriving DecidableEq, Repr

/-- The Fault Monitor's state (R153); source number n is at index n - 1. -/
structure FaultMonitor where
  sources : Vector FaultSource 70
  armed : Bool
  armExp : Option Tick
  sampleDue : Tick
  raised : Bool
  deriving DecidableEq, Repr

/-! ## Stop Controller (R164) -/

/-- The stop states (R164). -/
inductive StopState where
  | clear | stopped | countIn
  deriving DecidableEq, Repr

/-- A set of stop sources (R164). -/
structure SourceSet where
  host : Bool
  pad : Bool
  line : Bool
  fault : Bool
  deriving DecidableEq, Repr

/-- The stop record (R164); a position of `none` is PARKED. -/
structure StopRecord where
  sources : SourceSet
  first : StopSource
  tick : Tick
  pos : Option SongPos
  lastFired : Option CueNumber
  number : Nat
  deriving DecidableEq, Repr

/-- The Stop Controller's state (R164), with the raw stop input and its debounce (R165). -/
structure StopController where
  state : StopState
  held : SourceSet
  line : Bool
  raw : Bool
  debounce : Option Tick
  record : Option StopRecord
  count : Nat
  deriving DecidableEq, Repr

/-! ## Image Loader (R178) -/

/-- The operation states (R178). -/
inductive LoaderState where
  | idle | readingHeader | installing | erasing | writing | done | failed
  deriving DecidableEq, Repr

/-- The operations (R178). -/
inductive LoaderOp where
  | load | bootLoad | save
  deriving DecidableEq, Repr

/-- The results (R178). -/
inductive LoaderResult where
  | done | badHeader | tooLarge | countMismatch | checksum | brokenReference | flashError
  deriving DecidableEq, Repr

/-- The failed record: its table, its position within it and the status of its write (R178). -/
structure FailedRecord where
  table : Table
  position : Nat
  status : Status
  deriving DecidableEq, Repr

/-- The fields of an image header (R177). -/
structure ImageHeader where
  songs : Nat
  segments : Nat
  cues : Nat
  patches : Nat
  entries : Nat
  settings : Nat
  chairs : Nat
  roles : Nat
  bodyLength : Nat
  bodyCrc : BitVec 32
  deriving DecidableEq, Repr

/-- An operation's progress: the records handled so far, and the records in all (R178). -/
structure Progress where
  done : Nat
  total : Nat
  deriving DecidableEq, Repr

/-- What STATUS READ returns of the Image Loader (R178). -/
structure LoaderReport where
  state : LoaderState
  op : Option LoaderOp
  slot : Option Nat
  progress : Option Progress
  result : Option LoaderResult
  failed : Option FailedRecord
  deriving DecidableEq, Repr

/-- The Image Loader's state (R178), with the operation under way: the header read, the body bytes handled, the CRC
register over them, the records met of each table and the last table met (R180), and the erase and program deadlines in
µs (R182). -/
structure Loader where
  report : LoaderReport
  header : Option ImageHeader
  bodyPos : Nat
  crc : BitVec 32
  met : Vector Nat 7
  lastTable : Nat
  eraseBy : Option Nat
  programBy : Option Nat
  deriving DecidableEq, Repr

/-! ## Answers and the Control Port (R186 to R188) -/

/-- A record as RECORD READ and CURSOR READ answer it (R22). -/
inductive RecordData where
  | song (r : Song)
  | segment (r : Segment)
  | patch (r : Patch)
  | cue (r : Cue) (run : RunState)
  | chair (n : Nat) (r : ChairRec)
  | role (n : Nat) (key : Variant)
  | settings (r : Settings)
  deriving DecidableEq, Repr

/-- What BOOK INFO answers (R22). -/
structure BookSummary where
  songs : Nat
  segments : Nat
  cues : Nat
  patches : Nat
  poolUse : Nat
  poolFree : Nat
  revision : Nat
  cutSongs : Nat
  deriving DecidableEq, Repr

/-- The core that every STATUS READ answer begins with (R188). -/
structure StatusCore where
  flags : BitVec 10
  showOpen : Bool
  stop : StopState
  clock : ClockState
  position : Option SongPos
  standby : Option CueNumber
  anyLive : Bool
  anyHeld : Bool
  loader : LoaderReport
  deriving DecidableEq, Repr

/-- Part 1 of STATUS READ (R26, R188). -/
structure CueReport where
  lastFired : Option CueNumber
  completion : Option Completion
  ignoredPad : Nat
  ignoredChair : Nat
  deriving DecidableEq, Repr

/-- Part 2 of STATUS READ (R50, R51, R188), and the beat accumulator, which R66 has STATUS READ report (log 39). -/
structure ClockReport where
  position : Option SongPos
  pass : Option Nat
  tempo : Nat
  beatUnit : Option BeatUnit
  follow : Bool
  override : Bool
  rejected : Nat
  syncLocked : Bool
  houseTimebase : Bool
  accumulator : SubTick
  deriving DecidableEq, Repr

/-- What STATUS READ reports of a slot: the request's kind, and its cue for a CUE request (R92). -/
structure SlotReport where
  kind : ReqKind
  cue : Option CueNumber
  deriving DecidableEq, Repr

/-- Part 3 of STATUS READ (R76, R92, R108, R151, R188). The chair is the one asked for: it is sent as the chair of a patch
key. -/
structure ChairReport where
  chair : Nat
  enable : Bool
  basis : Nat
  trim : Int
  advance : Nat
  filtered : Option Nat
  flight : Option SlotReport
  waiting : Option SlotReport
  target : Option PatchSel
  confirmed : Confirmed
  tag : Byte
  dispatch : DispatchCounts
  last : Option (ReqKind × ReqOutcome)
  link : LinkState
  latency : Nat
  monitor : Bool
  bucket : Nat
  counts : LinkCounts
  composing : Bool
  shortFrames : Nat
  deriving DecidableEq, Repr

/-- A camera's part of STATUS READ (R136). -/
structure CameraReport where
  state : CameraState
  measurement : Option Size
  rate : Nat
  deriving DecidableEq, Repr

/-- Part 4 of STATUS READ (R136, R138, R188). -/
structure VideoReport where
  camA : CameraReport
  camB : CameraReport
  mode : VideoMode
  sel : Selection
  drops : Nat
  repeats : Nat
  windowCount : Nat
  deriving DecidableEq, Repr

/-- Part 5 of STATUS READ (R124, R188): each electrode's baseline and level in electrode order. -/
structure PadReport where
  state : PadState
  electrodes : List (Nat × Level)
  blocking : Bool
  last : Option Contact
  counts : PadCounts
  deriving DecidableEq, Repr

/-- The part that follows the core in a STATUS READ answer (R188). -/
inductive StatusPart where
  | nothing
  | cues (r : CueReport)
  | clock (r : ClockReport)
  | chair (r : ChairReport)
  | video (r : VideoReport)
  | pad (r : PadReport)
  deriving DecidableEq, Repr

/-- What FAULT READ answers of one source (R162). -/
structure FaultReport where
  setting : FaultSetting
  samples : Nat
  asserted : Nat
  live : Bool
  held : Bool
  deriving DecidableEq, Repr

/-- What FAULT READ answers of each source when all are asked for (R162). -/
structure FaultLine where
  asserted : Nat
  live : Bool
  held : Bool
  deriving DecidableEq, Repr

/-- What STOP RECORD READ answers (R176). -/
structure StopReport where
  state : StopState
  held : SourceSet
  line : Bool
  count : Nat
  record : Option StopRecord
  deriving DecidableEq, Repr

/-- The data of an answer. -/
inductive AnswerData where
  | empty
  | record (r : RecordData)
  | summary (r : BookSummary)
  | cue (n : CueNumber)
  | standby (n : Option CueNumber)
  | stopState (st : StopState)
  | cleared (count : Nat)
  | mask (m : BitVec 16)
  | fault (r : FaultReport)
  | faults (armed raised : Bool) (lines : List FaultLine)
  | stopReport (r : StopReport)
  | status (core : StatusCore) (part : StatusPart)
  deriving DecidableEq, Repr

/-- An owner's answer: a status code and its data (R184, R186). -/
structure Answer where
  status : Status
  data : AnswerData
  deriving DecidableEq, Repr

/-- The request states (R186). -/
inductive PortState where
  | idle | working | answered
  deriving DecidableEq, Repr

/-- The Control Port's state (R186, R187). `owed` is the answer the owner has decided and not yet given; the buffer holds
an answer with its OVERRUN flag; `miso` is what the last answer read returned. -/
structure Port where
  state : PortState
  owed : Option Answer
  buffer : Option (Answer × Bool)
  overrun : Bool
  flags : BitVec 10
  mask : BitVec 16
  miso : List Byte
  deriving DecidableEq, Repr

end Sys2Proof.Machine
end

