-- ==== Sys2Proof/Machine/Initial.lean ====
section
/-! DEFINITION. The value of each block's state after power-on and SYSTEM RESET. -/

namespace Sys2Proof.Machine

/-- The decimal digits of a chair number 1 to 16, as characters. -/
def chairDigits (n : Nat) : Text :=
  if n < 10 then [BitVec.ofNat 8 (48 + n)] else [0x31#8, BitVec.ofNat 8 (38 + n)]

/-- The power-on label of chair n: the characters of CHAIR, a space and n (R9). -/
def defaultLabel (n : Nat) : Text :=
  [0x43#8, 0x48#8, 0x41#8, 0x49#8, 0x52#8, 0x20#8] ++ chairDigits n

/-- Chair n's record at power-on and after BOOK CLEAR or a failed load (R9). -/
def defaultChair (n : Nat) : ChairRec :=
  { label := defaultLabel n, enabled := true, trim := 0, subClicks := false, goRights := false,
    orientation := .deg0, placement := .bottom, overlay := true }

/-- The vector of length n whose entry at index i is `f i`. -/
def tabulate {α : Type} (n : Nat) (f : Nat → α) : Vector α n :=
  ⟨⟨(List.range n).map f⟩, by simp⟩

/-- The settings record at power-on and after BOOK CLEAR or a failed load (R10). -/
def defaultSettings : Settings :=
  { goGuard := 250, deadband := 150, maxStep := 300, band := 80, width := 1280, height := 720, rate := .f5994,
    failover := 200, autoRevert := false, houseSync := .ignore, touch := 24, deep := 64, hysteresis := 6,
    faults := Vector.replicate 70 { window := .w25, action := .report } }

/-- The book at power-on (R24). -/
def Book.empty : Book :=
  { songs := [], segments := [], patches := [], cues := [],
    chairs := tabulate 16 fun i => defaultChair (i + 1),
    roles := Vector.replicate 32 .base, settings := defaultSettings, revision := 0,
    cursorTable := .songs, cursorPos := (1, 0) }

/-- The Cue Engine after power-on and SYSTEM RESET (R26). -/
def CueEngine.initial : CueEngine :=
  { isOpen := false, runs := [], standby := none, held := none, holdCandidate := none, timers := [], triggers := [],
    guard := none, lastFired := none, completion := none, ignoredPad := 0, ignoredChair := 0 }

/-- The Tempo Clock after power-on and SYSTEM RESET (R50, R51). -/
def Clock.initial : Clock :=
  { syncLocked := false, state := .parked, pos := none, p := 0#40, next := none, ending := none, tempo := 12000,
    override := none, adjust := none, tapOnset := none, taps := [], rejected := 0, vamp := none, holdDue := false,
    countIn := none }

/-- A chair's click state after power-on, when the record's trim is 0 (R76). -/
def ClickChair.initial : ClickChair := { enable := true, filter := [], basis := 0, trim := 0, advance := 0 }

/-- A chair's dispatch state after power-on and SYSTEM RESET (R107). -/
def Dispatch.initial : Dispatch :=
  { flight := none, waiting := none, target := none, confirmed := .unknown, tag := 0#8, adhoc := [],
    counts := { sent := 0, rejected := 0, timedOut := 0, linkLost := 0, superseded := 0 }, last := none }

/-- A link after power-on and SYSTEM RESET (R83, R108). -/
def Link.initial : Link :=
  { state := .down, holdOff := none, training := none, silence := none, trainDue := none, activity := none,
    seq := none, bucket := 0, mark := false, latency := 0, monitor := false, clickQueue := [], stopMark := none,
    patchMsg := none, probeMsg := none,
    counts := { crc := 0, format := 0, sequence := 0, ignoredGo := 0, trainingFailures := 0, locks := 0,
                lostSilence := 0, lostErrors := 0 },
    outstanding := none, nextProbe := 0#8, probeDue := none, sent := none }

/-- The cue pad after power-on and SYSTEM RESET, when the show tick is 0 (R124, R134). -/
def Pad.initial : Pad :=
  { state := .seeding, lastTick := none, lastCounts := none,
    electrodes := Vector.replicate 5 { b16 := 0, level := .idle, onset := none, void := false },
    blocking := false, contact := none, holdPoint := none, stopPoint := none, last := none,
    counts := { goTaps := 0, tempoTaps := 0, holds := 0, stopPresses := 0, swipesNext := 0, swipesBack := 0,
                cancelled := 0, stuckReseeds := 0, discarded := 0 },
    watch := some 1920#32 }

/-- A camera after power-on and SYSTEM RESET (R136). -/
def Cam.initial : Cam :=
  { state := .noSignal, previous := none, locked := none, lockTick := none, watch := none, arrivals := [] }

/-- A frame period in thirds of a µs (R139). -/
def framePeriod : FrameRate → Nat
  | .f25 => 120000
  | .f2997 => 100100
  | .f30 => 100000
  | .f50 => 60000
  | .f5994 => 50050
  | .f60 => 50000

/-- The Video Switch after power-on and SYSTEM RESET, at the expected rate given (R138, R139). -/
def Video.initial (rate : FrameRate) : Video :=
  { camA := Cam.initial, camB := Cam.initial, mode := .auto, sel := .none, failover := none, failoverDue := false,
    holdExp := none, revertExp := none, buffers := Vector.replicate 3 .free, drops := 0, repeats := 0, window := [],
    boundaryDue := framePeriod rate }

/-- The Overlay Compositor after power-on and SYSTEM RESET (R146, R151). -/
def Overlay.initial : Overlay :=
  { lastCue := none, standby := none, position := none, beat := none, stopCard := none, countCard := none,
    views := Vector.replicate 16
      { orientation := .deg0, placement := .bottom, overlay := true, composing := false, cursor := 0,
        shortFrames := 0, picture := none } }

/-- The Fault Monitor after power-on and SYSTEM RESET (R153, R154). -/
def FaultMonitor.initial : FaultMonitor :=
  { sources := Vector.replicate 70 { window := [], live := false, held := false }, armed := false, armExp := none,
    sampleDue := 480#32, raised := false }

/-- The empty set of stop sources. -/
def SourceSet.empty : SourceSet := { host := false, pad := false, line := false, fault := false }

/-- The Stop Controller after power-on and SYSTEM RESET, with the raw stop input as it stands (R164, R165). -/
def StopController.initial (raw : Bool) : StopController :=
  { state := .clear, held := SourceSet.empty, line := false, raw := raw, debounce := some 960#32, record := none,
    count := 0 }

/-- The Image Loader after power-on and SYSTEM RESET (R178). -/
def Loader.initial : Loader :=
  { report := { state := .idle, op := none, slot := none, progress := none, result := none, failed := none },
    header := none, bodyPos := 0, crc := 0#32, met := Vector.replicate 7 0, lastTable := 0, eraseBy := none,
    programBy := none }

/-- The Control Port after power-on (R186, R187). -/
def Port.initial : Port :=
  { state := .idle, owed := none, buffer := none, overrun := false, flags := 0#10, mask := 0#16, miso := [] }

end Sys2Proof.Machine
end

