-- ==== Sys2Proof/Machine/State.lean ====
section
/-! DEFINITION. The state of the FW416 as plain data, its faults and refusals, and its value after reset. The blocks'
structures stand in Blocks.lean and their reset values in Initial.lean; INVENTORY.md lists every field. -/

namespace Sys2Proof.Machine

/-- The state of the FW416. `pending` is the queue of waiting commands, first in, first out; `resetHeld` says that
RESET_N is held low (R189). -/
structure State where
  pending : List Instr
  resetHeld : Bool
  time : Time
  book : Book
  cue : CueEngine
  clock : Clock
  clicks : Vector ClickChair 16
  due : List DueItem
  patch : Vector Dispatch 16
  links : Vector Link 16
  leakDue : Nat
  pad : Pad
  video : Video
  overlay : Overlay
  faults : FaultMonitor
  stop : StopController
  loader : Loader
  port : Port
  deriving DecidableEq, Repr

/-- The block has no fault: a request that is not carried out is answered with a status code, and an event that does not
apply changes nothing (log 30). Nothing raises it, so it has no constructor. -/
inductive Fault where
  deriving DecidableEq, Repr

/-- The refusals of the model. -/
inductive Refusal where
  /-- Raised by `exec` for a command that has no meaning yet; safe, since the run ends there. No command raises it now. -/
  | notModelled (mnemonic : String)
  deriving DecidableEq, Repr

/-- The machine right after a power-on with the BOOT strap low and the stop contact open (R189; log 3). -/
def State.reset : State :=
  { pending := [], resetHeld := false, time := { tick := 0#32, micros := 0, phase := 0 }, book := Book.empty,
    cue := CueEngine.initial, clock := Clock.initial, clicks := Vector.replicate 16 ClickChair.initial, due := [],
    patch := Vector.replicate 16 Dispatch.initial, links := Vector.replicate 16 Link.initial, leakDue := 125000,
    pad := Pad.initial, video := Video.initial .f5994, overlay := Overlay.initial, faults := FaultMonitor.initial,
    stop := StopController.initial false, loader := Loader.initial, port := Port.initial }

end Sys2Proof.Machine
end

