-- ==== Sys2Proof/Machine/Ops.lean ====
section
/-! DEFINITION. The operations that every block shares: one chair's entry of a per-chair state, show tick comparison,
counts that hold at 65535, cue order, and the frames around the meanings of requests and events. -/

namespace Sys2Proof.Machine

/-! ## Vectors and lists -/

/-- The vector with the entry at `i` changed by `f`. -/
def modifyAt {α : Type} {n : Nat} (v : Vector α n) (i : Fin n) (f : α → α) : Vector α n :=
  v.set i.val (f v[i]) i.isLt

/-- The chairs 1 to 16 in order. -/
def allChairs : List Chair := [0, 1, 2, 3, 4, 5, 6, 7, 8, 9, 10, 11, 12, 13, 14, 15]

/-- The chair that a chair number 1 to 16 names. -/
def chairOf (n : Nat) : Option Chair :=
  if h : 1 ≤ n ∧ n ≤ 16 then some ⟨n - 1, by omega⟩ else none

/-- The number of a chair (00 Conventions, Chairs). -/
def chairNumber (c : Chair) : Nat := c.val + 1

/-- The per-chair vector whose entry for chair c is `f c`. -/
def tabulateChairs {α : Type} (f : Chair → α) : Vector α 16 :=
  ⟨⟨allChairs.map f⟩, by simp [allChairs]⟩

/-- The vector whose entry at `i` is `f i`. -/
def tabulateFin {α : Type} {n : Nat} (f : Fin n → α) : Vector α n :=
  ⟨⟨(List.range n).attach.map fun i => f ⟨i.val, List.mem_range.mp i.property⟩⟩, by simp⟩

/-- The list with `x` put before the first entry that `x` is before. -/
def insertBefore {α : Type} (isBefore : α → α → Bool) (x : α) : List α → List α
  | [] => [x]
  | y :: ys => if isBefore x y then x :: y :: ys else y :: insertBefore isBefore x ys

/-- The last `n` entries of a list. -/
def takeLast {α : Type} (n : Nat) (l : List α) : List α := l.drop (l.length - n)

/-! ## Numbers -/

/-- A count raised by one and held at 65535 (for example R26, R92, R108). -/
def bump (n : Nat) : Nat := if n < 65535 then n + 1 else 65535

/-- The value of `x` brought into `lo`..`hi`. -/
def clampInt (lo hi x : Int) : Int := if x < lo then lo else if hi < x then hi else x

/-- The value of `x` brought into `lo`..`hi`. -/
def clampNat (lo hi x : Nat) : Nat := if x < lo then lo else if hi < x then hi else x

/-! ## Show time (00 Conventions, R49) -/

/-- Tick `t` is before tick `u`: the signed difference `u - t` is positive. -/
def tickBefore (t u : Tick) : Bool := decide (0 < (u - t).toInt)

/-- The show tick `now` has reached `t`: `now` is at or after `t`. -/
def tickReached (now t : Tick) : Bool := decide (0 ≤ (now - t).toInt)

/-- `n` ticks as a tick difference. -/
def ticks (n : Nat) : Tick := BitVec.ofNat 32 n

/-- Milliseconds in show ticks, at 48 ticks per millisecond. -/
def msTicks (ms : Nat) : Tick := ticks (48 * ms)

/-- The ticks from `t` to `u` when `u` is at or after `t`. -/
def ticksFrom (t u : Tick) : Nat := (u - t).toNat

/-- The tick of a sub-tick position: floor(P / 256) (R49). -/
def tickOfSub (p : SubTick) : Tick := (p >>> 8).setWidth 32

/-- The sub-tick position set from a tick: T × 256 (R49). -/
def subOfTick (t : Tick) : SubTick := t.setWidth 40 <<< 8

/-- The sub-tick position `n` sub-ticks after `p`, modulo 2^40. -/
def subAfter (p : SubTick) (n : Nat) : SubTick := p + BitVec.ofNat 40 n

/-- The show tick now. -/
def State.now (s : State) : Tick := s.time.tick

/-- Whether an optional expiry tick has been reached. -/
def State.due? (s : State) (t : Option Tick) : Bool :=
  match t with
  | none => false
  | some t => tickReached s.now t

/-- Whether an optional expiry time in µs has been reached. -/
def State.elapsed? (s : State) (t : Option Nat) : Bool :=
  match t with
  | none => false
  | some t => decide (t ≤ s.time.micros)

/-- One microsecond passes: what a step on an empty queue does (log 1, DESIGN CHOICE). The show tick counter advances at
48,000 ticks per second on either timebase (R49, R50); with RESET_N held low nothing advances. -/
def advance (s : State) : State :=
  if s.resetHeld then s
  else if 1000 ≤ s.time.phase + 48 then
    { s with time := { tick := s.time.tick + 1#32, micros := s.time.micros + 1, phase := s.time.phase + 48 - 1000 } }
  else
    { s with time := { s.time with micros := s.time.micros + 1, phase := s.time.phase + 48 } }

/-! ## Cue order (00 Conventions, Cue numbers) -/

/-- Cue number `a` is before cue number `b`. -/
def CueNumber.before (a b : CueNumber) : Bool :=
  decide (a.major < b.major) || (decide (a.major = b.major) && decide (a.minor < b.minor))

/-- A cue number lies in its ranges, major 1..999 and minor 0..9 (R4). -/
def CueNumber.inRange (n : CueNumber) : Bool :=
  decide (1 ≤ n.major) && decide (n.major ≤ 999) && decide (n.minor ≤ 9)

/-! ## The frames of a command -/

/-- A stored event of the block: it happens unless RESET_N is held low, when every block is in reset (R189). -/
def event (f : State → State) (s : State) : Host.Outcome State Fault Refusal :=
  if s.resetHeld then .next s else .next (f s)

/-- A decision of an owning block: the state it leaves and its answer. -/
abbrev Decision := State × Answer

/-- An answer with no data. -/
def plain (st : Status) : Answer := { status := st, data := .empty }

/-- A refusal by status code: nothing changes. -/
def refuse (st : Status) (s : State) : Decision := (s, plain st)

/-- A request frame that has been taken (R186). In WORKING it is dropped and sets the overrun mark. In IDLE and
ANSWERED the state becomes WORKING, an unread answer is discarded, and the owner decides; its answer is owed until
OWNER_ANSWER (log 4). With RESET_N held low the part takes no transaction (R189). -/
def request (decision : State → Decision) (s : State) : Host.Outcome State Fault Refusal :=
  if s.resetHeld then .next s
  else
    match s.port.state with
    | .working => .next { s with port := { s.port with overrun := true } }
    | .idle | .answered =>
      let taken := decision { s with port := { s.port with state := .working, buffer := none } }
      .next { taken.1 with port := { taken.1.port with owed := some taken.2 } }

end Sys2Proof.Machine
end

