-- ==== Sys2Proof/Machine/Messages.lean ====
section
/-! DEFINITION. The messages of the chair links as bytes, their CRC-16, and the CRC-32 of an image body (R114, R151,
R177). -/

namespace Sys2Proof.Machine

/-! ## Bytes and CRCs -/

/-- A number as `n` bytes, most significant first (R114, R185). -/
def bigEndian : Nat → Nat → List Byte
  | 0, _ => []
  | n + 1, v => BitVec.ofNat 8 (v / 256 ^ n) :: bigEndian n v

/-- The number that bytes spell, most significant first. -/
def fromBigEndian (bytes : List Byte) : Nat := bytes.foldl (fun v b => v * 256 + b.toNat) 0

/-- One bit of the CRC-16: the register shifts left, and takes the generator x^16 + x^12 + x^5 + 1 (R114). -/
def crc16Shift (r : BitVec 16) : BitVec 16 := if r.msb then (r <<< 1) ^^^ 0x1021#16 else r <<< 1

/-- One byte of the CRC-16, most significant bit first (R114). -/
def crc16Byte (r : BitVec 16) (b : Byte) : BitVec 16 :=
  (List.range 8).foldl (fun r _ => crc16Shift r) (r ^^^ (b.setWidth 16 <<< 8))

/-- The CRC-16 of bytes: the register is preset to all ones, and the result is not inverted (R114). -/
def crc16 (bytes : List Byte) : BitVec 16 := bytes.foldl crc16Byte 0xFFFF#16

/-- One bit of the CRC-32, least significant bit first: the generator 04C11DB7h reflected (R177; log 19). -/
def crc32Shift (r : BitVec 32) : BitVec 32 := if r.getLsbD 0 then (r >>> 1) ^^^ 0xEDB88320#32 else r >>> 1

/-- One byte of the CRC-32 (R177). -/
def crc32Byte (r : BitVec 32) (b : Byte) : BitVec 32 :=
  (List.range 8).foldl (fun r _ => crc32Shift r) (r ^^^ b.setWidth 32)

/-- The CRC-32 register after bytes (R177). -/
def crc32Step (r : BitVec 32) (bytes : List Byte) : BitVec 32 := bytes.foldl crc32Byte r

/-- The CRC-32 register's preset, all ones (R177). -/
def crc32Start : BitVec 32 := 0xFFFFFFFF#32

/-- The CRC-32 that a register gives: its inverse (R177). -/
def crc32Result (r : BitVec 32) : BitVec 32 := ~~~r

/-! ## Uplink messages (R114) -/

/-- An uplink message that has passed its checks, less its sequence number. -/
inductive UpMsg where
  | hello (latency : Nat) (monitor : Bool)
  | goPress
  | patchAck (tag : Byte) (okay : Bool)
  | echo (id : Byte) (turnaround : Nat)
  | idle
  deriving DecidableEq, Repr

/-- A HELLO's fields in their values: version 1, latency 0..5000, flags 00h or 01h; none fails the format check. -/
def helloMsg (version : Byte) (latency : Nat) (flags : Byte) : Option UpMsg :=
  if version = 1#8 ∧ latency ≤ 5000 ∧ (flags = 0#8 ∨ flags = 1#8) then some (.hello latency (decide (flags = 1#8)))
  else none

/-- A PATCH ACK's fields in their values: result 00h or 01h; none fails the format check. -/
def patchAckMsg (tag result : Byte) : Option UpMsg :=
  if result = 0#8 then some (.patchAck tag true)
  else if result = 1#8 then some (.patchAck tag false)
  else none

/-- The message of a kind byte and its payload; none fails the format check. -/
def parsePayload (kind : Byte) (payload : List Byte) : Option UpMsg :=
  match kind.toNat, payload with
  | 0x01, [version, hi, lo, flags] => helloMsg version (fromBigEndian [hi, lo]) flags
  | 0x02, [] => some .goPress
  | 0x03, [tag, result] => patchAckMsg tag result
  | 0x04, [id, hi, lo] => some (.echo id (fromBigEndian [hi, lo]))
  | 0x05, [] => some .idle
  | _, _ => none

/-- What the checks of R114 find in the bytes between the delimiters. -/
inductive UplinkCheck where
  | crcError
  | formatError
  | passed (seq : Byte) (msg : UpMsg)
  deriving DecidableEq, Repr

/-- The checks of R114: CRC, then format. -/
def checkUplink (bytes : List Byte) : UplinkCheck :=
  let body := bytes.take (bytes.length - 2)
  let crc := bytes.drop (bytes.length - 2)
  if bytes.length < 2 ∨ crc ≠ bigEndian 2 (crc16 body).toNat then .crcError
  else
    match body with
    | kind :: seq :: len :: payload =>
      if len.toNat = payload.length then
        match parsePayload kind payload with
        | some m => .passed seq m
        | none => .formatError
      else .formatError
    | _ => .formatError

/-! ## Downlink messages (R114, R151) -/

/-- The class byte of a CLICK (R114). -/
def ClickClass.code : ClickClass → Nat
  | .downbeat => 0
  | .beat => 1
  | .sub => 2
  | .countIn => 3

/-- An entry as a PATCH message carries it (R114). -/
def Entry.linkBytes (e : Entry) : List Byte := bigEndian 1 e.device ++ bigEndian 2 e.code ++ bigEndian 2 e.value

/-- A point of the frame lies in a rectangle (R150). -/
def Rect.holds (r : Rect) (line column : Nat) : Bool :=
  decide (r.top ≤ line) && decide (line < r.top + r.height) && decide (r.left ≤ column) &&
    decide (column < r.left + r.width)

/-- The view's width and height for an orientation and a frame size (R150). -/
def viewSize (o : Orientation) (z : Size) : Size :=
  match o with
  | .deg0 | .deg180 => z
  | .deg90 | .deg270 => { width := z.height, height := z.width }

/-- The row and the column of the view that a line and a column of the frame show: the content is rotated with its
rectangle, so this is the translation of R150's table for a rectangle of one pixel, turned round. -/
def viewPoint (o : Orientation) (z : Size) (line column : Nat) : Nat × Nat :=
  match o with
  | .deg0 => (line, column)
  | .deg90 => (z.width - column - 1, line)
  | .deg180 => (z.height - line - 1, z.width - column - 1)
  | .deg270 => (column, z.height - line - 1)

/-- The conductor picture's pixel at a point of the frame, which is not translated (R150): the camera frame's, or black, with
no red, green or blue, where there is none (R141, R145). -/
def conductorPixel (image : Option Nat) (line column : Nat) : BitVec 16 :=
  match image with
  | some k => Config.framePixel k line column
  | none => 0#16

/-- The strip's pixel, or the lamp's within the lamp's square, at a point of the frame that lies in the strip, over a pixel of
the conductor picture (R148, R150). `v` is the point of the view. -/
def Strip.pixel (k : Strip) (line column : Nat) (v : Nat × Nat) (under : BitVec 16) : BitVec 16 :=
  if k.lampRect.holds line column then
    Config.lampPixel k.lamp (v.1 - k.lampView.top) (v.2 - k.lampView.left) under
  else Config.stripPixel k.text k.view.width (v.1 - k.view.top) (v.2 - k.view.left) under

/-- A card's pixel at a row and a column of the chair's view (R149): NO CONDUCTOR is black outside its words, and COUNT-IN
is its bare ground outside the figures of the count, and blank before the first. The conductor picture is no card. -/
def Shown.cardPixel (k : Shown) (view : Size) (row column : Nat) : BitVec 16 :=
  match k with
  | .stopCard first pos => Config.stopCardPixel first pos view.width view.height row column
  | .noConductor => (Config.noConductorInk view.width view.height row column).getD 0#16
  | .countIn none => Config.countInGround
  | .countIn (some n) => (Config.countInInk n view.width view.height row column).getD Config.countInGround
  | .conductor _ _ => 0#16

/-- A picture's pixel at a point of the frame (R147 to R151): a card's in the chair's view, and the conductor picture's with
the strip and lamp over it. What the manual does not draw is a free value (log 12). -/
def Picture.pixel (p : Picture) (line column : Nat) : BitVec 16 :=
  let size : Size := { width := p.width, height := p.height }
  let v := viewPoint p.orientation size line column
  match p.shown with
  | .conductor image strip =>
    let under := conductorPixel image line column
    match strip with
    | some k => if k.rect.holds line column then k.pixel line column v under else under
    | none => under
  | .stopCard _ _ | .noConductor | .countIn _ =>
    p.shown.cardPixel (viewSize p.orientation size) v.1 v.2

/-- A line of a picture, two bytes a pixel (R151). -/
def pictureLine (p : Picture) (line : Nat) : List Byte :=
  (List.range p.width).flatMap fun column => bigEndian 2 (p.pixel line column).toNat

/-- The kind byte of a downlink message (R114). -/
def DownMsg.kind : DownMsg → Byte
  | .train _ => 0x81#8
  | .click _ => 0x82#8
  | .patch _ => 0x83#8
  | .probe _ => 0x84#8
  | .stopMark _ => 0x85#8
  | .video _ _ => 0x86#8

/-- The payload of a downlink message (R114, R151). -/
def DownMsg.payload : DownMsg → List Byte
  | .train n => bigEndian 1 n
  | .click k =>
    bigEndian 1 k.cls.code ++ bigEndian 2 k.bar ++ bigEndian 1 k.beat ++ bigEndian 1 k.sub ++ bigEndian 2 k.tempo
  | .patch m => [m.tag] ++ bigEndian 1 m.entries.length ++ m.entries.flatMap Entry.linkBytes
  | .probe id => [id]
  | .stopMark on => [if on then 1#8 else 0#8]
  | .video line p => bigEndian 2 line ++ pictureLine p line

/-- A downlink message as bytes: kind, two-byte length, payload and CRC (R114). -/
def DownMsg.bytes (m : DownMsg) : List Byte :=
  let body := [m.kind] ++ bigEndian 2 m.payload.length ++ m.payload
  body ++ bigEndian 2 (crc16 body).toNat

end Sys2Proof.Machine
end

