-- ==== Sys2Proof/Decode.lean ====
section
/-! DEFINITION. The bytes of requests and of image records (R184, R185, section 12.3): decoding, and after it the encoding of
the record writes, which BOOK SAVE also writes into an image (R177). -/

namespace Sys2Proof

open Machine

/-- The command that a word spells by the table's bits. No row of spec/opcode_table.json gives bits, so none does
(log 5). -/
def decodeTableWord (_nbits _w : Nat) : Option Instr := none

/-! ## Fields (R185)

A reader takes its field from the front of the operand bytes, and answers the rest. Bytes that run short are BAD_LENGTH;
a selector byte (presence, kind, table) outside its values is OUT_OF_RANGE (log 7). -/

/-- A number of `n` bytes. -/
def readNum (n : Nat) (b : List Byte) : Except Status (Nat × List Byte) :=
  if b.length < n then .error .badLength else .ok (fromBigEndian (b.take n), b.drop n)

/-- A signed number of 2 bytes in two's complement. -/
def readSigned (b : List Byte) : Except Status (Int × List Byte) := do
  let (v, b) ← readNum 2 b
  .ok ((BitVec.ofNat 16 v).toInt, b)

/-- A text: a length byte and its characters. -/
def readText (b : List Byte) : Except Status (Text × List Byte) := do
  let (n, b) ← readNum 1 b
  if b.length < n then .error .badLength else .ok (b.take n, b.drop n)

/-- An optional field: a presence byte, and the field when present. -/
def readOpt {α : Type} (field : List Byte → Except Status (α × List Byte)) (b : List Byte) : Except Status (Option α × List Byte) := do
  let (p, b) ← readNum 1 b
  match p with
  | 0 => .ok (none, b)
  | 1 =>
    let (x, b) ← field b
    .ok (some x, b)
  | _ => .error .outOfRange

/-- `n` fields in a row. -/
def readTimes {α : Type} (field : List Byte → Except Status (α × List Byte)) : Nat → List Byte → Except Status (List α × List Byte)
  | 0, b => .ok ([], b)
  | n + 1, b => do
    let (x, b) ← field b
    let (xs, b) ← readTimes field n b
    .ok (x :: xs, b)

/-- A list: a count byte and its entries. -/
def readList {α : Type} (field : List Byte → Except Status (α × List Byte)) (b : List Byte) : Except Status (List α × List Byte) := do
  let (n, b) ← readNum 1 b
  readTimes field n b

/-- A parameter entry (R6). -/
def readEntry (b : List Byte) : Except Status (Entry × List Byte) := do
  let (device, b) ← readNum 1 b
  let (code, b) ← readNum 2 b
  let (value, b) ← readNum 2 b
  .ok ({ device := device, code := code, value := value }, b)

/-- A cue number: the major in 2 bytes and the minor in 1. -/
def readCueNumber (b : List Byte) : Except Status ((Nat × Nat) × List Byte) := do
  let (major, b) ← readNum 2 b
  let (minor, b) ← readNum 1 b
  .ok ((major, minor), b)

/-- A trigger (R4). -/
def readTrigger (b : List Byte) : Except Status (Trigger × List Byte) := do
  let (kind, b) ← readNum 1 b
  match kind with
  | 0 => .ok (.go, b)
  | 1 =>
    let (bar, b) ← readNum 2 b
    let (beat, b) ← readNum 1 b
    let (lead, b) ← readNum 1 b
    .ok (.bar bar beat lead, b)
  | 2 =>
    let (delay, b) ← readNum 2 b
    .ok (.follow delay, b)
  | _ => .error .outOfRange

/-- A tempo action (R4). -/
def readTempo (b : List Byte) : Except Status (TempoAction × List Byte) := do
  let (kind, b) ← readNum 1 b
  match kind with
  | 0 =>
    let (song, b) ← readNum 1 b
    let (bar, b) ← readNum 2 b
    .ok (.start song bar, b)
  | 1 => .ok (.hold, b)
  | 2 => .ok (.release, b)
  | 3 =>
    let (value, b) ← readNum 2 b
    .ok (.setTempo value, b)
  | 4 => .ok (.park, b)
  | _ => .error .outOfRange

/-- A vamp action (R4). -/
def readVamp (b : List Byte) : Except Status (VampAction × List Byte) := do
  let (kind, b) ← readNum 1 b
  match kind with
  | 0 =>
    let (first, b) ← readNum 2 b
    let (last, b) ← readNum 2 b
    .ok (.vamp first last, b)
  | 1 => .ok (.exit, b)
  | _ => .error .outOfRange

/-- A station action (R4). -/
def readAction (b : List Byte) : Except Status (ActionWrite × List Byte) := do
  let (chair, b) ← readNum 1 b
  let (patch, b) ← readOpt (readNum 2) b
  let (click, b) ← readNum 1 b
  .ok ({ chair := chair, patch := patch, click := click }, b)

/-! ## Record writes (R1 to R10, R185) -/

/-- A song write (R1). -/
def readSong (b : List Byte) : Except Status (SongWrite × List Byte) := do
  let (number, b) ← readNum 1 b
  let (title, b) ← readText b
  let (firstBar, b) ← readNum 2 b
  let (lastBar, b) ← readNum 2 b
  let (keyRole, b) ← readOpt (readNum 1) b
  .ok ({ number := number, title := title, firstBar := firstBar, lastBar := lastBar, keyRole := keyRole }, b)

/-- A segment write (R2). -/
def readSegment (b : List Byte) : Except Status (SegmentWrite × List Byte) := do
  let (song, b) ← readNum 1 b
  let (startBar, b) ← readNum 2 b
  let (beats, b) ← readNum 1 b
  let (unit, b) ← readNum 1 b
  let (startTempo, b) ← readNum 2 b
  let (endTempo, b) ← readNum 2 b
  let (ramp, b) ← readNum 1 b
  let (subdivision, b) ← readNum 1 b
  let (follow, b) ← readNum 1 b
  .ok ({ song := song, startBar := startBar, beatsPerBar := beats, beatUnit := unit, startTempo := startTempo,
         endTempo := endTempo, ramp := ramp, subdivision := subdivision, follow := follow }, b)

/-- A patch write (R6). -/
def readPatch (b : List Byte) : Except Status (PatchWrite × List Byte) := do
  let (chair, b) ← readNum 1 b
  let (number, b) ← readNum 2 b
  let (base, b) ← readList readEntry b
  let (v1, b) ← readOpt (readList readEntry) b
  let (v2, b) ← readOpt (readList readEntry) b
  let (v3, b) ← readOpt (readList readEntry) b
  .ok ({ chair := chair, number := number, base := base, v1 := v1, v2 := v2, v3 := v3 }, b)

/-- A cue write (R4). -/
def readCue (b : List Byte) : Except Status (CueWrite × List Byte) := do
  let (n, b) ← readCueNumber b
  let (song, b) ← readOpt (readNum 1) b
  let (trigger, b) ← readTrigger b
  let (mask, b) ← readNum 1 b
  let (actions, b) ← readList readAction b
  let (tempo, b) ← readOpt readTempo b
  let (vamp, b) ← readOpt readVamp b
  let (text, b) ← readOpt readText b
  .ok ({ major := n.1, minor := n.2, song := song, trigger := trigger, mask := mask, actions := actions,
         tempo := tempo, vamp := vamp, text := text }, b)

/-- A chair write (R9). -/
def readChair (b : List Byte) : Except Status (ChairWrite × List Byte) := do
  let (chair, b) ← readNum 1 b
  let (label, b) ← readText b
  let (enabled, b) ← readNum 1 b
  let (trim, b) ← readSigned b
  let (subClicks, b) ← readNum 1 b
  let (goRights, b) ← readNum 1 b
  let (orientation, b) ← readNum 1 b
  let (placement, b) ← readNum 1 b
  let (shown, b) ← readNum 1 b
  .ok ({ chair := chair, label := label, enabled := enabled, trim := trim, subClicks := subClicks,
         goRights := goRights, orientation := orientation, placement := placement, overlay := shown }, b)

/-- A role write (R8). -/
def readRole (b : List Byte) : Except Status ((Nat × Nat) × List Byte) := do
  let (role, b) ← readNum 1 b
  let (key, b) ← readNum 1 b
  .ok ((role, key), b)

/-- A settings write (R10). -/
def readSettings (b : List Byte) : Except Status (SettingsWrite × List Byte) := do
  let (goGuard, b) ← readNum 2 b
  let (deadband, b) ← readNum 2 b
  let (maxStep, b) ← readNum 2 b
  let (band, b) ← readNum 1 b
  let (width, b) ← readNum 2 b
  let (height, b) ← readNum 2 b
  let (rate, b) ← readNum 1 b
  let (failover, b) ← readNum 2 b
  let (autoRevert, b) ← readNum 1 b
  let (houseSync, b) ← readNum 1 b
  let (touch, b) ← readNum 1 b
  let (deep, b) ← readNum 1 b
  let (hysteresis, b) ← readNum 1 b
  .ok ({ goGuard := goGuard, deadband := deadband, maxStep := maxStep, band := band, width := width,
         height := height, rate := rate, failover := failover, autoRevert := autoRevert, houseSync := houseSync,
         touch := touch, deep := deep, hysteresis := hysteresis }, b)

/-- A table of the book from its code 1 to 7 (R177, R185). -/
def tableOf : Nat → Option Table
  | 1 => some .songs
  | 2 => some .segments
  | 3 => some .patches
  | 4 => some .cues
  | 5 => some .chairs
  | 6 => some .roles
  | 7 => some .settings
  | _ => none

/-- The key and fields of a record write of a table. -/
def readFields (t : Table) (b : List Byte) : Except Status (RecordWrite × List Byte) :=
  match t with
  | .songs => do
    let (w, b) ← readSong b
    .ok (.song w, b)
  | .segments => do
    let (w, b) ← readSegment b
    .ok (.segment w, b)
  | .patches => do
    let (w, b) ← readPatch b
    .ok (.patch w, b)
  | .cues => do
    let (w, b) ← readCue b
    .ok (.cue w, b)
  | .chairs => do
    let (w, b) ← readChair b
    .ok (.chair w, b)
  | .roles => do
    let (w, b) ← readRole b
    .ok (.role w.1 w.2, b)
  | .settings => do
    let (w, b) ← readSettings b
    .ok (.settings w, b)

/-- A table code. -/
def readTable (b : List Byte) : Except Status (Table × List Byte) := do
  let (code, b) ← readNum 1 b
  match tableOf code with
  | some t => .ok (t, b)
  | none => .error .outOfRange

/-- A record write: a table code, then the key and fields. -/
def readWrite (b : List Byte) : Except Status (RecordWrite × List Byte) := do
  let (t, b) ← readTable b
  readFields t b

/-- A table and a key (R185). -/
def readKey (b : List Byte) : Except Status (RecordKey × List Byte) := do
  let (t, b) ← readTable b
  match t with
  | .songs =>
    let (n, b) ← readNum 1 b
    .ok (.song n, b)
  | .segments =>
    let (song, b) ← readNum 1 b
    let (bar, b) ← readNum 2 b
    .ok (.segment song bar, b)
  | .patches =>
    let (chair, b) ← readNum 1 b
    let (n, b) ← readNum 2 b
    .ok (.patch chair n, b)
  | .cues =>
    let (n, b) ← readCueNumber b
    .ok (.cue n.1 n.2, b)
  | .chairs =>
    let (n, b) ← readNum 1 b
    .ok (.chair n, b)
  | .roles =>
    let (n, b) ← readNum 1 b
    .ok (.role n, b)
  | .settings => .ok (.settings, b)

/-! ## Requests (R184, section 12.3) -/

/-- A request whose one operand is a byte. -/
def readByteOp (f : Nat → Instr) (b : List Byte) : Except Status (Instr × List Byte) := do
  let (n, b) ← readNum 1 b
  .ok (f n, b)

/-- A request whose operands are a table and a key. -/
def readKeyOp (f : RecordKey → Instr) (b : List Byte) : Except Status (Instr × List Byte) := do
  let (k, b) ← readKey b
  .ok (f k, b)

/-- The operands of STATUS READ: the part, and a chair number for part 3 (R188). -/
def readStatusOp (b : List Byte) : Except Status (Instr × List Byte) := do
  let (part, b) ← readNum 1 b
  if part = 3 then
    let (chair, b) ← readNum 1 b
    .ok (.statusRead part (some chair), b)
  else .ok (.statusRead part none, b)

/-- The operands of a command code (section 12.3): BAD_COMMAND for a code that is not in the table. -/
def readCommand (code : Nat) (b : List Byte) : Except Status (Instr × List Byte) :=
  match code with
  | 0x10 => do
    let (w, b) ← readWrite b
    .ok (.recordWrite w, b)
  | 0x11 => readKeyOp .recordRead b
  | 0x12 => readKeyOp .recordRetire b
  | 0x13 => readKeyOp .cursorSet b
  | 0x14 => .ok (.cursorRead, b)
  | 0x15 => .ok (.bookClear, b)
  | 0x16 => .ok (.bookInfo, b)
  | 0x17 => readByteOp .bookLoad b
  | 0x18 => readByteOp .bookSave b
  | 0x19 => do
    let (w, b) ← readRole b
    .ok (.castSet w.1 w.2, b)
  | 0x1A => readByteOp .songCut b
  | 0x1B => readByteOp .songRestore b
  | 0x20 => .ok (.showOpen, b)
  | 0x21 => .ok (.showClose, b)
  | 0x22 => .ok (.go, b)
  | 0x23 => do
    let (n, b) ← readCueNumber b
    .ok (.standbySet n.1 n.2, b)
  | 0x24 => .ok (.standbyNext, b)
  | 0x25 => .ok (.standbyBack, b)
  | 0x26 => .ok (.vampRelease, b)
  | 0x27 => .ok (.stop, b)
  | 0x28 => do
    let (n, b) ← readCueNumber b
    let (bars, b) ← readNum 1 b
    .ok (.resume n.1 n.2 bars, b)
  | 0x30 => do
    let (w, b) ← readChair b
    .ok (.stationSet w, b)
  | 0x31 => do
    let (chair, b) ← readNum 1 b
    let (entries, b) ← readList readEntry b
    .ok (.rigWrite chair entries, b)
  | 0x32 => readByteOp .realign b
  | 0x38 => readByteOp .videoSelect b
  | 0x40 => do
    let (source, b) ← readNum 1 b
    let (window, b) ← readNum 1 b
    let (action, b) ← readNum 1 b
    .ok (.faultSet source window action, b)
  | 0x41 => readByteOp .faultRead b
  | 0x42 => .ok (.faultClear, b)
  | 0x48 => .ok (.padReseed, b)
  | 0x50 => readStatusOp b
  | 0x51 => do
    let (mask, b) ← readNum 2 b
    .ok (.eventMask (BitVec.ofNat 16 mask), b)
  | 0x52 => .ok (.stopRecordRead, b)
  | 0x5F => .ok (.systemReset, b)
  | _ => .error .badCommand

/-- A field that must fill its bytes exactly (R184, R185). -/
def whole {α : Type} (r : Except Status (α × List Byte)) : Except Status α :=
  match r with
  | .ok (x, []) => .ok x
  | .ok (_, _ :: _) => .error .badLength
  | .error st => .error st

/-- The request of a frame's bytes after its opening byte, by the ordered checks of R184. -/
def decodeFrame (bytes : List Byte) : Except Status Instr :=
  match bytes with
  | code :: hi :: lo :: operands =>
    let length := fromBigEndian [hi, lo]
    if operands.length ≠ length ∨ 1600 < length then .error .badLength
    else whole (readCommand code.toNat operands)
  | _ => .error .badLength

/-! ## Encoding (R185, R177) -/

/-- A signed number as 2 bytes. -/
def putSigned (v : Int) : List Byte := bigEndian 2 (BitVec.ofInt 16 v).toNat

/-- A text as bytes. -/
def putText (t : Text) : List Byte := bigEndian 1 t.length ++ t

/-- An optional field as bytes. -/
def putOpt {α : Type} (put : α → List Byte) : Option α → List Byte
  | none => bigEndian 1 0
  | some x => bigEndian 1 1 ++ put x

/-- A list as bytes. -/
def putList {α : Type} (put : α → List Byte) (l : List α) : List Byte := bigEndian 1 l.length ++ l.flatMap put

/-- A parameter entry as bytes. -/
def putEntry (e : Entry) : List Byte := bigEndian 1 e.device ++ bigEndian 2 e.code ++ bigEndian 2 e.value

/-- A trigger as bytes. -/
def putTrigger : Trigger → List Byte
  | .go => bigEndian 1 0
  | .bar bar beat lead => bigEndian 1 1 ++ bigEndian 2 bar ++ bigEndian 1 beat ++ bigEndian 1 lead
  | .follow delay => bigEndian 1 2 ++ bigEndian 2 delay

/-- A tempo action as bytes. -/
def putTempo : TempoAction → List Byte
  | .start song bar => bigEndian 1 0 ++ bigEndian 1 song ++ bigEndian 2 bar
  | .hold => bigEndian 1 1
  | .release => bigEndian 1 2
  | .setTempo value => bigEndian 1 3 ++ bigEndian 2 value
  | .park => bigEndian 1 4

/-- A vamp action as bytes. -/
def putVamp : VampAction → List Byte
  | .vamp first last => bigEndian 1 0 ++ bigEndian 2 first ++ bigEndian 2 last
  | .exit => bigEndian 1 1

/-- A station action as bytes. -/
def putAction (a : ActionWrite) : List Byte :=
  bigEndian 1 a.chair ++ putOpt (bigEndian 2) a.patch ++ bigEndian 1 a.click

/-- A song write as bytes. -/
def putSongWrite (w : SongWrite) : List Byte :=
  bigEndian 1 w.number ++ putText w.title ++ bigEndian 2 w.firstBar ++ bigEndian 2 w.lastBar ++
    putOpt (bigEndian 1) w.keyRole

/-- A segment write as bytes. -/
def putSegmentWrite (w : SegmentWrite) : List Byte :=
  bigEndian 1 w.song ++ bigEndian 2 w.startBar ++ bigEndian 1 w.beatsPerBar ++ bigEndian 1 w.beatUnit ++
    bigEndian 2 w.startTempo ++ bigEndian 2 w.endTempo ++ bigEndian 1 w.ramp ++ bigEndian 1 w.subdivision ++
    bigEndian 1 w.follow

/-- A patch write as bytes. -/
def putPatchWrite (w : PatchWrite) : List Byte :=
  bigEndian 1 w.chair ++ bigEndian 2 w.number ++ putList putEntry w.base ++ putOpt (putList putEntry) w.v1 ++
    putOpt (putList putEntry) w.v2 ++ putOpt (putList putEntry) w.v3

/-- A cue write as bytes. -/
def putCueWrite (w : CueWrite) : List Byte :=
  bigEndian 2 w.major ++ bigEndian 1 w.minor ++ putOpt (bigEndian 1) w.song ++ putTrigger w.trigger ++
    bigEndian 1 w.mask ++ putList putAction w.actions ++ putOpt putTempo w.tempo ++ putOpt putVamp w.vamp ++
    putOpt putText w.text

/-- A chair write as bytes. -/
def putChairWrite (w : ChairWrite) : List Byte :=
  bigEndian 1 w.chair ++ putText w.label ++ bigEndian 1 w.enabled ++ putSigned w.trim ++ bigEndian 1 w.subClicks ++
    bigEndian 1 w.goRights ++ bigEndian 1 w.orientation ++ bigEndian 1 w.placement ++ bigEndian 1 w.overlay

/-- A role write as bytes. -/
def putRoleWrite (role key : Nat) : List Byte := bigEndian 1 role ++ bigEndian 1 key

/-- A settings write as bytes. -/
def putSettingsWrite (w : SettingsWrite) : List Byte :=
  bigEndian 2 w.goGuard ++ bigEndian 2 w.deadband ++ bigEndian 2 w.maxStep ++ bigEndian 1 w.band ++
    bigEndian 2 w.width ++ bigEndian 2 w.height ++ bigEndian 1 w.rate ++ bigEndian 2 w.failover ++
    bigEndian 1 w.autoRevert ++ bigEndian 1 w.houseSync ++ bigEndian 1 w.touch ++ bigEndian 1 w.deep ++
    bigEndian 1 w.hysteresis

/-- The key and fields of a record write as bytes. -/
def putFields : RecordWrite → List Byte
  | .song w => putSongWrite w
  | .segment w => putSegmentWrite w
  | .patch w => putPatchWrite w
  | .cue w => putCueWrite w
  | .chair w => putChairWrite w
  | .role role key => putRoleWrite role key
  | .settings w => putSettingsWrite w

/-- The table that a record write names. -/
def writeTable : RecordWrite → Table
  | .song _ => .songs
  | .segment _ => .segments
  | .patch _ => .patches
  | .cue _ => .cues
  | .chair _ => .chairs
  | .role _ _ => .roles
  | .settings _ => .settings

/-- A table's code (R177, R185). -/
def tableCode : Table → Nat
  | .songs => 1
  | .segments => 2
  | .patches => 3
  | .cues => 4
  | .chairs => 5
  | .roles => 6
  | .settings => 7

/-- A key as bytes. -/
def putKey : RecordKey → List Byte
  | .song n => bigEndian 1 1 ++ bigEndian 1 n
  | .segment song bar => bigEndian 1 2 ++ bigEndian 1 song ++ bigEndian 2 bar
  | .patch chair n => bigEndian 1 3 ++ bigEndian 1 chair ++ bigEndian 2 n
  | .cue major minor => bigEndian 1 4 ++ bigEndian 2 major ++ bigEndian 1 minor
  | .chair n => bigEndian 1 5 ++ bigEndian 1 n
  | .role n => bigEndian 1 6 ++ bigEndian 1 n
  | .settings => bigEndian 1 7

/-- STATUS READ's command code and operands: the chair number comes with part 3 alone (R188). -/
def putStatusRead (part : Nat) (chair : Option Nat) : Option (Nat × List Byte) :=
  match chair with
  | some c => if part = 3 then some (0x50, bigEndian 1 part ++ bigEndian 1 c) else none
  | none => if part = 3 then none else some (0x50, bigEndian 1 part)

/-- The command code and operand bytes of a request; none for a command that is no request of section 12.3. -/
def putRequest : Instr → Option (Nat × List Byte)
  | .recordWrite w => some (0x10, bigEndian 1 (tableCode (writeTable w)) ++ putFields w)
  | .recordRead k => some (0x11, putKey k)
  | .recordRetire k => some (0x12, putKey k)
  | .cursorSet k => some (0x13, putKey k)
  | .cursorRead => some (0x14, [])
  | .bookClear => some (0x15, [])
  | .bookInfo => some (0x16, [])
  | .bookLoad slot => some (0x17, bigEndian 1 slot)
  | .bookSave slot => some (0x18, bigEndian 1 slot)
  | .castSet role key => some (0x19, putRoleWrite role key)
  | .songCut n => some (0x1A, bigEndian 1 n)
  | .songRestore n => some (0x1B, bigEndian 1 n)
  | .showOpen => some (0x20, [])
  | .showClose => some (0x21, [])
  | .go => some (0x22, [])
  | .standbySet major minor => some (0x23, bigEndian 2 major ++ bigEndian 1 minor)
  | .standbyNext => some (0x24, [])
  | .standbyBack => some (0x25, [])
  | .vampRelease => some (0x26, [])
  | .stop => some (0x27, [])
  | .resume major minor bars => some (0x28, bigEndian 2 major ++ bigEndian 1 minor ++ bigEndian 1 bars)
  | .stationSet w => some (0x30, putChairWrite w)
  | .rigWrite chair entries => some (0x31, bigEndian 1 chair ++ putList putEntry entries)
  | .realign chair => some (0x32, bigEndian 1 chair)
  | .videoSelect mode => some (0x38, bigEndian 1 mode)
  | .faultSet source window action => some (0x40, bigEndian 1 source ++ bigEndian 1 window ++ bigEndian 1 action)
  | .faultRead source => some (0x41, bigEndian 1 source)
  | .faultClear => some (0x42, [])
  | .padReseed => some (0x48, [])
  | .statusRead part chair => putStatusRead part chair
  | .eventMask mask => some (0x51, bigEndian 2 mask.toNat)
  | .stopRecordRead => some (0x52, [])
  | .systemReset => some (0x5F, [])
  | .powerOn _ | .requestFrame _ | .ownerAnswer | .answerRead _ | .beatProduction | .songEnd | .barTrigger
  | .followTimerExpiry | .goGuardExpiry | .countInBeat | .countInEnd | .syncLock | .syncUnlock | .clickSend _
  | .patchTimeout _ | .probePeriod _ | .probeLost _ | .lineActivity _ | .holdOffExpiry _ | .trainFrame _
  | .trainingTimeout _ | .silenceTimeout _ | .leakStep | .uplinkDamaged _ _ | .hello _ _ _ _ _ | .goPress _ _
  | .patchAck _ _ _ _ | .echo _ _ _ _ | .idle _ _ | .downlinkGrant _ | .cameraFrameStart _
  | .cameraFrameArrival _ _ _ | .signalWatchExpiry _ | .failoverExpiry | .outputFrameBoundary | .padSample _
  | .padLoss | .holdPoint | .stopPoint | .stopInChange _ | .stopLineDebounce | .faultSampleStep | .armingExpiry
  | .imageHeaderRead _ | .imageRecordInstall _ _ _ | .imageBodyEnd | .slotEraseDone _ | .eraseTimeout
  | .imageRecordWrite _ | .programTimeout | .imageHeaderWrite _ | .resetNAsserted => none

/-- The bytes of a request frame after its opening byte (section 12.1). -/
def putFrame (code : Nat) (operands : List Byte) : List Byte :=
  bigEndian 1 code ++ bigEndian 2 operands.length ++ operands

end Sys2Proof
end

