-- ==== Sys2Proof/Machine/Book.lean ====
section
/-! DEFINITION. The Book Store's lookups, counts and table changes (R1 to R7, R24). -/

namespace Sys2Proof.Machine

/-! ## Lookups -/

/-- The song record of a number (R1). -/
def Book.song? (b : Book) (n : Nat) : Option Song := b.songs.find? fun r => decide (r.number = n)

/-- The segment record of a key (R2). -/
def Book.segment? (b : Book) (song startBar : Nat) : Option Segment :=
  b.segments.find? fun r => decide (r.song = song) && decide (r.startBar = startBar)

/-- The patch record of a key (R6). -/
def Book.patch? (b : Book) (c : Chair) (n : Nat) : Option Patch :=
  b.patches.find? fun r => decide (r.chair = c) && decide (r.number = n)

/-- The cue record of a number (R4). -/
def Book.cue? (b : Book) (n : CueNumber) : Option Cue := b.cues.find? fun r => decide (r.number = n)

/-- A song that exists and whose running flag is CUT (R1). -/
def Book.songCut (b : Book) (n : Nat) : Bool :=
  match b.song? n with
  | some r => decide (r.running = .cut)
  | none => false

/-- A cue's own song is CUT; a cue with no song is never of a CUT song (R27). -/
def Book.cueCut (b : Book) (c : Cue) : Bool :=
  match c.song with
  | some n => b.songCut n
  | none => false

/-- The segment that governs a bar: the last of the song's segments that starts at or before it (R2). -/
def Book.governing? (b : Book) (song bar : Nat) : Option Segment :=
  (b.segments.filter fun r => decide (r.song = song) && decide (r.startBar ≤ bar)).getLast?

/-- The song has a segment whose start bar equals its first bar, so that it can be started (R2, R34). -/
def Book.startable (b : Book) (song : Nat) : Bool :=
  match b.song? song with
  | some r => (b.segment? song r.firstBar).isSome
  | none => false

/-- The list of a patch for a variant key: the variant's list if present, and otherwise the base list (R6). -/
def Patch.list (p : Patch) : Variant → List Entry
  | .base => p.base
  | .v1 => p.v1.getD p.base
  | .v2 => p.v2.getD p.base
  | .v3 => p.v3.getD p.base

/-- The patch holds a list of its own for the variant (R6, R33). -/
def Patch.hasList (p : Patch) : Variant → Bool
  | .base => true
  | .v1 => p.v1.isSome
  | .v2 => p.v2.isSome
  | .v3 => p.v3.isSome

/-- The entries of all of a patch's lists (R7). -/
def Patch.size (p : Patch) : Nat :=
  p.base.length + (p.v1.getD []).length + (p.v2.getD []).length + (p.v3.getD []).length

/-- The parameter pool's use (R7). -/
def Book.poolUse (b : Book) : Nat := (b.patches.map Patch.size).sum

/-- The parameter pool's capacity (R7). -/
def poolCapacity : Nat := 16384

/-! ## The tempo map (R2, R54, R59) -/

/-- Beats per bar of a bar; open where no segment governs it (log 11). -/
def Book.beatsIn (b : Book) (song bar : Nat) : Nat :=
  match b.governing? song bar with
  | some g => g.beatsPerBar
  | none => clampNat 1 15 (Config.ungovernedBeats song bar)

/-- Clicks per beat of a bar; open where no segment governs it (log 11). -/
def Book.subdivisionIn (b : Book) (song bar : Nat) : Nat :=
  match b.governing? song bar with
  | some g => g.subdivision
  | none => clampNat 1 4 (Config.ungovernedSubdivision song bar)

/-- The quotient `x / n` rounded half away from zero (R59). -/
def roundHalfAway (x : Int) (n : Nat) : Int :=
  if 0 ≤ x then (2 * x + n) / (2 * n) else -((2 * (-x) + n) / (2 * n))

/-- The mapped tempo of ramp index `k` in a segment (R59). -/
def Segment.tempoAt (g : Segment) (k : Nat) : Nat :=
  if g.ramp = 0 then g.startTempo
  else if k < g.ramp then
    ((g.startTempo : Int) + roundHalfAway (((g.endTempo : Int) - g.startTempo) * k) g.ramp).toNat
  else g.endTempo

/-- The ramp index of a position in its segment (R59). -/
def Segment.rampIndex (g : Segment) (bar beat : Nat) : Nat := (bar - g.startBar) * g.beatsPerBar + (beat - 1)

/-- The mapped tempo of a position, a SET TEMPO override included (R59, R60); open in a bar that no segment governs,
within the legal range (log 11). -/
def Book.mappedTempo (b : Book) (override : Option Nat) (pos : SongPos) : Nat :=
  match override with
  | some t => t
  | none =>
    match b.governing? pos.song pos.bar with
    | some g => g.tempoAt (g.rampIndex pos.bar pos.beat)
    | none => clampNat 2000 30000 (Config.ungovernedTempo pos.song pos.bar pos.beat)

/-- The interval in sub-ticks of a tempo, Q(t) (R54). -/
def beatInterval (t : Nat) : Nat := (73728000000 + t / 2) / t

/-- The interval in whole ticks of a tempo, I(t) (R54). -/
def beatTicks (t : Nat) : Nat := beatInterval t / 256

/-! ## References and counts (R5) -/

/-- The cue names the song, as its own song or as that of its START action (R1). -/
def Cue.namesSong (c : Cue) (n : Nat) : Bool :=
  decide (c.song = some n) ||
    (match c.tempo with
     | some (.start s _) => decide (s = n)
     | _ => false)

/-- A station action of the cue names the patch (R5). -/
def Cue.namesPatch (c : Cue) (chair : Chair) (n : Nat) : Bool :=
  c.actions.any fun a => decide (a.chair = chair) && decide (a.patch = some n)

/-- A count moved by one where the new record names what it counts and the old does not, or the other way about (R5). -/
def shiftCount (old new : Bool) (n : Nat) : Nat :=
  if new && !old then n + 1 else if old && !new then n - 1 else n

/-- The counts after a cue record changes from `old` to `new`; an absent record names nothing (R5). -/
def Book.recount (b : Book) (old new : Option Cue) : Book :=
  { b with
    songs := b.songs.map fun r =>
      { r with cueCount := shiftCount (old.any (·.namesSong r.number)) (new.any (·.namesSong r.number)) r.cueCount }
    patches := b.patches.map fun p =>
      { p with refs := shiftCount (old.any (·.namesPatch p.chair p.number))
                         (new.any (·.namesPatch p.chair p.number)) p.refs } }

/-! ## Table changes -/

/-- The table with the record put in its place: over the record with the same key, or before the first record whose key
it is before. -/
def upsert {α : Type} (same : α → α → Bool) (isBefore : α → α → Bool) (x : α) (l : List α) : List α :=
  if l.any (same x) then l.map fun y => if same x y then x else y else insertBefore isBefore x l

/-- The book with a song record put in (R1). -/
def Book.putSong (b : Book) (r : Song) : Book :=
  { b with songs := upsert (fun x y => decide (x.number = y.number)) (fun x y => decide (x.number < y.number)) r b.songs }

/-- Segment key order: song, then start bar (R2). -/
def Segment.before (x y : Segment) : Bool :=
  decide (x.song < y.song) || (decide (x.song = y.song) && decide (x.startBar < y.startBar))

/-- The book with a segment record put in (R2). -/
def Book.putSegment (b : Book) (r : Segment) : Book :=
  { b with segments :=
      upsert (fun x y => decide (x.song = y.song) && decide (x.startBar = y.startBar)) Segment.before r b.segments }

/-- Patch key order: chair, then number (R6). -/
def Patch.before (x y : Patch) : Bool :=
  decide (x.chair < y.chair) || (decide (x.chair = y.chair) && decide (x.number < y.number))

/-- The book with a patch record put in (R6). -/
def Book.putPatch (b : Book) (r : Patch) : Book :=
  { b with patches :=
      upsert (fun x y => decide (x.chair = y.chair) && decide (x.number = y.number)) Patch.before r b.patches }

/-- The book with a cue record put in and its counts adjusted (R4, R5). -/
def Book.putCue (b : Book) (r : Cue) : Book :=
  let old := b.cue? r.number
  ({ b with cues := upsert (fun x y => decide (x.number = y.number)) (fun x y => x.number.before y.number) r b.cues }).recount
    old (some r)

/-- The book with a song and its segments removed (R19). -/
def Book.dropSong (b : Book) (n : Nat) : Book :=
  { b with
    songs := b.songs.filter fun r => !decide (r.number = n)
    segments := b.segments.filter fun r => !decide (r.song = n) }

/-- The book with a segment removed (R19). -/
def Book.dropSegment (b : Book) (song startBar : Nat) : Book :=
  { b with segments := b.segments.filter fun r => !(decide (r.song = song) && decide (r.startBar = startBar)) }

/-- The book with a cue removed and its counts adjusted (R5, R19). -/
def Book.dropCue (b : Book) (n : CueNumber) : Book :=
  let old := b.cue? n
  ({ b with cues := b.cues.filter fun r => !decide (r.number = n) }).recount old none

/-- The book with a patch removed (R19). -/
def Book.dropPatch (b : Book) (c : Chair) (n : Nat) : Book :=
  { b with patches := b.patches.filter fun r => !(decide (r.chair = c) && decide (r.number = n)) }

/-- The book with a song's running flag set (R20, R21). -/
def Book.setRunning (b : Book) (n : Nat) (flag : Running) : Book :=
  { b with songs := b.songs.map fun r => if r.number = n then { r with running := flag } else r }

/-- The book with its revision count raised by one, wrapping from 65535 to 0 (R11). -/
def Book.revise (b : Book) : Book := { b with revision := (b.revision + 1) % 65536 }

/-- The Book Store's state has a chair record's field. -/
def State.chairRec (s : State) (c : Chair) : ChairRec := s.book.chairs[c]

/-- The role table's entry for a role 1..32; BASE for a number that names no role. -/
def Book.roleKey (b : Book) (role : Nat) : Variant :=
  if h : 1 ≤ role ∧ role ≤ 32 then b.roles[role - 1]'(by omega) else .base

/-! ## What the clock tells the Book Store (R3) -/

/-- The clock's current song: its song in any state but PARKED (R3). -/
def State.currentSong (s : State) : Option Nat :=
  if s.clock.state = .parked then none else s.clock.pos.map (·.song)

/-- The song is the clock's current song (R12, R19, R20). -/
def State.isCurrentSong (s : State) (n : Nat) : Bool := decide (s.currentSong = some n)

/-- The segment in force (R3). -/
def State.segmentInForce (s : State) : Option Segment :=
  if s.clock.state = .parked then none
  else
    match s.clock.pos with
    | some p => s.book.governing? p.song p.bar
    | none => none

end Sys2Proof.Machine
end

