-- ==== Sys2Proof/Machine/Flags.lean ====
section
/-! DEFINITION. The event flags of the Control Port and the two output lines computed from the state (R186, R187). -/

namespace Sys2Proof.Machine

/-- The ten event flags, in bit order (R187). -/
inductive EventFlag where
  | cueFired | cueDone | goIgnored | clockChange | stopChange | faultLive | faultHeld | chairChange | videoChange
  | imageDone
  deriving DecidableEq, Repr

/-- The bit of an event flag (R187). -/
def EventFlag.bit : EventFlag → BitVec 10
  | .cueFired => 0x001#10
  | .cueDone => 0x002#10
  | .goIgnored => 0x004#10
  | .clockChange => 0x008#10
  | .stopChange => 0x010#10
  | .faultLive => 0x020#10
  | .faultHeld => 0x040#10
  | .chairChange => 0x080#10
  | .videoChange => 0x100#10
  | .imageDone => 0x200#10

/-- An event flag is set; one already set stays set (R187). -/
def flag (f : EventFlag) (s : State) : State :=
  { s with port := { s.port with flags := s.port.flags ||| f.bit } }

/-- The RDY line: high in ANSWERED, low otherwise and while RESET_N is held low (R186, R189). -/
def rdy (s : State) : Bool := !s.resetHeld && decide (s.port.state = .answered)

/-- The ATTN line is low (asserted) while a flag whose mask bit is clear is set; it is high while RESET_N is held low
(R187, R189). -/
def attnLow (s : State) : Bool :=
  !s.resetHeld && decide (s.port.flags &&& ~~~(s.port.mask.setWidth 10) ≠ 0#10)

end Sys2Proof.Machine
end

