-- ==== Sys2Proof/Machine/Clicks.lean ====
section
/-! DEFINITION. The Click Scheduler: filter, basis, trim and advance, the due list and its messages (R76 to R90), with the
CLICK part of a link's downlink holding (R119). -/

namespace Sys2Proof.Machine

/-! ## One chair's state -/

/-- A chair's click state changed by `f`. -/
def onClicks (c : Chair) (f : ClickChair → ClickChair) (s : State) : State :=
  { s with clicks := modifyAt s.clicks c f }

/-- A chair's link changed by `f`. -/
def onLink (c : Chair) (f : Link → Link) (s : State) : State := { s with links := modifyAt s.links c f }

/-- A chair's dispatch state changed by `f`. -/
def onDispatch (c : Chair) (f : Dispatch → Dispatch) (s : State) : State := { s with patch := modifyAt s.patch c f }

/-- The filtered value: the floor of the mean of the filter's samples, none while it is empty (R76, R85). -/
def ClickChair.filtered (k : ClickChair) : Option Nat :=
  if k.filter.isEmpty then none else some (k.filter.sum / k.filter.length)

/-- The advance in ticks of a basis and a trim (R89). -/
def advanceOf (basis : Nat) (trim : Int) : Nat :=
  (clampInt 0 720 ((((basis : Int) + trim) * 48 + 500) / 1000)).toNat

/-- The advance recomputed from the basis and the applied trim (R89). -/
def ClickChair.recompute (k : ClickChair) : ClickChair := { k with advance := advanceOf k.basis k.trim }

/-- The clock is PARKED or FROZEN, when a basis and a trim may be applied (R87, R88). -/
def State.clockAtRest (s : State) : Bool := decide (s.clock.state = .parked) || decide (s.clock.state = .frozen)

/-- A new sample joins a chair's filter; with the clock PARKED or FROZEN the new filtered value becomes the basis (R85,
R87). -/
def addSample (c : Chair) (x : Nat) (s : State) : State :=
  let rest := s.clockAtRest
  onClicks c (fun k =>
    let k := { k with filter := takeLast 4 (k.filter ++ [x]) }
    if rest then ({ k with basis := k.filtered.getD k.basis }).recompute else k) s

/-- The clock has become PARKED or FROZEN: each chair's basis takes its filtered value, and its applied trim the record's
trim (R87, R88). -/
def settleClicks (s : State) : State :=
  { s with clicks := tabulateChairs fun c =>
      ({ s.clicks[c] with basis := s.clicks[c].filtered.getD s.clicks[c].basis, trim := (s.chairRec c).trim }).recompute }

/-- A change of chair records has been taken: with the clock PARKED or FROZEN each applied trim becomes the record's trim
at once, and otherwise it is kept (R88). -/
def takeTrims (s : State) : State :=
  if s.clockAtRest then
    { s with clicks := tabulateChairs fun c => ({ s.clicks[c] with trim := (s.chairRec c).trim }).recompute }
  else s

/-! ## The due list -/

/-- An item whose part for the chair takes a state. -/
def DueItem.withPart (i : DueItem) (c : Chair) (st : PartState) : DueItem :=
  { i with parts := modifyAt i.parts c fun p => { p with state := st } }

/-- The first item that `which` names has its part for the chair take a state. Two items may hold equal clicks, as after
two STARTs at one tick, and each has a message of its own, so one item changes at a time. -/
def markPart (c : Chair) (st : PartState) (which : DueItem → Bool) : List DueItem → List DueItem
  | [] => []
  | i :: rest => if which i then i.withPart c st :: rest else i :: markPart c st which rest

/-- Every chair's part of the item is DONE (R77). -/
def DueItem.finished (i : DueItem) : Bool := i.parts.toList.all fun p => decide (p.state = .done)

/-- The chair's part of the first item that `which` names becomes DONE, and an item all of whose parts are DONE leaves
(R77). -/
def finishPart (c : Chair) (which : DueItem → Bool) (s : State) : State :=
  { s with due := (markPart c .done which s.due).filter fun i => !i.finished }

/-- The item holds the click and the chair's part of it is HANDED: the link holds its message (R79). -/
def DueItem.handedTo (i : DueItem) (c : Chair) (k : Click) : Bool :=
  decide (i.click = k) && decide (i.parts[c].state = .handed)

/-- The chair's part is WAITING with its send tick reached at `now` (R79). -/
def DueItem.sendsTo (i : DueItem) (c : Chair) (now : Tick) : Bool :=
  decide (i.parts[c].state = .waiting) && tickReached now i.parts[c].send

/-- The chair receives a click at its send tick (R79). -/
def State.eligible (s : State) (c : Chair) (k : Click) : Bool :=
  s.cue.isOpen && !decide (s.stop.state = .stopped) && (s.chairRec c).enabled && decide (s.links[c].state = .locked) &&
    s.clicks[c].enable && (!decide (k.cls = .sub) || (s.chairRec c).subClicks)

/-- A CLICK message joins the chair's downlink queue (R119). -/
def queueClick (c : Chair) (k : Click) (s : State) : State :=
  onLink c (fun l => { l with clickQueue := l.clickQueue ++ [k] }) s

/-- A chair's part at its hand-off (R77): WAITING, or decided at once where its send tick has been reached (R80). -/
def State.newPart (s : State) (c : Chair) (k : Click) : Part :=
  let send := k.tick - ticks s.clicks[c].advance
  if tickReached s.now send then
    { send := send, state := if s.eligible c k then .handed else .done }
  else { send := send, state := .waiting }

/-- The Tempo Clock hands a click to the Click Scheduler (R77): an item joins the due list in order of click tick, and the
parts already due are decided at once (R80). -/
def handOffClick (k : Click) (s : State) : State :=
  let parts := tabulateChairs fun c => s.newPart c k
  let s := allChairs.foldl (fun s c => if parts[c].state = .handed then queueClick c k s else s) s
  let item : DueItem := { click := k, parts := parts }
  if item.finished then s
  else
    { s with due := insertBefore (fun x y => tickBefore x.click.tick y.click.tick) item s.due }

/-- The first item in which the chair's part is WAITING with its send tick reached (R79). -/
def State.dueClick (s : State) (c : Chair) : Option DueItem :=
  s.due.find? fun i => i.sendsTo c s.now

/-- A chair's part is decided at its send tick (R79). -/
def sendClick (c : Chair) (s : State) : State :=
  match s.dueClick c with
  | none => s
  | some i =>
    let which := fun (j : DueItem) => j.sendsTo c s.now
    if s.eligible c i.click then queueClick c i.click { s with due := markPart c .handed which s.due }
    else finishPart c which s

/-- The items that `gone` names leave the due list, and their HANDED messages are taken back from the links (R78, R119). -/
def withdrawItems (gone : Click → Bool) (s : State) : State :=
  let clicks := (s.due.map (·.click)).filter gone
  { s with
    due := s.due.filter fun i => !gone i.click
    links := tabulateChairs fun c =>
      { s.links[c] with clickQueue := s.links[c].clickQueue.filter fun k => !clicks.contains k } }

/-- The clicks of the announced beat, of the sub-clicks not yet reached and of a count-in's remaining beats are withdrawn
(R58, R72, R78; log 21). -/
def withdrawAbandoned (s : State) : State :=
  withdrawItems (fun k =>
    !tickReached s.now k.tick ||
      (match s.clock.next with
       | some b => decide (k.tick = tickOfSub b.sub) && !decide (k.cls = .sub)
       | none => false)) s

/-- The due list is emptied and every HANDED part is taken back (R81). -/
def cancelClicks (s : State) : State := withdrawItems (fun _ => true) s

/-! ## Drift (R90) -/

/-- The CLICK_DRIFT raw condition of a chair (R90). -/
def State.clickDrift (s : State) (c : Chair) : Bool :=
  (s.chairRec c).enabled && decide (s.links[c].state = .locked) &&
    (match s.clicks[c].filtered with
     | none => false
     | some v =>
       let basis := s.clicks[c].basis
       decide (max (basis / 8) 50 < (if v ≤ basis then basis - v else v - basis)))

end Sys2Proof.Machine
end

