-- ==== Sys2Proof/Machine/CueState.lean ====
section
/-! DEFINITION. The Cue Engine's run states, standby, timers and completions (R25, R36, R37, R39, R42, R46 to R48), with the
overlay fields that the Cue Engine hands over (R146). -/

namespace Sys2Proof.Machine

/-! ## Run states (R25) -/

/-- A cue's entry in the run states. -/
def CueEngine.entry? (e : CueEngine) (n : CueNumber) : Option RunEntry := e.runs.find? fun r => decide (r.cue = n)

/-- A cue's run state; while the show is closed every cue reads PENDING (R25). -/
def State.runState (s : State) (n : CueNumber) : RunState :=
  if s.cue.isOpen then ((s.cue.entry? n).map (·.state)).getD .pending else .pending

/-- The overlay's standby field takes the held follow cue, or the standby cue (R48, R146). -/
def handStandby (s : State) : State :=
  { s with overlay := { s.overlay with standby := s.cue.held.or s.cue.standby } }

/-- The held follow cue becomes the one given, and the overlay is told (R48, R146). -/
def setHeld (n : Option CueNumber) (s : State) : State :=
  handStandby { s with cue := { s.cue with held := n } }

/-- A cue's run entry changed by `f`. -/
def mapRun (n : CueNumber) (f : RunEntry → RunEntry) (s : State) : State :=
  { s with cue := { s.cue with runs := s.cue.runs.map fun r => if r.cue = n then f r else r } }

/-- A cue takes a run state. A held follow cue that leaves PENDING is held no longer (R48). -/
def setRun (n : CueNumber) (st : RunState) (s : State) : State :=
  let s := mapRun n (fun r => { r with state := st, mark := none }) s
  if s.cue.held = some n ∧ st ≠ .pending then setHeld none s else s

/-- A follow timer of the cue, if any, is cancelled (R44). -/
def cancelTimer (n : CueNumber) (s : State) : State :=
  { s with cue := { s.cue with timers := s.cue.timers.filter fun t => !decide (t.cue = n) } }

/-- A cue becomes PASSED, and its follow timer is cancelled (R44). -/
def passCue (n : CueNumber) (s : State) : State := cancelTimer n (setRun n .passed s)

/-- A GO cue. -/
def Cue.isGo (c : Cue) : Bool := decide (c.trigger = .go)

/-- A FOLLOW cue. -/
def Cue.isFollow (c : Cue) : Bool :=
  match c.trigger with
  | .follow _ => true
  | _ => false

/-- A BAR cue. -/
def Cue.isBar (c : Cue) : Bool :=
  match c.trigger with
  | .bar _ _ _ => true
  | _ => false

/-! ## The standby (R36 to R39) -/

/-- The numbers of the PENDING GO cues, in cue order (R36). -/
def State.pendingGo (s : State) : List CueNumber :=
  (s.book.cues.filter fun c => c.isGo && decide (s.runState c.number = .pending)).map (·.number)

/-- The first PENDING GO cue after a cue number, or the first of all (R37, R39). -/
def State.firstGoAfter (s : State) (n : Option CueNumber) : Option CueNumber :=
  s.pendingGo.find? fun m =>
    match n with
    | some n => n.before m
    | none => true

/-- The last PENDING GO cue before a cue number, or the last of all (R39). -/
def State.lastGoBefore (s : State) (n : Option CueNumber) : Option CueNumber :=
  (s.pendingGo.filter fun m =>
    match n with
    | some n => m.before n
    | none => true).getLast?

/-- The standby becomes the cue given, which becomes STANDBY, or none; the overlay is told (R36, R146). -/
def placeStandby (n : Option CueNumber) (s : State) : State :=
  let s := { s with cue := { s.cue with standby := n } }
  let s :=
    match n with
    | some m => setRun m .standby s
    | none => s
  handStandby s

/-- The old standby, if it is still in STANDBY, returns to PENDING (R38, R39, R47). -/
def releaseStandby (s : State) : State :=
  match s.cue.standby with
  | some m => if s.runState m = .standby then setRun m .pending s else s
  | none => s

/-- The standby moves to the cue given, and the old one becomes PENDING (R38, R39). -/
def moveStandby (n : CueNumber) (s : State) : State := placeStandby (some n) (releaseStandby s)

/-- The standby moves when a GO cue fires: GO cues before it that are still ahead become PASSED, and the standby goes to
the first PENDING GO cue after it (R37). -/
def standbyAfterFire (n : CueNumber) (s : State) : State :=
  let passed := (s.book.cues.filter fun c =>
    c.isGo && c.number.before n &&
      (decide (s.runState c.number = .pending) || decide (s.runState c.number = .standby))).map (·.number)
  let s := passed.foldl (fun s m => passCue m s) s
  placeStandby (s.firstGoAfter (some n)) s

/-- STANDBY NEXT (R39). -/
def standbyNext (s : State) : State :=
  match s.cue.standby with
  | some n =>
    match s.firstGoAfter (some n) with
    | some m => moveStandby m s
    | none => s
  | none =>
    match s.firstGoAfter s.cue.lastFired with
    | some m => moveStandby m s
    | none => s

/-- STANDBY BACK (R39). -/
def standbyBack (s : State) : State :=
  match s.cue.standby with
  | some n =>
    match s.lastGoBefore (some n) with
    | some m => moveStandby m s
    | none => s
  | none =>
    match s.lastGoBefore none with
    | some m => moveStandby m s
    | none => s

/-! ## Leaving a song (R42) -/

/-- Every PENDING BAR cue of a song becomes PASSED (R42). -/
def passBarCues (song : Nat) (s : State) : State :=
  let gone := (s.book.cues.filter fun c =>
    c.isBar && decide (c.song = some song) && decide (s.runState c.number = .pending)).map (·.number)
  gone.foldl (fun s m => passCue m s) s

/-! ## Completion (R46, R47) -/

/-- The request is a CUE request of the cue, not detached from it (R25, R107). -/
def PatchReq.isOf (r : PatchReq) (n : CueNumber) : Bool :=
  match r with
  | .cue m detached _ => decide (m = n) && !detached
  | _ => false

/-- A chair's slots hold a CUE request of the cue (R25). -/
def Dispatch.holds (d : Dispatch) (n : CueNumber) : Bool :=
  d.flight.any (fun f => f.req.isOf n) || d.waiting.any (fun r => r.isOf n)

/-- Some chair's slot holds a CUE request of the cue (R25). -/
def State.slotHolds (s : State) (n : CueNumber) : Bool := s.patch.toList.any fun d => d.holds n

/-- The station actions of a cue that name a patch (R46). -/
def Cue.patchActions (c : Cue) : Nat := (c.actions.filter fun a => a.patch.isSome).length

/-- A cue that is marked to return as PENDING has returned to it (R47): a GO cue becomes the standby if none stands or it
stands before it; the FOLLOW resume cue becomes the held follow cue if nothing has intervened. -/
def returnPending (c : Cue) (s : State) : State :=
  let s := setRun c.number .pending s
  if c.isGo && !s.book.cueCut c &&
      (match s.cue.standby with
       | some n => c.number.before n
       | none => true) then
    moveStandby c.number s
  else if c.isFollow && decide (s.cue.holdCandidate = some c.number) then
    setHeld (some c.number) { s with cue := { s.cue with holdCandidate := none } }
  else s

/-- A FIRING cue completes: the completion record is written, CUE_DONE is flagged, and the cue takes COMPLETE or the state
a resume has marked it to return to (R46, R47). -/
def completeCue (n : CueNumber) (s : State) : State :=
  match s.cue.entry? n, s.book.cue? n with
  | some e, some c =>
    let written : Completion := { cue := n, requests := c.patchActions, failed := e.failed }
    let s := { s with cue := { s.cue with completion := some written } }
    let s := flag .cueDone s
    match e.mark with
    | none | some .complete => setRun n .complete s
    | some .passed => setRun n .passed s
    | some .pending => returnPending c s
  | _, _ => s

/-- The outcome of a CUE request reaches the Cue Engine (R46): with the show closed, or for a cue that is not FIRING, it
is dropped; otherwise a failure is counted, and the cue completes when no slot holds a request of it. -/
def cueResolved (n : CueNumber) (o : ReqOutcome) (s : State) : State :=
  if s.cue.isOpen ∧ s.runState n = .firing then
    let s := mapRun n (fun r => { r with failed := if o = .ok then r.failed else r.failed + 1 }) s
    if s.slotHolds n then s else completeCue n s
  else s

end Sys2Proof.Machine
end

