-- ==== Sys2Proof/Machine/Clock.lean ====
section
/-! DEFINITION. The Tempo Clock: state changes, leaving a song, announcing and producing beats, starts, vamps, holds,
freeze, count-in and tap-follow (R49 to R75), with the BAR triggers that an announcement makes (R40). -/

namespace Sys2Proof.Machine

/-! ## State changes -/

/-- The clock takes a state. A change flags CLOCK_CHANGE (R51), clears the overlay's position and beat at PARKED (R146) and
applies basis and trims at PARKED and FROZEN (R87, R88). -/
def setClockState (st : ClockState) (s : State) : State :=
  if s.clock.state = st then s
  else
    let s := flag .clockChange { s with clock := { s.clock with state := st } }
    let s :=
      if st = .parked then { s with overlay := { s.overlay with position := none, beat := none } } else s
    if s.clockAtRest then settleClicks s else s

/-- The follow adjustment, the override and the tap series are discarded together (R64). -/
def Clock.dropFollow (k : Clock) : Clock :=
  { k with override := none, adjust := none, tapOnset := none, taps := [] }

/-- The announced beat, a computed song end and a count-in are abandoned: their clicks are withdrawn and the held BAR
triggers dropped (R41, R65, R72, R78). -/
def abandonBeats (s : State) : State :=
  let s := withdrawAbandoned s
  { s with
    clock := { s.clock with next := none, ending := none, countIn := none }
    cue := { s.cue with triggers := [] } }

/-- The clock leaves its song: beats are abandoned, the Cue Engine is told of the departure, and the vamp region, hold
due, override, adjustment and tap series are cleared (R42, R65). -/
def leaveSong (s : State) : State :=
  let song := s.clock.pos.map (·.song)
  let s := abandonBeats s
  let s := { s with clock := { s.clock.dropFollow with vamp := none, holdDue := false } }
  match song with
  | some n => passBarCues n s
  | none => s

/-- The clock leaves the song and parks (R57, R66). -/
def parkClock (s : State) : State :=
  let s := leaveSong s
  setClockState .parked { s with clock := { s.clock with pos := none } }

/-! ## Announcements (R40, R77) -/

/-- Trigger order: by trigger tick, and by cue number at the same tick (R41). -/
def BarTrigger.before (x y : BarTrigger) : Bool :=
  tickBefore x.tick y.tick || (decide (x.tick = y.tick) && x.cue.before y.cue)

/-- A BAR cue falls on a beat: song and bar agree, and its beat is the beat's, or greater on the last beat of the bar
(R40). -/
def Cue.fallsOn (c : Cue) (pos : SongPos) (lastOfBar : Bool) : Bool :=
  match c.trigger with
  | .bar bar beat _ =>
    decide (c.song = some pos.song) && decide (bar = pos.bar) &&
      (decide (beat = pos.beat) || (lastOfBar && decide (pos.beat < beat)))
  | _ => false

/-- A cue's lead in milliseconds; 0 for GO and FOLLOW cues (R4, R34). -/
def Cue.lead (c : Cue) : Nat :=
  match c.trigger with
  | .bar _ _ lead => lead
  | _ => 0

/-- A beat is the last of its bar (R56). -/
def Book.lastOfBar (b : Book) (pos : SongPos) : Bool := decide (b.beatsIn pos.song pos.bar ≤ pos.beat)

/-- A beat at a position lies in a second or later pass of the vamp region (R68). -/
def Clock.laterPass (k : Clock) (pos : SongPos) : Bool :=
  match k.vamp with
  | some v => decide (2 ≤ v.pass) && decide (v.first ≤ pos.bar) && decide (pos.bar ≤ v.last)
  | none => false

/-- The triggers of the PENDING BAR cues that fall on an announced beat, in trigger order (R40). -/
def State.triggersOn (s : State) (pos : SongPos) (tick : Tick) : List BarTrigger :=
  let last := s.book.lastOfBar pos
  let cues := s.book.cues.filter fun c => decide (s.runState c.number = .pending) && c.fallsOn pos last
  cues.foldl (fun l c =>
    insertBefore BarTrigger.before
      { cue := c.number, tick := tick - msTicks c.lead, pos := pos, lastOfBar := last } l) []

/-- The clock announces a beat to the Cue Engine (R40): triggers not yet reached are held, and those already reached are
answered, to fire at once. A beat of a later vamp pass triggers no cue. -/
def announce (pos : SongPos) (tick : Tick) (s : State) : State × List BarTrigger :=
  if s.clock.laterPass pos || !s.cue.isOpen then (s, [])
  else
    let all := s.triggersOn pos tick
    let now := all.filter fun t => tickReached s.now t.tick
    let later := all.filter fun t => !tickReached s.now t.tick
    ({ s with cue := { s.cue with
        triggers := later.foldl (fun l t => insertBefore BarTrigger.before t l) s.cue.triggers } }, now)

/-- The click of a song beat (R55, R77). -/
def beatClick (pos : SongPos) (tick : Tick) (tempo : Nat) : Click :=
  { cls := if pos.beat = 1 then .downbeat else .beat, bar := pos.bar, beat := pos.beat, sub := 0, tempo := tempo,
    tick := tick }

/-- The next beat is fixed: it is held as announced, announced to the Cue Engine and handed to the Click Scheduler with
the tempo that times it (R40, R55, R65, R71, R74). -/
def fixNext (pos : SongPos) (sub : SubTick) (tempo : Nat) (s : State) : State × List BarTrigger :=
  let s := { s with clock := { s.clock with next := some { pos := pos, sub := sub } } }
  let announced := announce pos (tickOfSub sub) s
  (handOffClick (beatClick pos (tickOfSub sub) tempo) announced.1, announced.2)

/-! ## Walking the song (R55 to R58, R68) -/

/-- The position after a beat, with the vamp region's turn or exit; none where the song ends (R56, R68). -/
def nextPosition (pos : SongPos) (s : State) : State × Option SongPos :=
  let lastBar := ((s.book.song? pos.song).map (·.lastBar)).getD pos.bar
  let onward : Option SongPos :=
    if s.book.lastOfBar pos then
      if lastBar ≤ pos.bar then none else some { pos with bar := pos.bar + 1, beat := 1 }
    else some { pos with beat := pos.beat + 1 }
  match s.clock.vamp with
  | some v =>
    if v.last = pos.bar ∧ s.book.lastOfBar pos then
      if v.exit = some v.pass then
        if lastBar ≤ pos.bar then (s, none)
        else (setClockState .playing { s with clock := { s.clock with vamp := none } }, onward)
      else
        let turned : Vamp := { v with pass := bump v.pass, mark := false }
        ({ s with clock := { s.clock with vamp := some turned } }, some { pos with bar := v.first, beat := 1 })
    else (s, onward)
  | none => (s, onward)

/-- The tempo in force of a beat (R61). -/
def State.tempoOf (s : State) (pos : SongPos) : Nat :=
  let m := s.book.mappedTempo s.clock.override pos
  match s.clock.adjust with
  | none => m
  | some f =>
    let span := m * s.book.settings.band / 1000
    clampNat 2000 30000 (clampNat (m - span) (m + span) f)

/-- The sub-clicks of a produced beat (R58). -/
def subClicks (pos : SongPos) (p : SubTick) (tempo n : Nat) : List Click :=
  ((List.range n).filter fun j => decide (1 ≤ j)).map fun j =>
    { cls := .sub, bar := pos.bar, beat := pos.beat, sub := j, tempo := tempo,
      tick := tickOfSub (subAfter p (j * beatInterval tempo / n)) }

/-- The start bar of the segment that governs a position's bar (R64). -/
def Book.segmentStart (b : Book) (pos : SongPos) : Option Nat :=
  (b.governing? pos.song pos.bar).map (·.startBar)

/-- The announced beat is produced (R55). Whether it crosses a segment boundary is asked of the book as it stands now, for
the bar before as for the new one (R64; log 11). The second component lists the BAR triggers to fire at once. -/
def produceBeat (b : NextBeat) (s : State) : State × List BarTrigger :=
  let boundary : Bool :=
    match s.clock.pos with
    | some old => decide (s.book.segmentStart old ≠ s.book.segmentStart b.pos)
    | none => false
  -- step 1 of R55, with the last-bar downbeat mark of R68
  let mark := fun (v : Vamp) => if v.last = b.pos.bar ∧ b.pos.beat = 1 then { v with mark := true } else v
  let s := { s with clock := { s.clock with
    pos := some b.pos, p := b.sub, next := none, vamp := s.clock.vamp.map mark } }
  -- step 2
  let s := if boundary then { s with clock := s.clock.dropFollow } else s
  -- step 3
  let tempo := s.tempoOf b.pos
  let s := { s with clock := { s.clock with tempo := tempo } }
  -- the hand-off to the Overlay Compositor (R55, R146)
  let field : BeatField := { tick := tickOfSub b.sub, downbeat := decide (b.pos.beat = 1) }
  let s := { s with overlay := { s.overlay with position := some b.pos, beat := some field } }
  if s.clock.holdDue then
    -- step 4 (R70)
    (setClockState .held { s with clock := { s.clock with holdDue := false, tapOnset := none, taps := [] } }, [])
  else
    -- steps 5 and 6
    let sub := subAfter b.sub (beatInterval tempo)
    let found := nextPosition b.pos s
    let clicks := subClicks b.pos b.sub tempo (found.1.book.subdivisionIn b.pos.song b.pos.bar)
    let s := clicks.foldl (fun s k => handOffClick k s) found.1
    match found.2 with
    | some pos => fixNext pos sub tempo s
    | none => ({ s with clock := { s.clock with ending := some (tickOfSub sub) } }, [])

/-! ## Actions (R53, R60, R65 to R71) -/

/-- START (R65). The second component lists the BAR triggers to fire at once. -/
def startSong (song bar lead : Nat) (s : State) : State × List BarTrigger :=
  match s.clock.state with
  | .frozen | .counting => (s, [])
  | .parked | .playing | .vamping | .held =>
    let s := if s.clock.state = .parked then s else leaveSong s
    let pos : SongPos := { song := song, bar := bar, beat := 1 }
    let tick := if lead = 0 then s.now + 480#32 else s.now
    let sub := subOfTick tick
    let tempo := s.book.mappedTempo none pos
    let s := { s with clock := { s.clock.dropFollow with
      pos := some pos, p := sub, tempo := tempo, vamp := none, holdDue := false, ending := none, countIn := none } }
    let s := flag .clockChange (setClockState .playing s)
    let fixed := fixNext pos sub tempo s
    if lead = 0 then fixed
    else
      let produced := produceBeat { pos := pos, sub := sub } fixed.1
      (produced.1, fixed.2 ++ produced.2)

/-- HOLD (R70). -/
def holdAction (s : State) : State :=
  match s.clock.state with
  | .playing | .vamping | .counting => { s with clock := { s.clock with holdDue := true } }
  | .parked | .held | .frozen => s

/-- RELEASE (R71). After the song's last beat the clock stays HELD until the song end; a second RELEASE sets the song end
again, and one that a VAMP taken meanwhile has turned onto a further beat leaves the song end as it was set, to be taken all
the same (log 15). The second component lists the BAR triggers to fire at once. -/
def releaseAction (s : State) : State × List BarTrigger :=
  match s.clock.state, s.clock.pos with
  | .held, some held =>
    let tick := s.now + 480#32
    let sub := subOfTick tick
    let s := { s with clock := { s.clock with p := sub } }
    let found := nextPosition held s
    match found.2 with
    | some pos =>
      let s := setClockState (if found.1.clock.vamp.isSome then .vamping else .playing) found.1
      let tempo := s.book.mappedTempo s.clock.override pos
      fixNext pos sub tempo { s with clock := { s.clock with tempo := tempo } }
    | none => ({ found.1 with clock := { found.1.clock with ending := some tick } }, [])
  | _, _ => (s, [])

/-- SET TEMPO (R60). -/
def setTempoAction (value : Nat) (s : State) : State :=
  match s.clock.state with
  | .playing | .vamping | .held | .counting =>
    { s with clock := { s.clock.dropFollow with override := some (clampNat 2000 30000 value) } }
  | .parked | .frozen => s

/-- PARK (R53, R66). -/
def parkAction (s : State) : State :=
  match s.clock.state with
  | .playing | .vamping | .held => parkClock s
  | .parked | .frozen | .counting => s

/-- A VAMP over these bars applies at the clock's position (R67). -/
def State.vampApplies (s : State) (first last : Nat) : Bool :=
  (match s.clock.state with
   | .playing | .vamping | .held | .counting => true
   | .parked | .frozen => false) &&
  (match s.clock.pos with
   | some pos =>
     (match s.book.song? pos.song with
      | some r =>
        decide (r.firstBar ≤ first) && decide (first ≤ r.lastBar) && decide (r.firstBar ≤ last) &&
          decide (last ≤ r.lastBar)
      | none => false) &&
     decide (pos.bar ≤ last) &&
     (match s.clock.next with
      | some b => decide (b.pos.bar ≤ last)
      | none => true)
   | none => false)

/-- VAMP (R67). -/
def vampAction (first last : Nat) (s : State) : State :=
  if s.vampApplies first last then
    let here : Bool := s.clock.pos.any fun p => decide (p.bar = last)
    let region : Vamp := { first := first, last := last, pass := 1, mark := here, exit := none }
    let s := { s with clock := { s.clock with vamp := some region } }
    if s.clock.state = .playing then setClockState .vamping s else s
  else s

/-- A vamp release would set the exit pass (R69). -/
def State.releasable (s : State) : Bool :=
  (decide (s.clock.state = .vamping) || decide (s.clock.state = .held)) &&
    (match s.clock.vamp with
     | some v => v.exit.isNone
     | none => false)

/-- A vamp release or VAMP EXIT (R69). -/
def vampRelease (s : State) : State :=
  if s.releasable then
    let leave := fun (v : Vamp) => { v with exit := some (if v.mark then v.pass + 1 else v.pass) }
    { s with clock := { s.clock with vamp := s.clock.vamp.map leave } }
  else s

/-! ## Expiries (R57) -/

/-- The song end is taken (R57). -/
def songEnd (s : State) : State := if s.due? s.clock.ending then parkClock s else s

/-! ## Stop Controller's commands (R72 to R74) -/

/-- The freeze command (R72). -/
def freezeClock (s : State) : State :=
  match s.clock.state with
  | .playing | .vamping | .held | .counting =>
    let s := abandonBeats s
    setClockState .frozen { s with clock := { s.clock.dropFollow with holdDue := false } }
  | .parked | .frozen => s

/-- The park command of a resume (R73): not a departure from the song. -/
def resumePark (s : State) : State :=
  let s := { s with clock := { s.clock with pos := none, vamp := none, countIn := none } }
  if s.clock.state = .frozen then setClockState .parked s else s

/-- Count-in beat i's click (R74, R75). -/
def countInClick (k : CountIn) (tempo i : Nat) : Click :=
  { cls := .countIn, bar := i / k.perBar + 1, beat := i % k.perBar + 1, sub := 0, tempo := tempo,
    tick := tickOfSub (subAfter k.first (i * k.interval)) }

/-- The count-in command (R74), for a bar that a segment governs; c is the bars of count-in. The second component lists
the BAR triggers to fire at once. -/
def countInCommand (song bar c : Nat) (s : State) : State × List BarTrigger :=
  match s.book.governing? song bar with
  | none => (s, [])
  | some g =>
    let pos : SongPos := { song := song, bar := bar, beat := 1 }
    let tempo := s.book.mappedTempo none pos
    let total := c * g.beatsPerBar
    let first := subOfTick (s.now + 480#32)
    let count : CountIn :=
      { total := total, given := if total = 0 then 0 else 1, reached := 0, interval := beatInterval tempo,
        first := first, perBar := g.beatsPerBar }
    let s := { s with clock := { s.clock.dropFollow with
      vamp := none, holdDue := false, pos := some pos, tempo := tempo, ending := none, countIn := some count } }
    let s := setClockState .counting s
    let s := if total = 0 then s else handOffClick (countInClick count tempo 0) s
    fixNext pos (subAfter first (total * beatInterval tempo)) tempo s

/-- The tick of the count-in beat that is reached next, or none when all have been reached (R74). -/
def CountIn.dueTick (k : CountIn) : Option Tick :=
  if k.reached < k.total then some (tickOfSub (subAfter k.first (k.reached * k.interval))) else none

/-- A count-in beat is reached (R75): the overlay takes the count, and the next count-in beat is given to the Click
Scheduler. -/
def countInBeat (s : State) : State :=
  match s.clock.state, s.clock.countIn with
  | .counting, some k =>
    if s.due? k.dueTick then
      let card := s.overlay.countCard.map fun _ => some (k.total - k.reached)
      let s := { s with overlay := { s.overlay with countCard := card } }
      let more := decide (k.given < k.total)
      let k' : CountIn := { k with reached := k.reached + 1, given := if more then k.given + 1 else k.given }
      let s := { s with clock := { s.clock with countIn := some k' } }
      if more then handOffClick (countInClick k s.clock.tempo k.given) s else s
    else s
  | _, _ => s

/-! ## Following the conductor's taps (R62, R63) -/

/-- Follow applies: the clock is PLAYING or VAMPING and the segment in force has its follow flag set (R62). -/
def State.followApplies (s : State) : Bool :=
  (decide (s.clock.state = .playing) || decide (s.clock.state = .vamping)) &&
    (match s.segmentInForce with
     | some g => g.follow
     | none => false)

/-- The follow adjustment that an accepted series gives (R63); `map` is the mapped tempo of the current beat. -/
def followTempo (set : Settings) (current map : Nat) (adjust : Option Nat) (series : List Int) : Option Nat :=
  let m := (series.sum / (series.length : Int)).toNat
  let measured := (288000000 + m / 2) / m
  let d : Int := (measured : Int) - current
  if d.natAbs ≤ set.deadband then adjust
  else
    let step := (current : Int) + clampInt (-(set.maxStep : Int)) set.maxStep d
    let span : Int := ((map * set.band / 1000 : Nat) : Int)
    some (clampInt 2000 30000 (clampInt ((map : Int) - span) ((map : Int) + span) step)).toNat

/-- A tempo tap reaches the clock with its onset (R62). -/
def tempoTap (onset : Tick) (s : State) : State :=
  if s.followApplies then
    match s.clock.tapOnset with
    | none => { s with clock := { s.clock with tapOnset := some onset } }
    | some lastOnset =>
      let interval := (onset - lastOnset).toInt
      let i := beatTicks s.clock.tempo
      if ((2 * i / 5 : Nat) : Int) ≤ interval ∧ interval ≤ ((5 * i / 2 : Nat) : Int) then
        let series := takeLast 4 (s.clock.taps ++ [interval])
        let map := (s.clock.pos.map (s.book.mappedTempo s.clock.override)).getD s.clock.tempo
        { s with clock := { s.clock with
          tapOnset := some onset
          taps := series
          adjust := followTempo s.book.settings s.clock.tempo map s.clock.adjust series } }
      else
        { s with clock := { s.clock with
          tapOnset := some onset, taps := [], rejected := bump s.clock.rejected } }
  else s

/-! ## Timebase (R50) -/

/-- The sync lock state of the house sync input (R50). -/
def setSyncLock (locked : Bool) (s : State) : State := { s with clock := { s.clock with syncLocked := locked } }

/-- The clock takes its ticks from house sync (R50). -/
def State.houseTimebase (s : State) : Bool :=
  decide (s.book.settings.houseSync = .use) && s.clock.syncLocked

/-- The SYNC_LOST raw condition (R50). -/
def State.syncLost (s : State) : Bool :=
  decide (s.book.settings.houseSync = .use) && !s.clock.syncLocked

end Sys2Proof.Machine
end

