-- ==== Sys2Proof/Machine/Dispatcher.lean ====
section
/-! DEFINITION. The Patch Dispatcher: taking, sending and resolving requests (R91 to R107). -/

namespace Sys2Proof.Machine

/-- The kind of a request (R91). -/
def PatchReq.kind : PatchReq → ReqKind
  | .cue _ _ _ => .cue
  | .restore _ => .restore
  | .adHoc => .adHoc

/-- The patch and variant that a CUE or RESTORE request names (R91). -/
def PatchReq.sel? : PatchReq → Option PatchSel
  | .cue _ _ sel => some sel
  | .restore sel => some sel
  | .adHoc => none

/-- The dispatch counts after an outcome (R92): an OK changes none of them. -/
def DispatchCounts.after (k : DispatchCounts) : ReqOutcome → DispatchCounts
  | .ok => k
  | .rejected => { k with rejected := bump k.rejected }
  | .timeout => { k with timedOut := bump k.timedOut }
  | .superseded => { k with superseded := bump k.superseded }
  | .linkLost => { k with linkLost := bump k.linkLost }

/-- A request that holds no slot any more has its outcome (R91): it is counted, it is the last result, and a CUE request's
outcome goes to the Cue Engine unless the request is detached (R107). -/
def resolve (c : Chair) (r : PatchReq) (o : ReqOutcome) (s : State) : State :=
  let s := onDispatch c (fun d => { d with counts := d.counts.after o, last := some (r.kind, o) }) s
  match r with
  | .cue n false _ => cueResolved n o s
  | _ => s

/-- The entries that a request sends: the patch's list as the Book Store holds it now, or the ad-hoc buffer; none for an
absent patch (R91, R95). A patch retired and written again while a RESTORE waits for it is found (R104; log 25). -/
def State.contents (s : State) (c : Chair) (r : PatchReq) : Option (List Entry) :=
  match r.sel? with
  | some sel => (s.book.patch? c sel.number).map fun p => p.list sel.variant
  | none => some s.patch[c].adhoc

/-- A request is sent (R95). The in-flight slot is empty, and the request has left the pending slot. An absent patch
resolves it REJECTED; otherwise the tag rises, the PATCH message goes to the link, and the 40 ms begin. -/
def send (c : Chair) (r : PatchReq) (s : State) : State :=
  match s.contents c r with
  | none => resolve c r .rejected s
  | some entries =>
    let tag := s.patch[c].tag + 1#8
    let flight : Flight := { req := r, tag := tag, expiry := s.now + ticks 1920, retired := false }
    let s := onDispatch c (fun d =>
      { d with
        flight := some flight
        tag := tag
        adhoc := if r.kind = .adHoc then [] else d.adhoc
        counts := { d.counts with sent := bump d.counts.sent } }) s
    onLink c (fun l => { l with patchMsg := some { tag := tag, entries := entries } }) s

/-- A waiting request is promoted and sent if the in-flight slot is empty and the link is LOCKED (R96 to R98, R101). -/
def promote (c : Chair) (s : State) : State :=
  if s.patch[c].flight.isNone ∧ s.links[c].state = .locked then
    match s.patch[c].waiting with
    | some r => send c r (onDispatch c (fun d => { d with waiting := none }) s)
    | none => s
  else s

/-- The request in flight is resolved: the confirmed patch becomes the one given, the slot is emptied, the outcome is
handed on and a waiting request is promoted (R96 to R98, R100). -/
def land (c : Chair) (r : PatchReq) (o : ReqOutcome) (confirmed : Confirmed) (s : State) : State :=
  let s := onDispatch c (fun d => { d with flight := none, confirmed := confirmed }) s
  promote c (resolve c r o s)

/-- A request enters the pending slot; one already there is resolved SUPERSEDED, an AD_HOC one leaving its buffer empty
(R93). `entries` are those of a new AD_HOC request (R102). -/
def enqueue (c : Chair) (r : PatchReq) (entries : List Entry) (s : State) : State :=
  let old := s.patch[c].waiting
  let s := onDispatch c (fun d =>
    { d with
      waiting := some r
      adhoc := if r.kind = .adHoc then entries else if old = some .adHoc then [] else d.adhoc }) s
  match old with
  | some q => resolve c q .superseded s
  | none => s

/-- The confirmed patch equals a request's patch and variant (R93). -/
def PatchReq.alreadyHeld (r : PatchReq) (k : Confirmed) : Bool :=
  match r.sel? with
  | some sel => decide (k = .patch sel)
  | none => false

/-- A request is taken (R93), and a CUE or RESTORE request sets the target (R94). `entries` are those of an AD_HOC
request. An already held CUE request is counted as resolved by the fire that made it. -/
def takeRequest (c : Chair) (r : PatchReq) (entries : List Entry) (s : State) : State :=
  let s := onDispatch c (fun d => { d with target := r.sel?.or d.target }) s
  let d := s.patch[c]
  if d.flight.isNone ∧ d.waiting.isNone then
    if r.alreadyHeld d.confirmed then
      onDispatch c (fun d => { d with last := some (r.kind, .ok) }) s
    else if s.links[c].state = .locked then
      send c r (onDispatch c (fun d => { d with adhoc := if r.kind = .adHoc then entries else d.adhoc }) s)
    else enqueue c r entries s
  else enqueue c r entries s

/-- The link's PATCH ACK matches the request in flight (R96, R97, R99). -/
def Dispatch.matches (d : Dispatch) (tag : Byte) : Bool := d.flight.any fun f => decide (f.tag = tag)

/-- The confirmed patch that an OK acknowledgement gives (R96): a patch retired since the send gives UNKNOWN. -/
def State.confirmedBy (s : State) (c : Chair) (f : Flight) : Confirmed :=
  match f.req.sel? with
  | none => .modified
  | some sel => if f.retired || (s.book.patch? c sel.number).isNone then .unknown else .patch sel

/-- A matching PATCH ACK resolves the request in flight OK or REJECTED (R96, R97). -/
def acknowledge (c : Chair) (okay : Bool) (s : State) : State :=
  match s.patch[c].flight with
  | none => s
  | some f =>
    if okay then land c f.req .ok (s.confirmedBy c f) s
    else land c f.req .rejected .unknown s

/-- The timeout of the request in flight is taken (R98). -/
def patchTimeout (c : Chair) (s : State) : State :=
  match s.patch[c].flight with
  | none => s
  | some f => if tickReached s.now f.expiry then land c f.req .timeout .unknown s else s

/-- The link has left LOCKED: the request in flight is resolved LINK_LOST (R100). -/
def linkLost (c : Chair) (s : State) : State :=
  match s.patch[c].flight with
  | none => s
  | some f => land c f.req .linkLost .unknown s

/-- The link has entered LOCKED: a pending request is promoted, or a restore of the target is made (R101). -/
def relockRestore (c : Chair) (s : State) : State :=
  match s.patch[c].waiting with
  | some _ => promote c s
  | none =>
    match s.patch[c].target with
    | some sel =>
      if (s.chairRec c).enabled ∧ s.patch[c].confirmed ≠ .patch sel then takeRequest c (.restore sel) [] s else s
    | none => s

/-- A chair's slot holds an AD_HOC request (R17). -/
def Dispatch.holdsAdHoc (d : Dispatch) : Bool :=
  d.flight.any (fun f => decide (f.req.kind = .adHoc)) || d.waiting.any fun r => decide (r.kind = .adHoc)

/-- The confirmed patch names the patch number. -/
def Confirmed.names (k : Confirmed) (n : Nat) : Bool :=
  match k with
  | .patch sel => decide (sel.number = n)
  | _ => false

/-- A patch of the chair has been retired (R104): a target or confirmed patch that names it is lost, and a request in
flight for it is marked (R96). -/
def forgetPatch (c : Chair) (n : Nat) (s : State) : State :=
  onDispatch c (fun d =>
    { d with
      target := if d.target.any fun t => decide (t.number = n) then none else d.target
      confirmed := if d.confirmed.names n then .unknown else d.confirmed
      flight := d.flight.map fun f =>
        if f.req.sel?.any fun t => decide (t.number = n) then { f with retired := true } else f }) s

/-- The book has been cleared (R24, R104): every target is lost, a confirmed patch that names a patch is UNKNOWN, and
requests in flight are marked. -/
def forgetPatches (s : State) : State :=
  { s with patch := tabulateChairs fun c =>
      { s.patch[c] with
        target := none
        confirmed :=
          match s.patch[c].confirmed with
          | .patch _ => .unknown
          | k => k
        flight := s.patch[c].flight.map fun f => { f with retired := true } } }

/-- SHOW OPEN at the Patch Dispatcher (R107): a CUE request in flight is detached, and the counts and last result are
cleared. -/
def detachPatches (s : State) : State :=
  { s with patch := tabulateChairs fun c =>
      { s.patch[c] with
        flight := s.patch[c].flight.map fun f =>
          { f with req :=
              match f.req with
              | .cue n _ sel => .cue n true sel
              | r => r }
        counts := Dispatch.initial.counts
        last := none } }

/-- SHOW CLOSE at the Patch Dispatcher (R103, R107): the pending slot and the ad-hoc buffer are emptied. -/
def emptyPending (s : State) : State :=
  { s with patch := tabulateChairs fun c => { s.patch[c] with waiting := none, adhoc := [] } }

/-- The PATCH_FAIL raw condition of a chair (R106). -/
def State.patchFail (s : State) (c : Chair) : Bool :=
  s.cue.isOpen && (s.chairRec c).enabled && s.patch[c].target.isSome && decide (s.patch[c].confirmed = .unknown)

end Sys2Proof.Machine
end

