-- ==== Sys2Proof/Machine/Cues.lean ====
section
/-! DEFINITION. Firing a cue, deciding a GO, follow timers, and the run-state rewrite of a resume (R29 to R48). -/

namespace Sys2Proof.Machine

/-! ## Firing (R32 to R35, R43) -/

/-- Why a cue fires: as the standby by a GO, as the held follow cue by a GO, or by a trigger or timer (R30, R41, R44). -/
inductive FireCause where
  | standby | held | timed
  deriving DecidableEq, Repr

/-- A fire that follows at once from another step: of a BAR cue whose trigger tick was already reached (R40), or of a
FOLLOW cue (R43). -/
inductive AtOnce where
  | bar (t : BarTrigger)
  | follow (n : CueNumber)
  deriving DecidableEq, Repr

/-- The variant key that a station action of a cue resolves to (R33). -/
def State.variantFor (s : State) (c : Cue) (chair : Chair) (patch : Nat) : Variant :=
  let role := (c.song.bind s.book.song?).bind (·.keyRole)
  let key := (role.map s.book.roleKey).getD .base
  match s.book.patch? chair patch with
  | some p => if p.hasList key then key else .base
  | none => .base

/-- A station action's patch is handed to the Patch Dispatcher, unless the chair is disabled (R35). -/
def handPatch (c : Cue) (s : State) (a : StationAction) : State :=
  match a.patch with
  | none => s
  | some n =>
    if (s.chairRec a.chair).enabled then
      takeRequest a.chair (.cue c.number false { number := n, variant := s.variantFor c a.chair n }) [] s
    else s

/-- A station action's click action sets the chair's click enable (R32, R82). -/
def handClick (s : State) (a : StationAction) : State :=
  match a.click with
  | .on => onClicks a.chair (fun k => { k with enable := true }) s
  | .off => onClicks a.chair (fun k => { k with enable := false }) s
  | .unchanged => s

/-- A cue's tempo action is handed to the Tempo Clock (R34). -/
def handTempo (c : Cue) (s : State) : State × List BarTrigger :=
  match c.tempo with
  | none => (s, [])
  | some (.start song bar) =>
    if s.book.songCut song || !s.book.startable song then (s, []) else startSong song bar c.lead s
  | some .hold => (holdAction s, [])
  | some .release => releaseAction s
  | some (.setTempo v) => (setTempoAction v s, [])
  | some .park => (parkAction s, [])

/-- A cue's vamp action is handed to the Tempo Clock (R34). -/
def handVamp (c : Cue) (s : State) : State :=
  match c.vamp with
  | none => s
  | some (.vamp first last) => vampAction first last s
  | some .exit => vampRelease s

/-- A cue begins to fire: it is FIRING with nothing failed, and no earlier rewrite waits to hold a cue (R35, R47). That the
wait ends at the start of the fire, so that a resume cue whose last request this very fire supersedes is not held, is the
model's choice (log 23). -/
def beginFire (n : CueNumber) (s : State) : State :=
  let s := setRun n .firing { s with cue := { s.cue with holdCandidate := none } }
  mapRun n (fun r => { r with failed := 0 }) s

/-- The GO guard starts, unless its time is 0 (R31). -/
def startGuard (s : State) : State :=
  let ms := s.book.settings.goGuard
  { s with cue := { s.cue with guard := if ms = 0 then none else some (s.now + msTicks ms) } }

/-- The cue that stands next after a cue number in cue order (R43). -/
def State.cueAfter (s : State) (n : CueNumber) : Option Cue := s.book.cues.find? fun c => n.before c.number

/-- A timer joins the list in order of expiry, after those of equal expiry (R44). -/
def addTimer (t : FollowTimer) (s : State) : State :=
  { s with cue := { s.cue with
    timers := insertBefore (fun x y => tickBefore x.expiry y.expiry) t s.cue.timers } }

/-- The follow timer of the cue after a fired cue is started, or that cue is to fire at once (R43). By the model's choice
(log 37) a cue that has a timer takes a new one in its place also where the list is full, a cue of delay 0 that has one
fires at once and leaves it in the list, and a held follow cue takes a timer like any other. -/
def startFollow (n : CueNumber) (s : State) : State × List AtOnce :=
  match s.cueAfter n with
  | none => (s, [])
  | some c =>
    match c.trigger with
    | .follow delay =>
      if s.runState c.number = .pending then
        let timer : FollowTimer := { cue := c.number, expiry := s.now + msTicks delay }
        if delay = 0 then (s, [.follow c.number])
        else if s.cue.timers.any fun t => decide (t.cue = c.number) then
          (addTimer timer (cancelTimer c.number s), [])
        else if 8 ≤ s.cue.timers.length then (s, [.follow c.number])
        else (addTimer timer s, [])
      else (s, [])
    | _ => (s, [])

/-- A cue fires (R32). The second component lists the fires that follow at once. -/
def fireCue (cause : FireCause) (n : CueNumber) (s : State) : State × List AtOnce :=
  match s.book.cue? n with
  | none => (s, [])
  | some c =>
    -- step 1 (R33, R35)
    let s := c.actions.foldl (handPatch c) (beginFire n s)
    let s := if s.slotHolds n then s else completeCue n s
    -- step 2
    let s := c.actions.foldl handClick s
    -- step 3 (R34)
    let tempo := handTempo c s
    let s := handVamp c tempo.1
    -- steps 4 and 5
    let s := { s with
      overlay := { s.overlay with lastCue := some (n, c.text) }
      cue := { s.cue with lastFired := some n } }
    -- step 6 (R31, R37)
    let s := if cause = .held then s else if c.isGo then standbyAfterFire n s else s
    let s := if cause = .timed then s else startGuard s
    -- steps 7 and 8
    let follow := startFollow n s
    (flag .cueFired follow.1, tempo.2.map .bar ++ follow.2)

/-- A BAR trigger still stands: its cue is PENDING, of the clock's current song, and falls on the beat (R41). -/
def State.triggerStands (s : State) (t : BarTrigger) : Bool :=
  match s.book.cue? t.cue with
  | some c =>
    s.cue.isOpen && decide (s.runState t.cue = .pending) && decide (s.currentSong = some t.pos.song) &&
      c.fallsOn t.pos t.lastOfBar
  | none => false

/-- A FOLLOW cue may fire: it is present, PENDING and still a FOLLOW cue, with the show open (R43, R44). -/
def State.followStands (s : State) (n : CueNumber) : Bool :=
  match s.book.cue? n with
  | some c => s.cue.isOpen && decide (s.runState n = .pending) && c.isFollow
  | none => false

/-- An at-once fire is still to be made. -/
def State.atOnceStands (s : State) : AtOnce → Bool
  | .bar t => s.triggerStands t
  | .follow n => s.followStands n

/-- The cue of an at-once fire. -/
def AtOnce.cue : AtOnce → CueNumber
  | .bar t => t.cue
  | .follow n => n

/-- The fires that follow at once are made one after another, each after the one before has finished its hand-offs (R43;
log 6, DESIGN CHOICE for the order). The first argument bounds their number. -/
def runFires : Nat → List AtOnce → State → State
  | 0, _, s => s
  | _, [], s => s
  | fuel + 1, a :: rest, s =>
    if s.atOnceStands a then
      let fired := fireCue .timed a.cue s
      runFires fuel (rest ++ fired.2) fired.1
    else runFires fuel rest s

/-- The fires that follow at once from a step are all made: each cue fires at most twice in one step, once on its own and
once after a return to PENDING (R47), and each fire adds at most the list it answers. -/
def settleFires (r : State × List AtOnce) : State :=
  runFires ((r.1.book.cues.length + 1) * 4 + r.2.length) r.2 r.1

/-- A cue fires, and with it all that follows at once. -/
def fire (cause : FireCause) (n : CueNumber) (s : State) : State := settleFires (fireCue cause n s)

/-- A step of the clock has announced beats: the BAR triggers already reached fire at once (R40). -/
def settleBars (r : State × List BarTrigger) : State := settleFires (r.1, r.2.map .bar)

/-! ## GO (R29, R30) -/

/-- The source kinds of a GO (R29). -/
inductive GoKind where
  | pad | control | chair
  deriving DecidableEq, Repr

/-- The outcomes of R30's steps. -/
inductive GoResult where
  | notOpen | stopped | guarded | nothing | notAllowed
  | fired (n : CueNumber)
  deriving DecidableEq, Repr

/-- The mask holds the kind (R4). -/
def GoMask.allows (m : GoMask) : GoKind → Bool
  | .pad => m.pad
  | .control => m.control
  | .chair => m.chair

/-- A GO is ignored: GO_IGNORED is flagged, and a PAD or CHAIR GO is counted (R30). -/
def ignoreGo (kind : GoKind) (s : State) : State :=
  let s := flag .goIgnored s
  match kind with
  | .pad => { s with cue := { s.cue with ignoredPad := bump s.cue.ignoredPad } }
  | .chair => { s with cue := { s.cue with ignoredChair := bump s.cue.ignoredChair } }
  | .control => s

/-- The standby cue's GO source mask allows the kind (R30). -/
def State.standbyAllows (s : State) (kind : GoKind) : Bool :=
  match s.cue.standby.bind s.book.cue? with
  | some c => c.mask.allows kind
  | none => false

/-- A GO is decided by the ordered steps of R30. -/
def decideGo (kind : GoKind) (s : State) : State × GoResult :=
  if !s.cue.isOpen then (s, .notOpen)
  else if s.stop.state ≠ .clear then (ignoreGo kind s, .stopped)
  else if s.cue.guard.isSome then (ignoreGo kind s, .guarded)
  else
    match s.cue.held, s.cue.standby with
    | none, none => (ignoreGo kind s, .nothing)
    | some n, _ => (fire .held n s, .fired n)
    | none, some n =>
      if s.standbyAllows kind then (fire .standby n s, .fired n) else (ignoreGo kind s, .notAllowed)

/-- A chair GO press is handed to the clock as a vamp release: the clock is VAMPING with no exit due, and the standby
cue's mask includes CHAIR (R29). -/
def State.pressReleasesVamp (s : State) : Bool :=
  decide (s.clock.state = .vamping) &&
    (match s.clock.vamp with
     | some v => v.exit.isNone
     | none => false) &&
    s.standbyAllows .chair

/-- A GO of kind CHAIR reaches the Cue Engine (R29). -/
def chairGo (s : State) : State :=
  if s.pressReleasesVamp then vampRelease s else (decideGo .chair s).1

/-! ## Triggers and timers (R41, R44) -/

/-- The first held BAR trigger, when its tick is reached, leaves the list and fires its cue if it still stands (R41). -/
def barTrigger (s : State) : State :=
  match s.cue.triggers with
  | [] => s
  | t :: rest =>
    if tickReached s.now t.tick then
      let s := { s with cue := { s.cue with triggers := rest } }
      if s.triggerStands t then fire .timed t.cue s else s
    else s

/-- The first follow timer, when its expiry is reached and the show is not STOPPED, leaves the list and fires its cue if
it is still a PENDING FOLLOW cue (R44, R45). -/
def followExpiry (s : State) : State :=
  match s.cue.timers with
  | [] => s
  | t :: rest =>
    if tickReached s.now t.expiry ∧ s.stop.state ≠ .stopped then
      let s := { s with cue := { s.cue with timers := rest } }
      if s.followStands t.cue then fire .timed t.cue s else s
    else s

/-- The GO guard becomes idle when its expiry is reached (R31). -/
def guardExpiry (s : State) : State :=
  if s.due? s.cue.guard then { s with cue := { s.cue with guard := none } } else s

/-! ## The run-state rewrite (R47) -/

/-- The run entry that the rewrite gives a cue (R47). -/
def rewriteEntry (b : Book) (resumeAt : CueNumber) (e : RunEntry) : RunEntry :=
  let cut := match b.cue? e.cue with
    | some c => b.cueCut c
    | none => false
  if e.state = .firing then
    { e with mark := some (if cut then .passed else if e.cue.before resumeAt then .complete else .pending) }
  else
    { e with
      mark := none
      state :=
        if cut then .passed
        else if e.cue.before resumeAt then (if e.state = .complete then .complete else .passed)
        else .pending }

/-- The cue that stands immediately before a cue number in cue order (R47). -/
def State.cueBefore (s : State) (n : CueNumber) : Option Cue :=
  (s.book.cues.filter fun c => c.number.before n).getLast?

/-- The run states are rewritten about the resume cue, and the timers, guard, triggers, standby, held follow cue and last
fired cue are set (R47). -/
def rewriteRuns (n : CueNumber) (s : State) : State :=
  let previous := s.cueBefore n
  let s := { s with
    cue := { s.cue with
      runs := s.cue.runs.map (rewriteEntry s.book n)
      timers := []
      guard := none
      triggers := []
      standby := none
      held := none
      holdCandidate := none
      lastFired := previous.map (·.number) }
    overlay := { s.overlay with lastCue := previous.map fun c => (c.number, c.text) } }
  let s := placeStandby ((s.pendingGo).find? fun m => !m.before n) s
  match s.book.cue? n with
  | some c =>
    if c.isFollow then
      if s.runState n = .pending then setHeld (some n) s
      else { s with cue := { s.cue with holdCandidate := some n } }
    else s
  | none => s

end Sys2Proof.Machine
end

