-- ==== Sys2Proof/Machine/Stops.lean ====
section
/-! DEFINITION. The Stop Controller: stop requests, releases, the stop line, resume and its reconstruction (R121, R164 to
R176). -/

namespace Sys2Proof.Machine

/-- The stop state changes, and STOP_CHANGE is flagged at a change (R164). -/
def setStopState (st : StopState) (s : State) : State :=
  if s.stop.state = st then s else flag .stopChange { s with stop := { s.stop with state := st } }

/-- Every LOCKED chair is handed a STOP MARK, which replaces one held (R119, R121). -/
def handStopMarks (on : Bool) (s : State) : State :=
  { s with links := tabulateChairs fun c =>
      if s.links[c].state = .locked then { s.links[c] with stopMark := some on } else s.links[c] }

/-- The set with a source added. -/
def SourceSet.add (x : SourceSet) : StopSource → SourceSet
  | .host => { x with host := true }
  | .pad => { x with pad := true }
  | .line => { x with line := true }
  | .fault => { x with fault := true }

/-- The set with a source removed. -/
def SourceSet.remove (x : SourceSet) : StopSource → SourceSet
  | .host => { x with host := false }
  | .pad => { x with pad := false }
  | .line => { x with line := false }
  | .fault => { x with fault := false }

/-- The clock's position for the stop record: none is PARKED (R164, R166). -/
def State.stopPosition (s : State) : Option SongPos := if s.clock.state = .parked then none else s.clock.pos

/-- A source joins the held sources, and the record's source set (R167). -/
def joinStop (src : StopSource) (s : State) : State :=
  let join := fun (r : StopRecord) => { r with sources := r.sources.add src }
  { s with stop := { s.stop with held := s.stop.held.add src, record := s.stop.record.map join } }

/-- The STOP card shows the stop record's first source and position, and the COUNT-IN card is off (R149, R166, R167). -/
def showStopCard (s : State) : State :=
  let card := s.stop.record.map fun r => ({ first := r.first, pos := r.pos } : StopCard)
  { s with overlay := { s.overlay with stopCard := card, countCard := none } }

/-- A stop request in CLEAR (R166). The freeze comes before the record, whose position is the clock's after it. -/
def enterStop (src : StopSource) (s : State) : State :=
  let s := setStopState .stopped s
  let s := freezeClock (cancelClicks s)
  let count := bump s.stop.count
  let record : StopRecord :=
    { sources := SourceSet.empty.add src, first := src, tick := s.now, pos := s.stopPosition,
      lastFired := s.cue.lastFired, number := count }
  let s := { s with stop := { s.stop with count := count, record := some record, held := s.stop.held.add src } }
  showStopCard (handStopMarks true s)

/-- A stop request in COUNT_IN (R167): the count-in is abandoned, and the record kept. -/
def stopCountIn (src : StopSource) (s : State) : State :=
  let s := setStopState .stopped s
  let s := freezeClock (cancelClicks s)
  showStopCard (handStopMarks true (joinStop src s))

/-- A stop request of a source (R165 to R167): ignored while the show is closed. -/
def stopRequest (src : StopSource) (s : State) : State :=
  if !s.cue.isOpen then s
  else
    match s.stop.state with
    | .clear => enterStop src s
    | .stopped => joinStop src s
    | .countIn => stopCountIn src s

/-- A level source is released (R168). -/
def releaseSource (src : StopSource) (s : State) : State :=
  { s with stop := { s.stop with held := s.stop.held.remove src } }

/-! ## The stop line (R165) -/

/-- The raw stop input changes, and the debounce starts afresh; a level that is no change is no event (R165). -/
def stopInChange (active : Bool) (s : State) : State :=
  if s.stop.raw = active then s
  else { s with stop := { s.stop with raw := active, debounce := some (s.now + ticks 960) } }

/-- The debounce completes: the line level becomes the raw level, and a change is a LINE request or release (R165). -/
def lineDebounce (s : State) : State :=
  if s.due? s.stop.debounce then
    let changed := decide (s.stop.line ≠ s.stop.raw)
    let s := { s with stop := { s.stop with line := s.stop.raw, debounce := none } }
    if changed then (if s.stop.line then stopRequest .line s else releaseSource .line s) else s
  else s

/-! ## Resume (R169 to R175) -/

/-- The cues that may be reconstruction cues of a resume: before the resume cue, of no CUT song (R171, R172). -/
def State.cuesBefore (s : State) (n : CueNumber) : List Cue :=
  s.book.cues.filter fun c => c.number.before n && !s.book.cueCut c

/-- A cue's station action for a chair. -/
def Cue.actionFor (c : Cue) (chair : Chair) : Option StationAction := c.actions.find? fun a => decide (a.chair = chair)

/-- The patch a cue names for a chair. -/
def Cue.patchFor (c : Cue) (chair : Chair) : Option Nat := (c.actionFor chair).bind (·.patch)

/-- The click enable a cue sets for a chair: none where it leaves it unchanged. -/
def Cue.clickFor (c : Cue) (chair : Chair) : Option Bool :=
  match c.actionFor chair with
  | some { click := .on, .. } => some true
  | some { click := .off, .. } => some false
  | _ => none

/-- The patch and variant of a chair's reconstruction cue (R171). -/
def State.reconstruction (s : State) (n : CueNumber) (chair : Chair) : Option PatchSel :=
  match ((s.cuesBefore n).filter fun c => (c.patchFor chair).isSome).getLast? with
  | none => none
  | some c => (c.patchFor chair).map fun p => { number := p, variant := s.variantFor c chair p }

/-- One enabled chair is reconstructed: its patch (R171) and its click enable (R172). -/
def reconstructChair (n : CueNumber) (s : State) (c : Chair) : State :=
  if (s.chairRec c).enabled then
    let s :=
      match s.reconstruction n c with
      | none => s
      | some sel =>
        let d := s.patch[c]
        if d.confirmed ≠ .patch sel ∨ d.flight.isSome ∨ d.waiting.isSome then
          takeRequest c (.restore sel) [] s
        else s
    let enable := (((s.cuesBefore n).filter fun k => (k.clickFor c).isSome).getLast?.bind (·.clickFor c)).getD true
    onClicks c (fun k => { k with enable := enable }) s
  else s

/-- The clock restarts parked, for a GO or FOLLOW resume cue (R173). -/
def resumeParked (s : State) : State :=
  let s := setStopState .clear (resumePark s)
  let s := handStopMarks false s
  { s with overlay := { s.overlay with stopCard := none } }

/-- The clock counts in, for a BAR resume cue (R174). The stop state is COUNT_IN when the command hands its clicks over, so
that a chair whose advance is above 480 ticks receives the first of them late, as R80 states (log 33). The second
component lists the BAR triggers to fire at once. -/
def resumeCounting (song bar bars : Nat) (s : State) : State × List BarTrigger :=
  let counted := countInCommand song bar bars (setStopState .countIn s)
  let s := handStopMarks false counted.1
  ({ s with overlay := { s.overlay with stopCard := none, countCard := some none } }, counted.2)

/-- The checks of a RESUME, in order; the resume cue where all pass (R169). -/
def State.resumeCheck (s : State) (n : CueNumber) (bars : Nat) : Except Status Cue :=
  if !n.inRange || decide (4 < bars) then .error .outOfRange
  else if !s.cue.isOpen then .error .notOpen
  else if s.stop.state ≠ .stopped then .error .invalid
  else if s.stop.held.line || s.stop.held.fault then .error .stopActive
  else
    match s.book.cue? n with
    | none => .error .notFound
    | some c =>
      if s.book.cueCut c then .error .invalid
      else
        match c.trigger, c.song with
        | .bar bar _ _, some song => if (s.book.governing? song bar).isSome then .ok c else .error .invalid
        | .bar _ _ _, none => .error .invalid
        | _, _ => .ok c

/-- A RESUME that is taken (R170). -/
def resumeAt (c : Cue) (bars : Nat) (s : State) : State :=
  let s := { s with stop := { s.stop with held := { s.stop.held with host := false, pad := false } } }
  let s := allChairs.foldl (reconstructChair c.number) (rewriteRuns c.number s)
  match c.trigger, c.song with
  | .bar bar _ _, some song => settleBars (resumeCounting song bar bars s)
  | _, _ => resumeParked s

/-- The count-in is complete (R175). -/
def countInComplete (s : State) : State :=
  let s := setStopState .clear s
  { s with overlay := { s.overlay with countCard := none } }

/-- The first song beat of a count-in is reached: the clock leaves COUNTING, the beat is produced, and the Stop
Controller is told (R75, R175). -/
def countInEnd (s : State) : State :=
  match s.clock.state, s.clock.next with
  | .counting, some b =>
    if tickReached s.now (tickOfSub b.sub) then
      let s := { s with clock := { s.clock with countIn := none } }
      let s := setClockState (if s.clock.vamp.isSome then .vamping else .playing) s
      let produced := produceBeat b s
      settleBars (countInComplete produced.1, produced.2)
    else s
  | _, _ => s

/-- The next beat is reached and produced (R55); a count-in's first song beat is the count-in's end (R75). -/
def beatReached (s : State) : State :=
  match s.clock.state, s.clock.next with
  | .playing, some b | .vamping, some b =>
    if tickReached s.now (tickOfSub b.sub) then settleBars (produceBeat b s) else s
  | _, _ => s

end Sys2Proof.Machine
end

