-- ==== Sys2Proof/Machine/Links.lean ====
section
/-! DEFINITION. The Chair Link Controllers: training, lock, loss, uplink checks, probes and the downlink arbiter (R83, R84,
R86, R108 to R122). -/

namespace Sys2Proof.Machine

/-- A link's counts changed by `f`. -/
def onLinkCounts (c : Chair) (f : LinkCounts → LinkCounts) (s : State) : State :=
  onLink c (fun l => { l with counts := f l.counts }) s

/-! ## Probes (R83, R84, R86) -/

/-- A PROBE is made: it carries the next probe id, replaces one held, and the next falls 500 ms later (R83, R119). -/
def makeProbe (c : Chair) (s : State) : State :=
  onLink c (fun l =>
    { l with probeMsg := some l.nextProbe, nextProbe := l.nextProbe + 1#8, probeDue := some (s.now + msTicks 500) }) s

/-- The chair's echo filter is emptied (R85). -/
def emptyFilter (c : Chair) (s : State) : State := onClicks c (fun k => { k with filter := [] }) s

/-- The 500 ms of a LOCKED link's probing have passed (R83). -/
def probePeriod (c : Chair) (s : State) : State :=
  if s.links[c].state = .locked ∧ s.due? s.links[c].probeDue then makeProbe c s else s

/-- The outstanding probe has had no valid echo for 20 ms and is lost (R83). -/
def probeLost (c : Chair) (s : State) : State :=
  match s.links[c].outstanding with
  | some p =>
    if p.start + 20000 ≤ s.time.micros then onLink c (fun l => { l with outstanding := none }) s else s
  | none => s

/-- An ECHO reaches the probe logic (R84). -/
def takeEcho (c : Chair) (id : Byte) (turnaround : Nat) (s : State) : State :=
  match s.links[c].outstanding with
  | none => s
  | some p =>
    let r := s.time.micros - p.start
    if p.id = id ∧ r ≤ 20000 then
      let s := onLink c (fun l => { l with outstanding := none }) s
      if turnaround ≤ r then addSample c ((r - turnaround) / 2 + s.links[c].latency) s else s
    else s

/-- REALIGN is taken (R86). -/
def realignChair (c : Chair) (s : State) : State :=
  let s := onLink c (fun l => { l with outstanding := none }) (emptyFilter c s)
  if s.links[c].state = .locked then makeProbe c s else s

/-! ## Training and lock (R109 to R111) -/

/-- The link enters TRAINING (R109); its first TRAIN frame is due at once (R110). -/
def enterTraining (c : Chair) (s : State) : State :=
  flag .chairChange (onLink c (fun l =>
    { l with
      state := .training
      holdOff := none
      training := some (s.time.micros + 500000)
      trainDue := some s.time.micros
      bucket := 0
      seq := none }) s)

/-- A training fails (R110). -/
def failTraining (c : Chair) (s : State) : State :=
  flag .chairChange (onLink c (fun l =>
    { l with
      state := .down
      holdOff := some (s.time.micros + 100000)
      training := none
      trainDue := none
      counts := { l.counts with trainingFailures := bump l.counts.trainingFailures } }) s)

/-- A valid HELLO locks the link (R111), and the blocks that depend on it are told: probes (R83), the Patch Dispatcher
(R101) and, through the link state, the Overlay Compositor. -/
def lockLink (c : Chair) (seq : Byte) (latency : Nat) (monitor : Bool) (s : State) : State :=
  let mark := decide (s.stop.state = .stopped)
  let s := flag .chairChange (onLink c (fun l =>
    { l with
      state := .locked
      latency := latency
      monitor := monitor
      seq := some (seq + 1#8)
      training := none
      trainDue := none
      silence := some (s.time.micros + 50000)
      counts := { l.counts with locks := bump l.counts.locks }
      stopMark := some mark
      outstanding := none }) s)
  relockRestore c (makeProbe c (emptyFilter c s))

/-! ## Loss (R112, R113) -/

/-- Why a link leaves LOCKED: silence, errors, or a HELLO that relocks it (R112, R113). -/
inductive LossCause where
  | silence | errors | relock
  deriving DecidableEq, Repr

/-- The link counts after a loss (R112, R113). -/
def LinkCounts.afterLoss (k : LinkCounts) : LossCause → LinkCounts
  | .silence => { k with lostSilence := bump k.lostSilence }
  | .errors => { k with lostErrors := bump k.lostErrors }
  | .relock => k

/-- A LOCKED link is lost (R112): held messages are discarded and their click parts are DONE, the request in flight is
LINK_LOST, probing ends and the chair's picture is composed no more. -/
def loseLink (c : Chair) (cause : LossCause) (s : State) : State :=
  let queued := s.links[c].clickQueue
  let s := flag .chairChange (onLink c (fun l =>
    { l with
      state := .down
      silence := none
      holdOff := if cause = .relock then none else some (s.time.micros + 100000)
      seq := none
      clickQueue := []
      stopMark := none
      patchMsg := none
      probeMsg := none
      outstanding := none
      probeDue := none
      counts := l.counts.afterLoss cause }) s)
  let s := queued.foldl (fun s k => finishPart c (fun i => i.handedTo c k) s) s
  let s := { s with overlay := { s.overlay with
    views := modifyAt s.overlay.views c fun v => { v with composing := false } } }
  linkLost c s

/-! ## Uplink (R109, R114 to R118) -/

/-- Line activity is present: a transition within the last 1 ms (R109). -/
def State.lineActive (s : State) (c : Chair) : Bool :=
  match s.links[c].activity with
  | some t => decide (s.time.micros ≤ t + 1000)
  | none => false

/-- A transition is seen on the uplink (R109): a DOWN link whose hold-off is idle enters TRAINING. -/
def lineActivity (c : Chair) (s : State) : State :=
  let s := onLink c (fun l => { l with activity := some s.time.micros }) s
  if s.links[c].state = .down ∧ s.links[c].holdOff = none then enterTraining c s else s

/-- The hold-off expires (R109). -/
def holdOffExpiry (c : Chair) (s : State) : State :=
  if s.links[c].state = .down ∧ s.elapsed? s.links[c].holdOff then
    let s := onLink c (fun l => { l with holdOff := none }) s
    if s.lineActive c then enterTraining c s else s
  else s

/-- The error mark is set and an error count raised (R114, R115). -/
def markError (c : Chair) (f : LinkCounts → LinkCounts) (s : State) : State :=
  onLink c (fun l => { l with mark := true, counts := f l.counts }) s

/-- A damaged message fills the error bucket (R116): at 8 a LOCKED link is lost and a training fails. -/
def fillBucket (c : Chair) (s : State) : State :=
  let s := onLink c (fun l => { l with bucket := if l.bucket < 8 then l.bucket + 1 else 8 }) s
  if 8 ≤ s.links[c].bucket then
    match s.links[c].state with
    | .locked => loseLink c .errors s
    | .training => failTraining c s
    | .down => s
  else s

/-- A sequence error (R99, R115). -/
def sequenceError (c : Chair) (s : State) : State :=
  markError c (fun k => { k with sequence := bump k.sequence }) s

/-- The sequence check of a LOCKED link; a HELLO is not checked (R115). -/
def checkSequence (c : Chair) (seq : Byte) (s : State) : State :=
  let s := if s.links[c].seq = some seq then s else sequenceError c s
  onLink c (fun l => { l with seq := some (seq + 1#8) }) s

/-- A GO PRESS on a LOCKED link (R118). -/
def takePress (c : Chair) (s : State) : State :=
  if (s.chairRec c).enabled && (s.chairRec c).goRights then chairGo s
  else onLinkCounts c (fun k => { k with ignoredGo := bump k.ignoredGo }) s

/-- A PATCH ACK on a LOCKED link: it resolves the matching request, and otherwise is a sequence error (R96 to R99). -/
def takeAck (c : Chair) (tag : Byte) (okay : Bool) (s : State) : State :=
  if s.patch[c].matches tag then acknowledge c okay s else sequenceError c s

/-- A message that passed its checks is delivered on a LOCKED link (R113, R117). -/
def deliver (c : Chair) (seq : Byte) (m : UpMsg) (s : State) : State :=
  match m with
  | .hello latency monitor => lockLink c seq latency monitor (loseLink c .relock s)
  | .goPress => takePress c (checkSequence c seq s)
  | .patchAck tag okay => takeAck c tag okay (checkSequence c seq s)
  | .echo id turnaround => takeEcho c id turnaround (checkSequence c seq s)
  | .idle => checkSequence c seq s

/-- The silence timer restarts (R112). -/
def restartSilence (c : Chair) (s : State) : State :=
  onLink c (fun l => { l with silence := some (s.time.micros + 50000) }) s

/-- The arrival of an uplink message, checked (R114, R117). A DOWN link decodes nothing, and its line shows activity (R109;
log 16). -/
def arrive (c : Chair) (m : UplinkCheck) (s : State) : State :=
  if s.links[c].state = .down then lineActivity c s
  else
    let s := onLink c (fun l => { l with activity := some s.time.micros }) s
    match m with
    | .crcError => fillBucket c (markError c (fun k => { k with crc := bump k.crc }) s)
    | .formatError => fillBucket c (markError c (fun k => { k with format := bump k.format }) s)
    | .passed seq m =>
      if s.links[c].state = .locked then deliver c seq m (restartSilence c s)
      else
        match m with
        | .hello latency monitor => lockLink c seq latency monitor s
        | _ => s

/-- What the checks of R114 make of a message whose CRC is right: `none` fails the format check. -/
def formatCheck (seq : Byte) (m : Option UpMsg) : UplinkCheck :=
  match m with
  | some m => .passed seq m
  | none => .formatError

/-! ## Timers (R110, R112, R116) -/

/-- The training timer expires (R110). -/
def trainingTimeout (c : Chair) (s : State) : State :=
  if s.links[c].state = .training ∧ s.elapsed? s.links[c].training then failTraining c s else s

/-- The silence timer expires (R112). -/
def silenceTimeout (c : Chair) (s : State) : State :=
  if s.links[c].state = .locked ∧ s.elapsed? s.links[c].silence then loseLink c .silence s else s

/-- A leak step: every link's error bucket falls by one, and the next step comes 125 ms later (R116). -/
def leakStep (s : State) : State :=
  if s.leakDue ≤ s.time.micros then
    { s with
      leakDue := s.leakDue + 125000
      links := tabulateChairs fun c => { s.links[c] with bucket := s.links[c].bucket - 1 } }
  else s

/-! ## The downlink (R110, R119, R120) -/

/-- A TRAIN frame begins, 1 ms after the one before (R110, R120). -/
def trainFrame (c : Chair) (s : State) : State :=
  match s.links[c].trainDue with
  | some t =>
    if s.links[c].state = .training ∧ t ≤ s.time.micros then
      onLink c (fun l => { l with trainDue := some (t + 1000), sent := some (.train (chairNumber c)) }) s
    else s
  | none => s

/-- The chair's next picture line, if the Compositor has one ready (R120, R151). -/
def State.lineReady (s : State) (c : Chair) : Option (Nat × Picture) :=
  let v := s.overlay.views[c]
  if v.composing && s.links[c].monitor then
    match v.picture with
    | some p => if v.cursor < p.height then some (v.cursor, p) else none
    | none => none
  else none

/-- The arbiter grants the free downlink of a LOCKED link to the first kind that waits, and tells its owner that the
message has begun (R120). -/
def grant (c : Chair) (s : State) : State :=
  let l := s.links[c]
  if l.state = .locked then
    match l.clickQueue, l.stopMark, l.patchMsg, l.probeMsg, s.lineReady c with
    | k :: rest, _, _, _, _ =>
      finishPart c (fun i => i.handedTo c k) (onLink c (fun l => { l with clickQueue := rest, sent := some (.click k) }) s)
    | [], some on, _, _, _ => onLink c (fun l => { l with stopMark := none, sent := some (.stopMark on) }) s
    | [], none, some m, _, _ => onLink c (fun l => { l with patchMsg := none, sent := some (.patch m) }) s
    | [], none, none, some id, _ =>
      let begun : Probe := { id := id, start := s.time.micros }
      onLink c (fun l => { l with probeMsg := none, outstanding := some begun, sent := some (.probe id) }) s
    | [], none, none, none, some (line, p) =>
      let s := onLink c (fun l => { l with sent := some (.video line p) }) s
      { s with overlay := { s.overlay with
        views := modifyAt s.overlay.views c fun v => { v with cursor := line + 1 } } }
    | [], none, none, none, none => s
  else s

/-! ## Conditions (R122) -/

/-- The CHAIR_DOWN raw condition of a chair (R122). -/
def State.chairDown (s : State) (c : Chair) : Bool :=
  (s.chairRec c).enabled && !decide (s.links[c].state = .locked)

/-- The CHAIR_ERRORS raw condition of a chair, as a sample finds it (R122). -/
def State.chairErrors (s : State) (c : Chair) : Bool := (s.chairRec c).enabled && s.links[c].mark

end Sys2Proof.Machine
end

