-- ==== Sys2Proof/Machine/Pads.lean ====
section
/-! DEFINITION. The Cue Pad Interface: samples, baselines, levels, blocking, contacts and gestures (R123 to R135). -/

namespace Sys2Proof.Machine

/-! ## Sample frames (R123) -/

/-- The five counts of a whole sample frame: start marker A5h and ten count bytes (R123). -/
def padCounts (bytes : List Byte) : Option (Vector Nat 5) :=
  let word := fun (hi lo : Byte) => hi.toNat * 256 + lo.toNat
  match bytes with
  | [m, a, b, c, d, e, f, g, h, i, j] =>
    if m = 0xA5#8 then some #v[word a b, word c d, word e f, word g h, word i j] else none
  | _ => none

/-! ## Baselines and levels (R125, R126) -/

/-- An electrode is touched: its level is TOUCH or DEEP. -/
def Electrode.touched (e : Electrode) : Bool := !decide (e.level = .idle)

/-- An electrode's baseline B (R124). -/
def Electrode.baseline (e : Electrode) : Nat := e.b16 / 16

/-- One of the four thresholds: floor(B × fraction / 256), raised to 1 (R126). -/
def threshold (baseline fraction : Nat) : Int := ((max 1 (baseline * fraction / 256) : Nat) : Int)

/-- The level decided from the level before and delta (R126). -/
def nextLevel (set : Settings) (e : Electrode) (count : Nat) : Level :=
  let b := e.baseline
  let delta : Int := (count : Int) - b
  let touchOn := threshold b set.touch
  let touchOff := threshold b (set.touch - set.hysteresis)
  let deepOn := threshold b set.deep
  let deepOff := threshold b (set.deep - set.hysteresis)
  match e.level with
  | .idle => if touchOn ≤ delta then (if deepOn ≤ delta then .deep else .touch) else .idle
  | .touch => if delta < touchOff then .idle else if deepOn ≤ delta then .deep else .touch
  | .deep => if delta < touchOff then .idle else if delta < deepOff then .touch else .deep

/-- The baseline moves by one sixteenth of the difference, the fraction discarded toward zero (R125). -/
def moveBaseline (b16 count : Nat) : Nat := ((b16 : Int) + ((16 * count : Int) - b16).tdiv 16).toNat

/-- What one electrode's evaluation found. -/
structure Evaluation where
  electrode : Electrode
  began : Bool
  stuck : Bool
  deriving DecidableEq, Repr

/-- An electrode's touch has lasted more than 20 s (R133). -/
def Electrode.isStuck (e : Electrode) (tick : Tick) : Bool :=
  e.touched && e.onset.any fun o => decide (960000 < ticksFrom o tick)

/-- One electrode is evaluated at a sample: the stuck-touch check, the level and the baseline (R125, R126, R133). A touch
that begins on a blocked electrode is void, and a void mark goes when its touch ends (R127). -/
def evaluate (set : Settings) (tick : Tick) (blocked : Bool) (count : Nat) (e : Electrode) : Evaluation :=
  if e.isStuck tick then
    { electrode := { b16 := 16 * count, level := .idle, onset := none, void := false }, began := false, stuck := true }
  else
    let level := nextLevel set e count
    let began := decide (e.level = .idle) && !decide (level = .idle)
    let e' : Electrode :=
      { b16 := if level = .idle ∧ blocked = false then moveBaseline e.b16 count else e.b16
        level := level
        onset := if level = .idle then none else if began then some tick else e.onset
        void := if level = .idle then false else if began then blocked else e.void }
    { electrode := e', began := began, stuck := false }

/-! ## Contacts (R128) -/

/-- The row electrodes Z1 to Z4. -/
def rowZones : List Zone := [1, 2, 3, 4]

/-- An electrode of the row holds a counted touch: touched, with its void mark clear (R128). -/
def Electrode.counted (e : Electrode) : Bool := e.touched && !e.void

/-- Every row electrode that is still touched takes a void mark (R127, R128). -/
def voidRow (es : Vector Electrode 5) : Vector Electrode 5 :=
  rowZones.foldl (fun v z => modifyAt v z fun e => if e.touched then { e with void := true } else e) es

/-- A contact in progress is cancelled at a tick (R128). -/
def Pad.cancel (tick : Tick) (p : Pad) : Pad :=
  match p.contact with
  | none => p
  | some k =>
    let ended : Contact :=
      { k with release := some tick, duration := ticksFrom k.onset tick, outcome := some .cancelled }
    { p with
      contact := none
      last := some ended
      holdPoint := none
      stopPoint := none
      electrodes := voidRow p.electrodes
      counts := { p.counts with cancelled := bump p.counts.cancelled } }

/-- A new contact that begins at a tick. -/
def Contact.fresh (tick : Tick) : Contact :=
  { visits := [], overflow := false, onset := tick, deepest := .touch, release := none, duration := 0, spent := false,
    stopGiven := false, outcome := none }

/-- A touch joins a contact: up to 8 visits, and an overflow mark at a ninth (R128). -/
def Contact.visit (k : Contact) (z : Zone) (tick : Tick) : Contact :=
  if k.visits.length < 8 then { k with visits := k.visits ++ [{ zone := z, onset := tick }] }
  else { k with overflow := true }

/-- How far two electrodes lie apart along the row. -/
def zoneDistance (x y : Zone) : Nat := if x.val ≤ y.val then y.val - x.val else x.val - y.val

/-- The touches that began at one sample in the order in which they join a contact in progress: nearest to its last
visited electrode first, and of two equally near the lower-numbered first (R128). Nearness is measured from the visit that
was the last before the sample (log 38). -/
def joinOrder (lastZone : Zone) (zones : List Zone) : List Zone :=
  zones.foldl (fun l z =>
    insertBefore (fun x y => decide (zoneDistance lastZone x < zoneDistance lastZone y)) z l) []

/-- Step 5, item 1 of a sample: the touches that began become visits, and the hold point is set or cleared (R128, R130). -/
def Pad.joinTouches (tick : Tick) (zones : List Zone) (p : Pad) : Pad :=
  if zones.isEmpty then p
  else
    match p.contact with
    | none =>
      let k := zones.foldl (fun k z => Contact.visit k z tick) (Contact.fresh tick)
      { p with contact := some k, holdPoint := if zones = [3] then some (tick + ticks 28800) else none }
    | some k =>
      let order := joinOrder ((k.visits.getLast?.map (·.zone)).getD 0) zones
      { p with
        contact := some (order.foldl (fun k z => Contact.visit k z tick) k)
        holdPoint := none }

/-- The row's counted touches. -/
def Pad.countedZones (p : Pad) : List Zone := rowZones.filter fun z => p.electrodes[z].counted

/-- Step 5, item 2: the deepest level (R128). -/
def Pad.deepen (p : Pad) : Pad :=
  if p.countedZones.any fun z => decide (p.electrodes[z].level = .deep) then
    { p with contact := p.contact.map fun k => { k with deepest := .deep } }
  else p

/-- Step 5, item 3: the stop point is set or cleared (R131). -/
def Pad.markStopPoint (tick : Tick) (p : Pad) : Pad :=
  let pressed := p.electrodes[(4 : Zone)].counted && decide (p.electrodes[(4 : Zone)].level = .deep)
  match p.contact with
  | none => p
  | some k =>
    if pressed then
      if p.stopPoint.isNone ∧ k.stopGiven = false then { p with stopPoint := some (tick + ticks 72000) } else p
    else { p with stopPoint := none }

/-- The contact's visits run along the row one electrode at a time, all the same way (R132). -/
def steady (up : Bool) : List Visit → Bool
  | a :: b :: rest =>
    (if up then decide (b.zone.val = a.zone.val + 1) else decide (a.zone.val = b.zone.val + 1)) && steady up (b :: rest)
  | _ => true

/-- The outcome of a contact that ends (R128, R129, R132). -/
def Contact.judge (k : Contact) (release : Tick) : ContactOutcome :=
  let duration := ticksFrom k.onset release
  let swift := match k.visits.getLast? with
    | some v => decide (ticksFrom k.onset v.onset ≤ 19200)
    | none => false
  if k.spent then k.outcome.getD .none
  else if k.overflow then .none
  else
    match k.visits with
    | [v] =>
      if duration ≤ 14400 then
        (if v.zone = 1 then .go else if v.zone = 2 then .tempoTap else .tap)
      else .none
    | vs =>
      if 3 ≤ vs.length ∧ swift = true then
        (if steady true vs then .next else if steady false vs then .back else .none)
      else .none

/-- The pad counts after a contact's outcome (R129, R132). -/
def PadCounts.after (k : PadCounts) : ContactOutcome → PadCounts
  | .go => { k with goTaps := bump k.goTaps }
  | .tempoTap => { k with tempoTaps := bump k.tempoTaps }
  | .next => { k with swipesNext := bump k.swipesNext }
  | .back => { k with swipesBack := bump k.swipesBack }
  | _ => k

/-- Step 5, item 4: the contact ends when no counted touch remains (R128); the second component is the contact that ended
unspent, whose gesture is to be handed on. -/
def Pad.endContact (tick : Tick) (p : Pad) : Pad × Option Contact :=
  match p.contact with
  | none => (p, none)
  | some k =>
    if p.countedZones.isEmpty then
      let outcome := k.judge tick
      let ended : Contact :=
        { k with release := some tick, duration := ticksFrom k.onset tick, outcome := some outcome }
      ({ p with
          contact := none
          last := some ended
          holdPoint := none
          stopPoint := none
          counts := if k.spent then p.counts else p.counts.after outcome },
        if k.spent then none else some ended)
    else (p, none)

/-! ## Samples (R125, R133, R134) -/

/-- A sample's evaluation of one row electrode (R125, step 4), with the touches that began so far. A stuck reseed of a
counted touch cancels the contact (R133). -/
def Pad.evaluateRow (set : Settings) (tick : Tick) (counts : Vector Nat 5) (r : Pad × List Zone) (z : Zone) :
    Pad × List Zone :=
  let p := r.1
  let wasCounted := p.electrodes[z].counted
  let found := evaluate set tick p.blocking counts[z] p.electrodes[z]
  let p := { p with electrodes := modifyAt p.electrodes z fun _ => found.electrode }
  if found.stuck then
    let p := { p with counts := { p.counts with stuckReseeds := bump p.counts.stuckReseeds } }
    (if wasCounted then p.cancel tick else p, r.2)
  else (p, if found.began && found.electrode.counted then r.2 ++ [z] else r.2)

/-- Steps 1 to 5 of a sample in RUNNING (R125). -/
def Pad.takeSample (set : Settings) (tick : Tick) (counts : Vector Nat 5) (p : Pad) : Pad × Option Contact :=
  -- step 1
  let p := { p with lastTick := some tick, lastCounts := some counts, watch := some (tick + ticks 1920) }
  -- step 2
  let found := evaluate set tick false counts[0] p.electrodes[(0 : Zone)]
  let p := { p with
    electrodes := modifyAt p.electrodes 0 fun _ => found.electrode
    counts :=
      if found.stuck then { p.counts with stuckReseeds := bump p.counts.stuckReseeds } else p.counts }
  -- step 3 (R127)
  let block := found.electrode.touched
  let p :=
    if block && !p.blocking then
      let p := p.cancel tick
      { p with electrodes := voidRow p.electrodes }
    else p
  let p := { p with blocking := block }
  -- step 4
  let row := rowZones.foldl (Pad.evaluateRow set tick counts) (p, [])
  -- step 5 (R128)
  let began := row.2.filter fun z => row.1.electrodes[z].counted
  (((row.1.joinTouches tick began).deepen).markStopPoint tick).endContact tick

/-- A sample in SEEDING or LOST seeds the pad (R134). -/
def Pad.seed (tick : Tick) (counts : Vector Nat 5) (p : Pad) : Pad :=
  { p with
    state := .running
    lastTick := some tick
    lastCounts := some counts
    electrodes := #v[fresh counts[0], fresh counts[1], fresh counts[2], fresh counts[3], fresh counts[4]]
    blocking := false
    watch := some (tick + ticks 1920) }
where
  /-- An idle electrode whose baseline is the count. -/
  fresh (count : Nat) : Electrode := { b16 := 16 * count, level := .idle, onset := none, void := false }

/-- A pad swipe moves the standby (R39): ignored while the show is closed or STOPPED. -/
def padSwipe (move : State → State) (s : State) : State :=
  if s.cue.isOpen ∧ s.stop.state ≠ .stopped then move s else s

/-- A contact's gesture is handed on (R128 to R132). -/
def handGesture (k : Contact) (s : State) : State :=
  match k.outcome with
  | some .go => (decideGo .pad s).1
  | some .tempoTap => tempoTap k.onset s
  | some .next => padSwipe standbyNext s
  | some .back => padSwipe standbyBack s
  | _ => s

/-- A pad line frame arrives (R123, R125, R134). -/
def padFrame (bytes : List Byte) (s : State) : State :=
  match padCounts bytes with
  | none => { s with pad := { s.pad with
      counts := { s.pad.counts with discarded := bump s.pad.counts.discarded } } }
  | some counts =>
    match s.pad.state with
    | .running =>
      let taken := s.pad.takeSample s.book.settings s.now counts
      let s := { s with pad := taken.1 }
      match taken.2 with
      | some k => handGesture k s
      | none => s
    | .seeding | .lost => { s with pad := s.pad.seed s.now counts }

/-! ## Points, loss and reseed (R130, R131, R134, R135) -/

/-- The hold point is reached (R130). -/
def holdPointReached (s : State) : State :=
  if s.due? s.pad.holdPoint then
    match s.pad.contact with
    | some k =>
      if (k.visits.map (·.zone)) = [3] ∧ k.spent = false then
        vampRelease { s with pad := { s.pad with
          contact := some { k with spent := true, outcome := some .hold }
          holdPoint := none
          counts := { s.pad.counts with holds := bump s.pad.counts.holds } } }
      else { s with pad := { s.pad with holdPoint := none } }
    | none => { s with pad := { s.pad with holdPoint := none } }
  else s

/-- The stop point is reached (R131). -/
def stopPointReached (s : State) : State :=
  if s.due? s.pad.stopPoint then
    match s.pad.contact with
    | some k =>
      stopRequest .pad { s with pad := { s.pad with
        contact := some { k with spent := true, stopGiven := true, outcome := some .stop }
        stopPoint := none
        counts := { s.pad.counts with stopPresses := bump s.pad.counts.stopPresses } } }
    | none => { s with pad := { s.pad with stopPoint := none } }
  else s

/-- Every electrode idle, with no onset and no void mark, its baseline kept (R134). -/
def idleElectrodes (es : Vector Electrode 5) : Vector Electrode 5 :=
  ([0, 1, 2, 3, 4] : List Zone).foldl
    (fun v z => modifyAt v z fun e => { e with level := .idle, onset := none, void := false }) es

/-- The pad-loss watch expires (R134). -/
def padLoss (s : State) : State :=
  if s.due? s.pad.watch ∧ s.pad.state ≠ .lost then
    let p := s.pad.cancel s.now
    { s with pad := { p with
      state := .lost, watch := none, blocking := false, electrodes := idleElectrodes p.electrodes } }
  else s

/-- PAD RESEED in RUNNING: every electrode is reseeded from the last counts (R135). -/
def reseedPad (s : State) : State :=
  match s.pad.state, s.pad.lastCounts with
  | .running, some counts =>
    let p := s.pad.cancel s.now
    { s with pad := { p with
      blocking := false
      electrodes := #v[Pad.seed.fresh counts[0], Pad.seed.fresh counts[1], Pad.seed.fresh counts[2],
                       Pad.seed.fresh counts[3], Pad.seed.fresh counts[4]] } }
  | _, _ => s

/-- The PAD_LOST raw condition (R134). -/
def State.padLost (s : State) : Bool := decide (s.pad.state = .lost)

end Sys2Proof.Machine
end

