-- ==== Sys2Proof/Machine/Videos.lean ====
section
/-! DEFINITION. The Video Switch and the Overlay Compositor: camera lock, selection, the frame store, the output frame
boundary, and the composed pictures (R136 to R151). -/

namespace Sys2Proof.Machine

/-! ## Cameras (R136, R137) -/

/-- The state of a camera. -/
def Video.cam (v : Video) : Camera → Cam
  | .a => v.camA
  | .b => v.camB

/-- A camera's state changed by `f`. -/
def Video.onCam (c : Camera) (f : Cam → Cam) (v : Video) : Video :=
  match c with
  | .a => { v with camA := f v.camA }
  | .b => { v with camB := f v.camB }

/-- The active camera, if any (R138). -/
def Video.active (v : Video) : Option Camera :=
  match v.sel with
  | .aActive => some .a
  | .bActive => some .b
  | .holding | .none => none

/-- The expected size of the show settings record (R10, R137). -/
def Settings.size (s : Settings) : Size := { width := s.width, height := s.height }

/-- A frame's measurement: none for an irregular frame, whose active lines are not all of one width (R136). A frame of no
active lines has none either (log 29). -/
def measure (widths : List Nat) : Option Size :=
  match widths with
  | [] => none
  | w :: rest => if rest.all fun x => decide (x = w) then some { width := w, height := widths.length } else none

/-- The four conditions under which the revert expiry runs (R142). -/
def Video.revertRuns (v : Video) (autoRevert : Bool) : Bool :=
  decide (v.sel = .bActive) && decide (v.mode = .auto) && autoRevert && decide (v.camA.state = .locked)

/-- The revert expiry starts when its conditions first hold together, and becomes none when one stops holding (R142). -/
def updateRevert (s : State) : State :=
  if s.video.revertRuns s.book.settings.autoRevert then
    match s.video.revertExp with
    | some _ => s
    | none => { s with video := { s.video with revertExp := some (s.now + ticks 240000) } }
  else { s with video := { s.video with revertExp := none } }

/-- The failover expiry starts when the active camera leaves LOCKED, and becomes none when it enters LOCKED again
(R140). -/
def moveFailover (c : Camera) (old new : CameraState) (s : State) : State :=
  if s.video.active = some c then
    if old = .locked ∧ new ≠ .locked then
      { s with video := { s.video with failover := some (s.now + msTicks s.book.settings.failover) } }
    else if old ≠ .locked ∧ new = .locked then { s with video := { s.video with failover := none } }
    else s
  else s

/-- A camera takes a state, with the failover and revert expiries that follow (R137, R140, R142). -/
def setCameraState (c : Camera) (st : CameraState) (s : State) : State :=
  let old := (s.video.cam c).state
  let entered := decide (old ≠ .locked) && decide (st = .locked)
  let f := fun (k : Cam) =>
    { k with
      state := st
      lockTick := if entered then some s.now else k.lockTick
      locked := if st = .noSignal ∨ st = .acquiring then none else k.locked }
  updateRevert (moveFailover c old st { s with video := s.video.onCam c f })

/-- A camera's state after a frame (R137). -/
def Cam.next (k : Cam) (size : Option Size) (expected : Size) : CameraState :=
  match k.state with
  | .noSignal => .acquiring
  | .acquiring =>
    if size.isSome ∧ size = k.previous then (if size = some expected then .locked else .mismatch) else .acquiring
  | .locked => if size.isSome ∧ size = k.previous then .locked else .acquiring
  | .mismatch => if size.isSome ∧ size = k.previous then .mismatch else .acquiring

/-- The measured rate: the frames received in the last second, 0..255 (R136; log 17). -/
def State.measuredRate (s : State) (k : Cam) : Nat :=
  min 255 (k.arrivals.filter fun t => decide (s.time.micros < t + 1000000)).length

/-- A camera frame's arrival is measured, and moves the camera's state (R137). -/
def takeArrival (c : Camera) (size : Option Size) (s : State) : State :=
  let old := (s.video.cam c).state
  let st := (s.video.cam c).next size s.book.settings.size
  let micros := s.time.micros
  let f := fun (k : Cam) =>
    { k with
      locked := if (st = .locked ∨ st = .mismatch) ∧ st ≠ old then size else k.locked
      previous := size
      watch := some (s.now + ticks 2400)
      arrivals := (k.arrivals.filter fun t => decide (micros < t + 1000000)) ++ [micros] }
  setCameraState c st { s with video := s.video.onCam c f }

/-- A camera's signal watch expires (R137). -/
def signalWatchExpiry (c : Camera) (s : State) : State :=
  if s.due? (s.video.cam c).watch then
    let f := fun (k : Cam) => { k with watch := none, previous := none }
    setCameraState c .noSignal { s with video := s.video.onCam c f }
  else s

/-- One camera is compared with a changed expected size (R137). -/
def recompareCam (s : State) (c : Camera) : State :=
  let k := s.video.cam c
  if k.state = .locked ∨ k.state = .mismatch then
    setCameraState c (if k.locked = some s.book.settings.size then .locked else .mismatch) s
  else s

/-- The settings record has changed from `old`: the cameras are compared where the expected size changed (R137), and the
revert expiry follows the auto-revert field (R142). -/
def videoSettings (old : Settings) (s : State) : State :=
  let s := if old.size = s.book.settings.size then s else recompareCam (recompareCam s .a) .b
  updateRevert s

/-- The CAMERA_A or CAMERA_B raw condition (R137). -/
def State.cameraDown (s : State) (c : Camera) : Bool := !decide ((s.video.cam c).state = .locked)

/-- The NO_CONDUCTOR raw condition (R138). -/
def State.noConductor (s : State) : Bool := s.video.active.isNone

/-! ## The frame store (R144, R145) -/

/-- Each buffer of the store changed by `f`. -/
def Video.onBuffers (f : Buffer → Buffer) (v : Video) : Video :=
  { v with buffers := #v[f v.buffers[0], f v.buffers[1], f v.buffers[2]] }

/-- A buffer is FILLING. -/
def Buffer.isFilling : Buffer → Bool
  | .filling _ => true
  | _ => false

/-- The first FREE of the buffers becomes FILLING with the camera's frame: R144 says a FREE buffer, and the model takes the
lowest-numbered of several (log 29). -/
def fillFirst (c : Camera) (v : Vector Buffer 3) : Vector Buffer 3 :=
  if v[0] = .free then #v[.filling c, v[1], v[2]]
  else if v[1] = .free then #v[v[0], .filling c, v[2]]
  else if v[2] = .free then #v[v[0], v[1], .filling c]
  else v

/-- A camera's frame begins (R144): the writer starts a frame of the active, LOCKED camera in a FREE buffer, or starts
over in the buffer it was filling (log 29). -/
def frameStart (c : Camera) (s : State) : State :=
  if s.video.active = some c ∧ (s.video.cam c).state = .locked then
    if s.video.buffers.toList.any Buffer.isFilling then s
    else { s with video := { s.video with buffers := fillFirst c s.video.buffers } }
  else s

/-- A complete frame that no boundary has shown. -/
def Buffer.isComplete : Buffer → Bool
  | .complete _ => true
  | _ => false

/-- A drop: it is counted, and its tick joins the rate window (R144). -/
def countDrop (s : State) : State :=
  { s with video := { s.video with drops := bump s.video.drops, window := s.video.window ++ [s.now] } }

/-- A counted repeat: it is counted, and its tick joins the rate window (R145). -/
def countRepeat (s : State) : State :=
  { s with video := { s.video with repeats := bump s.video.repeats, window := s.video.window ++ [s.now] } }

/-- The FILLING buffer of a camera whose frame has arrived: COMPLETE, with an unshown frame dropped, or FREE (R144). -/
def frameComplete (c : Camera) (size : Option Size) (image : Nat) (s : State) : State :=
  if s.video.buffers.toList.any fun b => decide (b = .filling c) then
    match size with
    | some z =>
      if s.video.active = some c ∧ (s.video.cam c).state = .locked then
        let s := if s.video.buffers.toList.any Buffer.isComplete then countDrop s else s
        let done : Frame := { camera := c, size := z, image := image }
        { s with video := s.video.onBuffers fun b =>
            if b = .filling c then .complete done else if b.isComplete then .free else b }
      else { s with video := s.video.onBuffers fun b => if b = .filling c then .free else b }
    | none => { s with video := s.video.onBuffers fun b => if b = .filling c then .free else b }
  else s

/-- A camera frame arrives (R137, R144). -/
def frameArrival (c : Camera) (widths : List Nat) (image : Nat) (s : State) : State :=
  frameComplete c (measure widths) image (takeArrival c (measure widths) s)

/-- The SHOWN frame, if any. -/
def Video.shownFrame (v : Video) : Option Frame :=
  v.buffers.toList.findSome? fun b =>
    match b with
    | .shown f => some f
    | _ => none

/-- The VIDEO_RATE raw condition (R145). -/
def State.videoRate (s : State) : Bool := decide (10 < s.video.window.length)

/-! ## Selection (R140 to R143) -/

/-- The failover expiry is reached: the failover due mark is set (R140). -/
def failoverExpiry (s : State) : State :=
  if s.due? s.video.failover then { s with video := { s.video with failoverDue := true } } else s

/-- The selection state of a camera that is active. -/
def selectionOf : Camera → Selection
  | .a => .aActive
  | .b => .bActive

/-- The other camera. -/
def otherCamera : Camera → Camera
  | .a => .b
  | .b => .a

/-- The selection state changes at a boundary (R138, R140, R141, R144): VIDEO_CHANGE is flagged, buffers not shown become
FREE, the failover is cleared (log 13), the hold expiry runs in HOLDING alone, and the revert expiry follows. -/
def changeSelection (sel : Selection) (s : State) : State :=
  if s.video.sel = sel then s
  else
    let free := fun (b : Buffer) => if b.isFilling || b.isComplete then .free else b
    let video := s.video.onBuffers free
    updateRevert (flag .videoChange { s with video :=
      { video with
        sel := sel
        failover := none
        failoverDue := false
        holdExp := if sel = .holding then some (s.now + ticks 96000) else none } })

/-- A due failover is decided (R140). -/
def failoverDecision (s : State) : State :=
  if s.video.failoverDue then
    match s.video.active with
    | none => { s with video := { s.video with failover := none, failoverDue := false } }
    | some c =>
      if (s.video.cam c).state = .locked then
        { s with video := { s.video with failover := none, failoverDue := false } }
      else if s.video.mode = .auto ∧ (s.video.cam (otherCamera c)).state = .locked then
        changeSelection (selectionOf (otherCamera c)) s
      else changeSelection .holding s
  else s

/-- A hold whose expiry is reached ends in NONE, with every buffer FREE (R141). -/
def holdEnd (s : State) : State :=
  if s.video.sel = .holding ∧ s.due? s.video.holdExp then
    let s := changeSelection .none s
    { s with video := s.video.onBuffers fun _ => .free }
  else s

/-- A revert whose expiry is reached makes camera A active (R142). -/
def revertDecision (s : State) : State :=
  if s.video.sel = .bActive ∧ s.due? s.video.revertExp then changeSelection .aActive s else s

/-- The camera that a mode names. -/
def VideoMode.camera : VideoMode → Option Camera
  | .auto => none
  | .a => some .a
  | .b => some .b

/-- A VIDEO SELECT that is pending takes effect (R143): with the other camera active, the named camera becomes active if
it is LOCKED, and the selection is held otherwise. -/
def selectDecision (s : State) : State :=
  match s.video.mode.camera, s.video.active with
  | some c, some active =>
    if active = c then s
    else if (s.video.cam c).state = .locked then changeSelection (selectionOf c) s
    else changeSelection .holding s
  | _, _ => s

/-- The camera that HOLDING or NONE takes back, if any (R141). -/
def Video.takeBack (v : Video) : Option Camera :=
  let lockedA := decide (v.camA.state = .locked)
  let lockedB := decide (v.camB.state = .locked)
  match v.mode with
  | .a => if lockedA then some .a else none
  | .b => if lockedB then some .b else none
  | .auto =>
    if lockedA && lockedB then
      match v.camA.lockTick, v.camB.lockTick with
      | some a, some b => if tickBefore b a then some .b else some .a
      | _, _ => some .a
    else if lockedA then some .a
    else if lockedB then some .b
    else none

/-- In HOLDING and NONE a LOCKED camera that the mode allows is taken back (R141). -/
def takeBackDecision (s : State) : State :=
  if s.video.sel = .holding ∨ s.video.sel = .none then
    match s.video.takeBack with
    | some c => changeSelection (selectionOf c) s
    | none => s
  else s

/-- Step 1 of a boundary: the selection decision (R139; log 13 for the order of its parts). -/
def selectionStep (s : State) : State :=
  takeBackDecision (selectDecision (revertDecision (holdEnd (failoverDecision s))))

/-- VIDEO SELECT (R143); the modes are numbered AUTO, A, B (log 8). -/
def videoModeOf : Nat → Option VideoMode
  | 0 => some .auto
  | 1 => some .a
  | 2 => some .b
  | _ => none

/-- The mode becomes the one named at once (R143). -/
def setVideoMode (m : VideoMode) (s : State) : State := updateRevert { s with video := { s.video with mode := m } }

/-! ## The reader (R145) -/

/-- Step 2 of a boundary: the reader chooses the frame to show (R145). -/
def readerStep (s : State) : State :=
  match s.video.active with
  | none => s
  | some c =>
    if s.video.buffers.toList.any Buffer.isComplete then
      { s with video := s.video.onBuffers fun b =>
          match b with
          | .complete f => .shown f
          | .shown _ => .free
          | b => b }
    else if (s.video.cam c).state = .locked ∧ s.video.shownFrame.map (·.camera) = some c then countRepeat s
    else s

/-! ## Pictures (R147 to R150) -/

/-- A view rectangle as a frame rectangle (R150). -/
def frameRect (o : Orientation) (z : Size) (r : Rect) : Rect :=
  match o with
  | .deg0 => r
  | .deg90 => { left := z.width - r.top - r.height, top := r.left, width := r.height, height := r.width }
  | .deg180 =>
    { left := z.width - r.left - r.width, top := z.height - r.top - r.height, width := r.width, height := r.height }
  | .deg270 => { left := r.top, top := z.height - r.left - r.width, width := r.height, height := r.width }

/-- The strip's view rectangle (R150). -/
def stripView (o : Orientation) (p : Placement) (z : Size) : Rect :=
  let v := viewSize o z
  { left := 0, top := if p = .top then 0 else v.height - 64, width := v.width, height := 64 }

/-- The lamp's view rectangle: the last 64 pixels of the strip (R148, R150). -/
def lampView (o : Orientation) (p : Placement) (z : Size) : Rect :=
  let r := stripView o p z
  { left := r.width - 64, top := r.top, width := 64, height := 64 }

/-- The beat lamp on the frame of a boundary at tick `now` (R148). -/
def lampOf (beat : Option BeatField) (now : Tick) : Lamp :=
  match beat with
  | some b => if ticksFrom b.tick now < 4800 then (if b.downbeat then .accent else .beat) else .dark
  | none => .dark

/-- The info strip and lamp of a chair's view settings (R148, R150). -/
def State.strip (s : State) (o : Orientation) (p : Placement) : Strip :=
  let z := s.book.settings.size
  let text : StripText :=
    { cue := s.overlay.lastCue
      song := s.overlay.position.bind fun pos => (s.book.song? pos.song).map fun r => (pos.song, r.title)
      position := s.overlay.position.map fun pos => (pos.bar, pos.beat)
      standby := s.overlay.standby }
  { view := stripView o p z, rect := frameRect o z (stripView o p z)
    lampView := lampView o p z, lampRect := frameRect o z (lampView o p z)
    text := text, lamp := lampOf s.overlay.beat s.now }

/-- The conductor picture's frame: none is black (R141, R145). -/
def State.conductorImage (s : State) : Option Nat :=
  match s.video.shownFrame with
  | some f => if f.size = s.book.settings.size then some f.image else none
  | none => none

/-- What a chair's picture shows: the first that applies (R147). -/
def State.shownFor (s : State) (r : ChairRec) : Shown :=
  match s.overlay.stopCard with
  | some k => .stopCard k.first k.pos
  | none =>
    if s.video.sel = .none then .noConductor
    else
      match s.overlay.countCard with
      | some n => .countIn n
      | none => .conductor s.conductorImage (if r.overlay then some (s.strip r.orientation r.placement) else none)

/-- A chair's picture of the frame that begins (R147). -/
def State.pictureFor (s : State) (r : ChairRec) : Picture :=
  { width := s.book.settings.width, height := s.book.settings.height, orientation := r.orientation,
    shown := s.shownFor r }

/-- A chair's view at a boundary (R147, R151): its settings are latched; with the composing mark set the cursor goes to
line 0, and lines not granted make a short frame; the mark is set on a LOCKED link with a monitor. -/
def State.nextView (s : State) (c : Chair) (v : View) : View :=
  let r := s.chairRec c
  let short := v.composing && v.picture.any fun p => decide (v.cursor < p.height)
  let v := { v with
    orientation := r.orientation, placement := r.placement, overlay := r.overlay, picture := some (s.pictureFor r) }
  if v.composing then { v with cursor := 0, shortFrames := if short then bump v.shortFrames else v.shortFrames }
  else if s.links[c].state = .locked ∧ s.links[c].monitor = true then { v with composing := true, cursor := 0 }
  else v

/-- Step 3 of a boundary: the Overlay Compositor latches and composes (R147, R151). -/
def composeStep (s : State) : State :=
  { s with overlay := { s.overlay with views := tabulateChairs fun c => s.nextView c s.overlay.views[c] } }

/-- Step 4 of a boundary: the rate window drops the ticks older than 48,000 ticks before it (R139). -/
def windowStep (s : State) : State :=
  { s with video := { s.video with
    window := s.video.window.filter fun t => !tickBefore t (s.now - ticks 48000) } }

/-- An output frame boundary (R139): the rate read at it sets the time to the next one. A failover expiry reached at or
before the boundary's tick has set the due mark before the boundary is taken. -/
def frameBoundary (s : State) : State :=
  if s.video.boundaryDue ≤ 3 * s.time.micros then
    let due := s.video.boundaryDue + framePeriod s.book.settings.rate
    let s := failoverExpiry { s with video := { s.video with boundaryDue := due } }
    windowStep (composeStep (readerStep (selectionStep s)))
  else s

end Sys2Proof.Machine
end

