-- ==== Sys2Proof/Machine/Faults.lean ====
section
/-! DEFINITION. The Fault Monitor: raw conditions, sampling and deciding, arming, settings, and the FAULT output (R152 to
R163). -/

namespace Sys2Proof.Machine

/-- A fault source; the index `i` stands for source number `i + 1` (R152). -/
abbrev Source := Fin 70

/-- The source that a source number 1 to 70 names. -/
def sourceOf (n : Nat) : Option Source :=
  if h : 1 ≤ n ∧ n ≤ 70 then some ⟨n - 1, by omega⟩ else none

/-- A window class's length N in samples (R152). -/
def WindowClass.samples : WindowClass → Nat
  | .w10 => 10
  | .w25 => 25
  | .w100 => 100
  | .w200 => 200

/-- The asserted samples at which a class's live flag sets: floor(N / 2) + 1 (R152, R155). -/
def WindowClass.threshold (w : WindowClass) : Nat := w.samples / 2 + 1

/-- The raw condition of a source (R152). -/
def State.condition (s : State) (i : Source) : Bool :=
  match i.val with
  | 64 => s.cameraDown .a
  | 65 => s.cameraDown .b
  | 66 => s.noConductor
  | 67 => s.videoRate
  | 68 => s.padLost
  | 69 => s.syncLost
  | n =>
    if h : n / 4 < 16 then
      let c : Chair := ⟨n / 4, h⟩
      match n % 4 with
      | 0 => s.chairDown c
      | 1 => s.chairErrors c
      | 2 => s.patchFail c
      | _ => s.clickDrift c
    else false

/-- A source's window class and action, as the settings record holds them (R152). -/
def State.faultSetting (s : State) (i : Source) : FaultSetting := s.book.settings.faults[i]

/-- The asserted samples of a window (R152). -/
def FaultSource.asserted (f : FaultSource) : Nat := (f.window.filter id).length

/-! ## The FAULT output (R163) -/

/-- The FAULT output is to be RAISED: ARMED, with a live source whose action is STOP (R163). -/
def State.faultWanted (s : State) : Bool :=
  s.faults.armed &&
    (tabulateFin fun i : Source =>
      s.faults.sources[i].live && decide ((s.faultSetting i).action = .stop)).toList.any id

/-- The FAULT output is decided afresh, and a change is handed to the Stop Controller (R163). -/
def decideOutput (s : State) : State :=
  if s.faultWanted = s.faults.raised then s
  else if s.faultWanted then stopRequest .fault { s with faults := { s.faults with raised := true } }
  else releaseSource .fault { s with faults := { s.faults with raised := false } }

/-! ## Sampling (R154 to R157) -/

/-- A source's window takes a sample (R154). -/
def FaultSource.sample (f : FaultSource) (w : WindowClass) (asserted : Bool) : FaultSource :=
  { f with window := takeLast w.samples (f.window ++ [asserted]) }

/-- A source's live and held flags are decided (R155). -/
def FaultSource.judge (f : FaultSource) (w : WindowClass) : FaultSource :=
  if f.live then (if f.asserted = 0 then { f with live := false } else f)
  else if w.threshold ≤ f.asserted then { f with live := true, held := true }
  else f

/-- A source at a sample step (R154, steps 1 and 2). -/
def State.sampledSource (s : State) (i : Source) : FaultSource :=
  let set := s.faultSetting i
  let f := s.faults.sources[i].sample set.window (s.condition i)
  if s.faults.armed ∧ set.action ≠ .ignore then f.judge set.window else f

/-- Some source's flag, read by `g`, is set in the new sources and was not in the old (R157). -/
def newlySet (g : FaultSource → Bool) (old new : Vector FaultSource 70) : Bool :=
  (tabulateFin fun i : Source => g new[i] && !g old[i]).toList.any id

/-- A sample step (R154); the CHAIR_ERRORS readings clear the chairs' error marks (R122). -/
def sampleStep (s : State) : State :=
  if tickReached s.now s.faults.sampleDue then
    let old := s.faults.sources
    let new := tabulateFin s.sampledSource
    let s := { s with
      faults := { s.faults with sources := new, sampleDue := s.faults.sampleDue + ticks 480 }
      links := tabulateChairs fun c => { s.links[c] with mark := false } }
    let s := if newlySet (·.live) old new then flag .faultLive s else s
    let s := if newlySet (·.held) old new then flag .faultHeld s else s
    decideOutput s
  else s

/-! ## Arming (R158) -/

/-- The arming expiry is reached (R158). -/
def armingExpiry (s : State) : State :=
  if s.due? s.faults.armExp then { s with faults := { s.faults with armed := true, armExp := none } } else s

/-- Every source's flags, with the live or the held flags cleared. -/
def clearFlags (live held : Bool) (v : Vector FaultSource 70) : Vector FaultSource 70 :=
  tabulateFin fun i : Source =>
    { v[i] with live := v[i].live && !live, held := v[i].held && !held }

/-- SHOW OPEN at the Fault Monitor (R158). -/
def openFaults (s : State) : State :=
  { s with faults := { s.faults with
    armed := false, armExp := some (s.now + ticks 96000), sources := clearFlags false true s.faults.sources } }

/-- SHOW CLOSE at the Fault Monitor: disarmed, live flags cleared and the FAULT output released (R158, R163). -/
def closeFaults (s : State) : State :=
  decideOutput { s with faults := { s.faults with
    armed := false, armExp := none, sources := clearFlags true false s.faults.sources } }

/-! ## Settings (R159, R160) -/

/-- A source takes a class and an action, as FAULT SET, BOOK CLEAR and image loads change them (R159, R160). -/
def applyFault (i : Source) (new : FaultSetting) (s : State) : State :=
  let old := s.faultSetting i
  let book := { s.book with settings :=
    { s.book.settings with faults := s.book.settings.faults.set i.val new i.isLt } }
  let change := fun (f : FaultSource) =>
    let f := { f with window := takeLast new.window.samples f.window }
    if new.action = .ignore ∧ old.action ≠ .ignore then { f with live := false, held := false } else f
  let s := { s with book := book, faults := { s.faults with sources := modifyAt s.faults.sources i change } }
  if old.action ≠ new.action ∧ (old.action = .stop ∨ new.action = .stop) then decideOutput s else s

/-- Every source takes the entry of a new settings record (R159). -/
def applyFaults (new : Vector FaultSetting 70) (s : State) : State :=
  (tabulateFin fun i : Source => i).toList.foldl (fun s i => applyFault i new[i] s) s

/-- A source in its window class from 0 (R152, R185). -/
def windowClassOf : Nat → Option WindowClass
  | 0 => some .w10
  | 1 => some .w25
  | 2 => some .w100
  | 3 => some .w200
  | _ => none

/-- An action from 0 (R152, R185). -/
def faultActionOf : Nat → Option FaultAction
  | 0 => some .ignore
  | 1 => some .report
  | 2 => some .stop
  | _ => none

/-! ## Reading and clearing (R161, R162) -/

/-- The held flags that FAULT CLEAR would clear: those of sources that are not live (R161). -/
def FaultMonitor.clearable (m : FaultMonitor) : Nat := (m.sources.toList.filter fun f => f.held && !f.live).length

/-- The held flag of every source whose live flag is clear is cleared (R161). -/
def clearHeld (s : State) : State :=
  { s with faults := { s.faults with sources := tabulateFin fun i : Source =>
      { s.faults.sources[i] with held := s.faults.sources[i].held && s.faults.sources[i].live } } }

/-- What FAULT READ answers of one source (R162). -/
def State.faultReport (s : State) (i : Source) : FaultReport :=
  let f := s.faults.sources[i]
  { setting := s.faultSetting i, samples := f.window.length, asserted := f.asserted, live := f.live, held := f.held }

/-- What FAULT READ answers of all sources (R162). -/
def State.faultLines (s : State) : List FaultLine :=
  s.faults.sources.toList.map fun f => { asserted := f.asserted, live := f.live, held := f.held }

/-- Any-live (R153). -/
def FaultMonitor.anyLive (m : FaultMonitor) : Bool := m.sources.toList.any (·.live)

/-- Any-held (R153). -/
def FaultMonitor.anyHeld (m : FaultMonitor) : Bool := m.sources.toList.any (·.held)

end Sys2Proof.Machine
end

