-- ==== Sys2Proof/Machine/Operands.lean ====
section
/-! DEFINITION. The ranges of the operands (R1 to R10, R102, R185): a raw operand becomes the value it stands for, or none
where it lies outside its range. Enumerations are numbered from 0 in the order in which their fields list them (R185;
log 8). -/

namespace Sys2Proof.Machine

/-! ## Enumerations (R185) -/

/-- A beat unit (R2). -/
def beatUnitOf : Nat → Option BeatUnit
  | 0 => some .eighth
  | 1 => some .quarter
  | 2 => some .dottedQuarter
  | 3 => some .half
  | _ => none

/-- A field of yes or no (R2, R9). -/
def yesNoOf : Nat → Option Bool
  | 0 => some true
  | 1 => some false
  | _ => none

/-- A field of on or off (R9). -/
def onOffOf : Nat → Option Bool
  | 0 => some true
  | 1 => some false
  | _ => none

/-- A field of off or on (R10, auto-revert). -/
def offOnOf : Nat → Option Bool
  | 0 => some false
  | 1 => some true
  | _ => none

/-- A station action's click action (R4). -/
def clickActionOf : Nat → Option ClickAction
  | 0 => some .on
  | 1 => some .off
  | 2 => some .unchanged
  | _ => none

/-- A variant key (R8). -/
def variantOf : Nat → Option Variant
  | 0 => some .base
  | 1 => some .v1
  | 2 => some .v2
  | 3 => some .v3
  | _ => none

/-- A monitor orientation (R9). -/
def orientationOf : Nat → Option Orientation
  | 0 => some .deg0
  | 1 => some .deg90
  | 2 => some .deg180
  | 3 => some .deg270
  | _ => none

/-- A strip placement (R9). -/
def placementOf : Nat → Option Placement
  | 0 => some .top
  | 1 => some .bottom
  | _ => none

/-- An expected video rate (R10). -/
def frameRateOf : Nat → Option FrameRate
  | 0 => some .f25
  | 1 => some .f2997
  | 2 => some .f30
  | 3 => some .f50
  | 4 => some .f5994
  | 5 => some .f60
  | _ => none

/-- A house sync setting (R10). -/
def houseSyncOf : Nat → Option HouseSync
  | 0 => some .use
  | 1 => some .ignore
  | _ => none

/-- A GO source mask: bits 0 to 2 are PAD, CONTROL and CHAIR (R4, R185). -/
def goMaskOf (n : Nat) : Option GoMask :=
  if n < 8 then some { pad := n.testBit 0, control := n.testBit 1, chair := n.testBit 2 } else none

/-! ## Ranges -/

/-- A number lies in `lo`..`hi`. -/
def inRange (lo hi n : Nat) : Bool := decide (lo ≤ n) && decide (n ≤ hi)

/-- A text of `lo` to `hi` characters, each from space to tilde (R1). -/
def textOk (lo hi : Nat) (t : Text) : Bool :=
  inRange lo hi t.length && t.all fun c => inRange 32 126 c.toNat

/-- A parameter entry lies in its ranges (R6). -/
def entryOk (e : Entry) : Bool := inRange 0 15 e.device && inRange 0 1023 e.code && inRange 0 65535 e.value

/-- A parameter list holds 1 to 64 entries in their ranges (R6, R102). -/
def entriesOk (l : List Entry) : Bool := inRange 1 64 l.length && l.all entryOk

/-! ## Records -/

/-- A song write's operands lie in their ranges (R1). -/
def songWriteOk (w : SongWrite) : Bool :=
  inRange 1 64 w.number && textOk 1 24 w.title && inRange 0 999 w.firstBar && inRange 0 999 w.lastBar &&
    w.keyRole.all (inRange 1 32)

/-- The segment that a write carries (R2); a start bar above 999 lies outside the range of a bar (log 26). -/
def segmentOf (w : SegmentWrite) : Option Segment :=
  match beatUnitOf w.beatUnit, yesNoOf w.follow with
  | some unit, some follow =>
    if inRange 1 64 w.song && inRange 0 999 w.startBar && inRange 1 15 w.beatsPerBar &&
        inRange 2000 30000 w.startTempo && inRange 2000 30000 w.endTempo && inRange 0 64 w.ramp &&
        inRange 1 4 w.subdivision then
      some { song := w.song, startBar := w.startBar, beatsPerBar := w.beatsPerBar, beatUnit := unit,
             startTempo := w.startTempo, endTempo := w.endTempo, ramp := w.ramp, subdivision := w.subdivision,
             follow := follow }
    else none
  | _, _ => none

/-- A trigger lies in its ranges (R4). -/
def triggerOk : Trigger → Bool
  | .go => true
  | .bar bar beat lead => inRange 0 999 bar && inRange 1 15 beat && inRange 0 100 lead
  | .follow delay => inRange 0 10000 delay

/-- A tempo action lies in its ranges (R4). -/
def tempoActionOk : TempoAction → Bool
  | .start song bar => inRange 1 64 song && inRange 0 999 bar
  | .setTempo value => inRange 0 65535 value
  | .hold | .release | .park => true

/-- A vamp action lies in its ranges (R4). -/
def vampActionOk : VampAction → Bool
  | .vamp first last => inRange 0 999 first && inRange 0 999 last
  | .exit => true

/-- The station action that a write carries (R4). -/
def actionOf (w : ActionWrite) : Option StationAction :=
  match chairOf w.chair, clickActionOf w.click with
  | some c, some k => if w.patch.all (inRange 1 999) then some { chair := c, patch := w.patch, click := k } else none
  | _, _ => none

/-- The list of what each entry stands for: none if one stands for nothing. -/
def allOf {α β : Type} (f : α → Option β) : List α → Option (List β)
  | [] => some []
  | x :: xs =>
    match f x, allOf f xs with
    | some y, some ys => some (y :: ys)
    | _, _ => none

/-- The cue that a write carries (R4). -/
def cueOf (w : CueWrite) : Option Cue :=
  match goMaskOf w.mask, allOf actionOf w.actions with
  | some mask, some actions =>
    let n : CueNumber := { major := w.major, minor := w.minor }
    if n.inRange && w.song.all (inRange 1 64) && triggerOk w.trigger && inRange 0 16 w.actions.length &&
        w.tempo.all tempoActionOk && w.vamp.all vampActionOk && w.text.all (textOk 1 12) then
      some { number := n, song := w.song, trigger := w.trigger, mask := mask, actions := actions, tempo := w.tempo,
             vamp := w.vamp, text := w.text }
    else none
  | _, _ => none

/-- The patch that a write carries, with reference count 0 (R6). -/
def patchOf (w : PatchWrite) : Option Patch :=
  match chairOf w.chair with
  | some c =>
    if inRange 1 999 w.number && entriesOk w.base && w.v1.all entriesOk && w.v2.all entriesOk && w.v3.all entriesOk then
      some { chair := c, number := w.number, base := w.base, v1 := w.v1, v2 := w.v2, v3 := w.v3, refs := 0 }
    else none
  | none => none

/-- The chair and the record that a chair write carries; the trim is clamped (R9, R11, R17). -/
def chairRecOf (w : ChairWrite) : Option (Chair × ChairRec) :=
  match chairOf w.chair, yesNoOf w.enabled, onOffOf w.subClicks, yesNoOf w.goRights, orientationOf w.orientation,
      placementOf w.placement, onOffOf w.overlay with
  | some c, some enabled, some subs, some rights, some orientation, some placement, some overlay =>
    if textOk 0 8 w.label then
      some (c, { label := w.label, enabled := enabled, trim := clampInt (-5000) 5000 w.trim, subClicks := subs,
                 goRights := rights, orientation := orientation, placement := placement, overlay := overlay })
    else none
  | _, _, _, _, _, _, _ => none

/-- The settings that a write carries, with the fault source settings given; the failover time is clamped (R10, R11). -/
def settingsOf (w : SettingsWrite) (faults : Vector FaultSetting 70) : Option Settings :=
  match frameRateOf w.rate, offOnOf w.autoRevert, houseSyncOf w.houseSync with
  | some rate, some revert, some sync =>
    if inRange 0 1000 w.goGuard && inRange 0 500 w.deadband && inRange 50 1000 w.maxStep && inRange 0 250 w.band &&
        inRange 640 1920 w.width && inRange 360 1080 w.height && inRange 1 255 w.touch && inRange 1 255 w.deep &&
        inRange 0 254 w.hysteresis then
      some { goGuard := w.goGuard, deadband := w.deadband, maxStep := w.maxStep, band := w.band, width := w.width,
             height := w.height, rate := rate, failover := clampNat 40 1000 w.failover, autoRevert := revert,
             houseSync := sync, touch := w.touch, deep := w.deep, hysteresis := w.hysteresis, faults := faults }
    else none
  | _, _, _ => none

/-- A role and its variant key (R8, R18). -/
def roleOf (role key : Nat) : Option (Fin 32 × Variant) :=
  match variantOf key with
  | some v => if h : 1 ≤ role ∧ role ≤ 32 then some (⟨role - 1, by omega⟩, v) else none
  | none => none

/-- A table and key lie in the table's key ranges (R19, R22, R23; log 26 for a start bar). -/
def keyOk : RecordKey → Bool
  | .song n => inRange 1 64 n
  | .segment song bar => inRange 1 64 song && inRange 0 999 bar
  | .patch chair n => inRange 1 16 chair && inRange 1 999 n
  | .cue major minor => ({ major := major, minor := minor } : CueNumber).inRange
  | .chair n => inRange 1 16 n
  | .role n => inRange 1 32 n
  | .settings => true

/-- A fault source with the class and action that FAULT SET names (R159). -/
def faultSetOf (source window action : Nat) : Option (Source × FaultSetting) :=
  match sourceOf source, windowClassOf window, faultActionOf action with
  | some i, some w, some a => some (i, { window := w, action := a })
  | _, _, _ => none

end Sys2Proof.Machine
end

