-- ==== Sys2Proof/Machine/Records.lean ====
section
/-! DEFINITION. The Book Store's requests: writing, retiring, reading and clearing the book, the cast sheet, and cutting
and restoring songs (R11 to R24), with their effects on the cue run states (R15, R19 to R21). -/

namespace Sys2Proof.Machine

/-- An image operation runs (R178). -/
def LoaderState.runs : LoaderState → Bool
  | .readingHeader | .installing | .erasing | .writing => true
  | .idle | .done | .failed => false

/-- An image operation runs, so that the Book Store's requests are answered BUSY (R178). -/
def State.busy (s : State) : Bool := s.loader.report.state.runs

/-- The book revision count is raised by a request taken from the control port (R11). -/
def revise (s : State) : State := { s with book := s.book.revise }

/-! ## Songs and segments (R12, R13) -/

/-- A bar lies in a song's bars. -/
def Song.has (r : Song) (bar : Nat) : Bool := inRange r.firstBar r.lastBar bar

/-- The cue is a BAR cue of the song, or starts the song, at a bar outside the range given (R12). -/
def Cue.strays (c : Cue) (song first last : Nat) : Bool :=
  (match c.trigger with
   | .bar bar _ _ => decide (c.song = some song) && !inRange first last bar
   | _ => false) ||
  (match c.tempo with
   | some (.start n bar) => decide (n = song) && !inRange first last bar
   | _ => false)

/-- A song write conflicts with the book: the INVALID cases of R12. -/
def Book.songInvalid (b : Book) (w : SongWrite) : Bool :=
  decide (w.lastBar < w.firstBar) ||
    (b.segments.any fun g => decide (g.song = w.number) && !inRange w.firstBar w.lastBar g.startBar) ||
    b.cues.any fun c => c.strays w.number w.firstBar w.lastBar

/-- A song write changes the first bar, the last bar or the key role of the clock's current song (R12). -/
def State.songLocked (s : State) (w : SongWrite) : Bool :=
  s.isCurrentSong w.number &&
    (match s.book.song? w.number with
     | some r => decide (r.firstBar ≠ w.firstBar) || decide (r.lastBar ≠ w.lastBar) || decide (r.keyRole ≠ w.keyRole)
     | none => false)

/-- The song record that a write leaves: a created song is IN with no cues, and an amended one keeps both (R11, R12). -/
def Book.songRecord (b : Book) (w : SongWrite) : Song :=
  { number := w.number, title := w.title, firstBar := w.firstBar, lastBar := w.lastBar, keyRole := w.keyRole,
    running := ((b.song? w.number).map (·.running)).getD .playing,
    cueCount := ((b.song? w.number).map (·.cueCount)).getD 0 }

/-- A song write (R11, R12). -/
def writeSong (w : SongWrite) (s : State) : Except Status State :=
  if !songWriteOk w then .error .outOfRange
  else if s.book.songInvalid w then .error .invalid
  else if s.songLocked w then .error .inUse
  else .ok { s with book := s.book.putSong (s.book.songRecord w) }

/-- A segment write would alter the beats under way (R3): it amends the segment in force, or creates one that starts
after it and at or before the current bar. -/
def State.segmentLocked (s : State) (g : Segment) : Bool :=
  match s.clock.pos, s.segmentInForce with
  | some pos, some f =>
    decide (g.song = pos.song) &&
      (if (s.book.segment? g.song g.startBar).isSome then decide (g.startBar = f.startBar)
       else decide (f.startBar < g.startBar) && decide (g.startBar ≤ pos.bar))
  | _, _ => false

/-- The segments of a song. -/
def Book.segmentsOf (b : Book) (song : Nat) : List Segment := b.segments.filter fun g => decide (g.song = song)

/-- A segment write creates a segment that has no room (R13). -/
def Book.segmentsFull (b : Book) (g : Segment) : Bool :=
  (b.segment? g.song g.startBar).isNone &&
    (decide (32 ≤ (b.segmentsOf g.song).length) || decide (512 ≤ b.segments.length))

/-- A segment write (R11, R13). -/
def writeSegment (w : SegmentWrite) (s : State) : Except Status State :=
  match segmentOf w with
  | none => .error .outOfRange
  | some g =>
    match s.book.song? g.song with
    | none => .error .notFound
    | some r =>
      if !r.has g.startBar then .error .invalid
      else if s.segmentLocked g then .error .inUse
      else if s.book.segmentsFull g then .error .full
      else .ok { s with book := s.book.putSegment g }

/-! ## Patches (R16) -/

/-- The patch record that a write leaves, with its reference count kept (R16). -/
def Book.patchRecord (b : Book) (p : Patch) : Patch :=
  { p with refs := ((b.patch? p.chair p.number).map (·.refs)).getD 0 }

/-- The entries of the patch that the record replaces; 0 for a creation (R7). -/
def Book.oldSize (b : Book) (p : Patch) : Nat := ((b.patch? p.chair p.number).map Patch.size).getD 0

/-- A patch write has no room in the table or the pool (R7, R16). -/
def Book.patchesFull (b : Book) (p : Patch) : Bool :=
  ((b.patch? p.chair p.number).isNone && decide (2048 ≤ b.patches.length)) ||
    (decide (b.oldSize p < p.size) && decide (poolCapacity < b.poolUse + p.size - b.oldSize p))

/-- A patch write (R11, R16). -/
def writePatch (w : PatchWrite) (s : State) : Except Status State :=
  match patchOf w with
  | none => .error .outOfRange
  | some p =>
    if s.book.patchesFull p then .error .full
    else .ok { s with book := s.book.putPatch (s.book.patchRecord p) }

/-! ## Cues (R14, R15) -/

/-- A cue names a song or a patch that is not in the book: the NOT_FOUND cases of R14. -/
def Book.cueMissing (b : Book) (c : Cue) : Bool :=
  (c.song.any fun n => (b.song? n).isNone) ||
    (match c.tempo with
     | some (.start n _) => (b.song? n).isNone
     | _ => false) ||
    c.actions.any fun a => a.patch.any fun n => (b.patch? a.chair n).isNone

/-- Two station actions of the list name the same chair (R14). -/
def sameChair : List StationAction → Bool
  | [] => false
  | a :: rest => (rest.any fun x => decide (x.chair = a.chair)) || sameChair rest

/-- The bar lies outside the song's bars. -/
def Book.barOutside (b : Book) (song bar : Nat) : Bool :=
  match b.song? song with
  | some r => !r.has bar
  | none => false

/-- The fields of a cue do not make a valid record: the INVALID cases of R14. -/
def Book.cueInvalid (b : Book) (c : Cue) : Bool :=
  sameChair c.actions ||
    (match c.trigger, c.song with
     | .bar _ _ _, none => true
     | .bar bar _ _, some n => b.barOutside n bar
     | .go, _ => !(c.mask.pad || c.mask.control || c.mask.chair)
     | .follow _, _ => false) ||
    (match c.tempo with
     | some (.start n bar) => b.barOutside n bar
     | _ => false) ||
    (match c.vamp with
     | some (.vamp first last) => decide (last < first)
     | _ => false)

/-- A cue write conflicts with the run state of the cue it amends (R15). -/
def State.cueLocked (s : State) (c : Cue) : Bool :=
  s.cue.isOpen && (s.book.cue? c.number).isSome &&
    (match s.runState c.number with
     | .firing => true
     | .standby => !c.isGo || s.book.cueCut c
     | .pending | .complete | .passed => false)

/-- The effect of an amendment on the amended cue's run state and timer: a PENDING cue of a CUT song becomes PASSED, and a
cue in any run state loses its timer when its trigger is no longer FOLLOW (R15, R44). -/
def amendRun (c : Cue) (s : State) : State :=
  if s.cue.isOpen then
    if s.runState c.number = .pending ∧ s.book.cueCut c then passCue c.number s
    else if c.isFollow then s
    else cancelTimer c.number s
  else s

/-- The first run state of a cue created while the show is open (R15). -/
def State.firstRun (s : State) (c : Cue) : RunState :=
  if s.book.cueCut c then .passed
  else
    match s.cue.lastFired with
    | some n => if c.number.before n then .passed else .pending
    | none => .pending

/-- The run state of a cue created while the show is open: a PENDING GO cue becomes STANDBY where none stands (R15). -/
def createRun (c : Cue) (s : State) : State :=
  if s.cue.isOpen then
    let st := s.firstRun c
    let entry : RunEntry := { cue := c.number, state := st, mark := none, failed := 0 }
    let s := { s with cue := { s.cue with runs := s.cue.runs ++ [entry] } }
    if st = .pending ∧ c.isGo = true ∧ s.cue.standby = none then placeStandby (some c.number) s else s
  else s

/-- A cue write (R11, R14, R15). -/
def writeCue (w : CueWrite) (s : State) : Except Status State :=
  match cueOf w with
  | none => .error .outOfRange
  | some c =>
    let created := (s.book.cue? c.number).isNone
    if s.book.cueMissing c then .error .notFound
    else if s.book.cueInvalid c then .error .invalid
    else if s.cueLocked c then .error .inUse
    else if created && decide (1024 ≤ s.book.cues.length) then .error .full
    else
      let s := { s with book := s.book.putCue c }
      .ok (if created then createRun c s else amendRun c s)

/-! ## Chairs, roles and settings (R17, R18, R10) -/

/-- A chair write disables a chair whose slot holds an AD_HOC request (R17). -/
def State.chairLocked (s : State) (c : Chair) (r : ChairRec) : Bool :=
  (s.chairRec c).enabled && !r.enabled && s.patch[c].holdsAdHoc

/-- The book with a chair record put in (R17). -/
def Book.putChair (b : Book) (c : Chair) (r : ChairRec) : Book := { b with chairs := b.chairs.set c.val r c.isLt }

/-- A chair write (R17), with the trim taken as R88 states. -/
def writeChair (w : ChairWrite) (s : State) : Except Status State :=
  match chairRecOf w with
  | none => .error .outOfRange
  | some (c, r) =>
    if s.chairLocked c r then .error .inUse
    else .ok (takeTrims { s with book := s.book.putChair c r })

/-- The role is the key role of the clock's current song, with the show open (R18). -/
def State.roleLocked (s : State) (role : Nat) : Bool :=
  s.cue.isOpen &&
    (match s.currentSong.bind s.book.song? with
     | some r => decide (r.keyRole = some role)
     | none => false)

/-- The book with a role's variant key put in (R18). -/
def Book.putRole (b : Book) (i : Fin 32) (v : Variant) : Book := { b with roles := b.roles.set i.val v i.isLt }

/-- A role write or CAST SET (R18). -/
def writeRole (role key : Nat) (s : State) : Except Status State :=
  match roleOf role key with
  | none => .error .outOfRange
  | some (i, v) =>
    if s.roleLocked role then .error .inUse
    else .ok { s with book := s.book.putRole i v }

/-- A settings write, whose fault source settings stay (R10), with the video fields applied (R137, R142). -/
def writeSettings (w : SettingsWrite) (s : State) : Except Status State :=
  match settingsOf w s.book.settings.faults with
  | none => .error .outOfRange
  | some set => .ok (videoSettings s.book.settings { s with book := { s.book with settings := set } })

/-- A write of any table, less its BUSY check and the revision count (R11, R24). -/
def writeRecord (w : RecordWrite) (s : State) : Except Status State :=
  match w with
  | .song w => writeSong w s
  | .segment w => writeSegment w s
  | .patch w => writePatch w s
  | .cue w => writeCue w s
  | .chair w => writeChair w s
  | .role role key => writeRole role key s
  | .settings w => writeSettings w s

/-- A change to the book that the port asks for: BUSY first, then the checks, and a change taken raises the revision
count and is answered OK (R11). -/
def bookChange (change : State → Except Status State) (s : State) : Decision :=
  if s.busy then refuse .busy s
  else
    match change s with
    | .error st => refuse st s
    | .ok s' => (revise s', plain .ok)

/-! ## Retiring (R19) -/

/-- A retired cue leaves the run states; its timer is cancelled and it is held no more (R19, R48). -/
def dropRun (n : CueNumber) (s : State) : State :=
  let s := cancelTimer n s
  let s := { s with cue := { s.cue with runs := s.cue.runs.filter fun r => !decide (r.cue = n) } }
  if s.cue.held = some n then setHeld none s else s

/-- A segment may not be retired: it is the segment in force, or the current song's segment at its first bar (R3, R19). -/
def State.segmentHeld (s : State) (g : Segment) : Bool :=
  s.isCurrentSong g.song &&
    (decide (s.segmentInForce.map (·.startBar) = some g.startBar) ||
      (match s.book.song? g.song with
       | some r => decide (r.firstBar = g.startBar)
       | none => false))

/-- A song's retirement (R19). -/
def retireSong (n : Nat) (s : State) : Except Status State :=
  match s.book.song? n with
  | none => .error .notFound
  | some r =>
    if s.isCurrentSong n then .error .inUse
    else if r.cueCount ≠ 0 then .error .referenced
    else .ok { s with book := s.book.dropSong n }

/-- A segment's retirement (R19). -/
def retireSegment (song bar : Nat) (s : State) : Except Status State :=
  match s.book.segment? song bar with
  | none => .error .notFound
  | some g =>
    if s.segmentHeld g then .error .inUse
    else .ok { s with book := s.book.dropSegment song bar }

/-- A patch's retirement (R19, R104). -/
def retirePatch (chair : Chair) (n : Nat) (s : State) : Except Status State :=
  match s.book.patch? chair n with
  | none => .error .notFound
  | some p =>
    if p.refs ≠ 0 then .error .referenced
    else .ok (forgetPatch chair n { s with book := s.book.dropPatch chair n })

/-- A cue's retirement (R5, R19). -/
def retireCue (n : CueNumber) (s : State) : Except Status State :=
  match s.book.cue? n with
  | none => .error .notFound
  | some _ =>
    if s.cue.isOpen && (decide (s.runState n = .firing) || decide (s.runState n = .standby)) then .error .inUse
    else .ok (dropRun n { s with book := s.book.dropCue n })

/-- A retirement from a table whose records can be retired (R19). -/
def retireFrom (k : RecordKey) (s : State) : Except Status State :=
  if !keyOk k then .error .outOfRange
  else
    match k with
    | .song n => retireSong n s
    | .segment song bar => retireSegment song bar s
    | .patch chair n =>
      match chairOf chair with
      | some c => retirePatch c n s
      | none => .error .outOfRange
    | .cue major minor => retireCue { major := major, minor := minor } s
    | .chair _ | .role _ | .settings => .error .invalid

/-- RECORD RETIRE (R19): a role, chair or settings record is refused with INVALID before any other check (log 10). -/
def decideRetire (k : RecordKey) (s : State) : Decision :=
  match k with
  | .chair _ | .role _ | .settings => refuse .invalid s
  | .song _ | .segment _ _ | .patch _ _ | .cue _ _ => bookChange (retireFrom k) s

/-! ## Cutting and restoring songs (R20, R21) -/

/-- The cues of a song, as the cut and the restore read them. -/
def Book.cuesOf (b : Book) (song : Nat) : List Cue := b.cues.filter fun c => decide (c.song = some song)

/-- A cut changes the run states of one of the song's cues (R20). -/
def cutCue (s : State) (c : Cue) : State :=
  match s.runState c.number with
  | .pending | .standby => passCue c.number s
  | .firing => mapRun c.number (fun r => { r with mark := r.mark.map fun _ => .passed }) s
  | .complete | .passed => s

/-- A cut with the show open (R20). -/
def cutRuns (song : Nat) (s : State) : State :=
  let old := s.cue.standby
  let s := (s.book.cuesOf song).foldl cutCue s
  match old with
  | some n => if s.runState n = .passed then placeStandby (s.firstGoAfter (some n)) s else s
  | none => s

/-- A cue number is after the last fired cue, or there is none (R21). -/
def State.ahead (s : State) (n : CueNumber) : Bool :=
  match s.cue.lastFired with
  | some m => m.before n
  | none => true

/-- A restore changes the run state of one of the song's cues (R21). -/
def restoreCue (s : State) (c : Cue) : State :=
  match s.runState c.number with
  | .passed => if s.ahead c.number then setRun c.number .pending s else s
  | .firing =>
    let mark : ReturnMark := if s.ahead c.number then .pending else .complete
    mapRun c.number (fun r => if r.mark = some .passed then { r with mark := some mark } else r) s
  | .pending | .standby | .complete => s

/-- A restore with the show open (R21). -/
def restoreRuns (song : Nat) (s : State) : State :=
  let s := (s.book.cuesOf song).foldl restoreCue s
  if s.cue.standby = none then placeStandby (s.firstGoAfter s.cue.lastFired) s else s

/-- SONG CUT and SONG RESTORE set a song's running flag (R20, R21); `runs` is the effect on the run states. -/
def decideRunning (n : Nat) (f : Running) (runs : Nat → State → State) (s : State) : Decision :=
  if s.busy then refuse .busy s
  else if !inRange 1 64 n then refuse .outOfRange s
  else
    match s.book.song? n with
    | none => refuse .notFound s
    | some r =>
      if s.isCurrentSong n then refuse .inUse s
      else if r.running = f then (s, plain .ok)
      else
        let s := revise { s with book := s.book.setRunning n f }
        (if s.cue.isOpen then runs n s else s, plain .ok)

/-! ## Reading (R22, R23) -/

/-- The records of a table with their keys, in the table's order (R23). -/
def State.tableRecords (s : State) : Table → List ((Nat × Nat) × RecordData)
  | .songs => s.book.songs.map fun r => ((r.number, 0), .song r)
  | .segments => s.book.segments.map fun r => ((r.song, r.startBar), .segment r)
  | .patches => s.book.patches.map fun r => ((chairNumber r.chair, r.number), .patch r)
  | .cues => s.book.cues.map fun r => ((r.number.major, r.number.minor), .cue r (s.runState r.number))
  | .chairs => allChairs.map fun c => ((chairNumber c, 0), .chair (chairNumber c) (s.chairRec c))
  | .roles => (List.range 32).map fun i => ((i + 1, 0), .role (i + 1) (s.book.roleKey (i + 1)))
  | .settings => [((0, 0), .settings s.book.settings)]

/-- The table that a key names. -/
def keyTable : RecordKey → Table
  | .song _ => .songs
  | .segment _ _ => .segments
  | .patch _ _ => .patches
  | .cue _ _ => .cues
  | .chair _ => .chairs
  | .role _ => .roles
  | .settings => .settings

/-- A key as a pair, the second part 0 where the key has one part. -/
def keyPair : RecordKey → Nat × Nat
  | .song n => (n, 0)
  | .segment song bar => (song, bar)
  | .patch chair n => (chair, n)
  | .cue major minor => (major, minor)
  | .chair n => (n, 0)
  | .role n => (n, 0)
  | .settings => (0, 0)

/-- The record under a key, if any. -/
def State.record? (s : State) (k : RecordKey) : Option RecordData :=
  ((s.tableRecords (keyTable k)).find? fun r => decide (r.1 = keyPair k)).map (·.2)

/-- RECORD READ (R22). -/
def decideRead (k : RecordKey) (s : State) : Decision :=
  if s.busy then refuse .busy s
  else if !keyOk k then refuse .outOfRange s
  else
    match s.record? k with
    | some r => (s, { status := .ok, data := .record r })
    | none => refuse .notFound s

/-- Key pair `a` is at or before key pair `b`. -/
def atOrBefore (a b : Nat × Nat) : Bool :=
  decide (a.1 < b.1) || (decide (a.1 = b.1) && decide (a.2 ≤ b.2))

/-- CURSOR SET (R23). -/
def decideCursorSet (k : RecordKey) (s : State) : Decision :=
  if s.busy then refuse .busy s
  else if !keyOk k then refuse .outOfRange s
  else ({ s with book := { s.book with cursorTable := (keyTable k), cursorPos := keyPair k } }, plain .ok)

/-- CURSOR READ (R23): the position moves just past the record read. -/
def decideCursorRead (s : State) : Decision :=
  if s.busy then refuse .busy s
  else
    match (s.tableRecords s.book.cursorTable).find? fun r => atOrBefore s.book.cursorPos r.1 with
    | some r =>
      ({ s with book := { s.book with cursorPos := (r.1.1, r.1.2 + 1) } }, { status := .ok, data := .record r.2 })
    | none => refuse .finished s

/-- What BOOK INFO answers (R22). -/
def Book.summary (b : Book) : BookSummary :=
  { songs := b.songs.length, segments := b.segments.length, cues := b.cues.length, patches := b.patches.length,
    poolUse := b.poolUse, poolFree := poolCapacity - b.poolUse, revision := b.revision,
    cutSongs := (b.songs.filter fun r => decide (r.running = .cut)).length }

/-- BOOK INFO (R22). -/
def decideInfo (s : State) : Decision :=
  if s.busy then refuse .busy s else (s, { status := .ok, data := .summary s.book.summary })

/-! ## Clearing (R24) -/

/-- The book is emptied as BOOK CLEAR empties it (R24): the fault source settings are applied as R159 states, the
expected video format as R137, the trims as R88, and the Patch Dispatcher as R104. -/
def clearBook (s : State) : State :=
  let s := applyFaults defaultSettings.faults s
  let old := s.book.settings
  let s := videoSettings old { s with book := Book.empty }
  forgetPatches (takeTrims s)

/-- The last fired cue and the completion record become none, as at BOOK CLEAR and a failed load (R26, R146). -/
def forgetFired (s : State) : State :=
  { s with
    cue := { s.cue with lastFired := none, completion := none }
    overlay := { s.overlay with lastCue := none } }

/-- BOOK CLEAR (R24, R26). -/
def decideClear (s : State) : Decision :=
  if s.cue.isOpen then refuse .showOpen s
  else if s.busy then refuse .busy s
  else (forgetFired (clearBook s), plain .ok)

end Sys2Proof.Machine
end

