-- ==== Sys2Proof/Machine/Images.lean ====
section
/-! DEFINITION. The records of the book as writes and as bytes, and the book image in flash (R177, R185). -/

namespace Sys2Proof.Machine

/-! ## Enumeration numbers (R185; log 8) -/

/-- A beat unit's number. -/
def BeatUnit.code : BeatUnit → Nat
  | .eighth => 0
  | .quarter => 1
  | .dottedQuarter => 2
  | .half => 3

/-- Yes or no as a number; on or off has the same numbers. -/
def yesNoCode (b : Bool) : Nat := if b then 0 else 1

/-- Off or on as a number. -/
def offOnCode (b : Bool) : Nat := if b then 1 else 0

/-- A click action's number. -/
def ClickAction.code : ClickAction → Nat
  | .on => 0
  | .off => 1
  | .unchanged => 2

/-- A variant key's number. -/
def Variant.code : Variant → Nat
  | .base => 0
  | .v1 => 1
  | .v2 => 2
  | .v3 => 3

/-- An orientation's number. -/
def Orientation.code : Orientation → Nat
  | .deg0 => 0
  | .deg90 => 1
  | .deg180 => 2
  | .deg270 => 3

/-- A placement's number. -/
def Placement.code : Placement → Nat
  | .top => 0
  | .bottom => 1

/-- A video rate's number. -/
def FrameRate.code : FrameRate → Nat
  | .f25 => 0
  | .f2997 => 1
  | .f30 => 2
  | .f50 => 3
  | .f5994 => 4
  | .f60 => 5

/-- A house sync setting's number. -/
def HouseSync.code : HouseSync → Nat
  | .use => 0
  | .ignore => 1

/-- A window class's number. -/
def WindowClass.code : WindowClass → Nat
  | .w10 => 0
  | .w25 => 1
  | .w100 => 2
  | .w200 => 3

/-- A fault action's number. -/
def FaultAction.code : FaultAction → Nat
  | .ignore => 0
  | .report => 1
  | .stop => 2

/-- A running flag's number. -/
def Running.code : Running → Nat
  | .playing => 0
  | .cut => 1

/-- A GO source mask's byte. -/
def GoMask.code (m : GoMask) : Nat := (if m.pad then 1 else 0) + (if m.control then 2 else 0) + if m.chair then 4 else 0

/-! ## Records as writes -/

/-- The write that carries a song's fields. -/
def Song.toWrite (r : Song) : SongWrite :=
  { number := r.number, title := r.title, firstBar := r.firstBar, lastBar := r.lastBar, keyRole := r.keyRole }

/-- The write that carries a segment's fields. -/
def Segment.toWrite (r : Segment) : SegmentWrite :=
  { song := r.song, startBar := r.startBar, beatsPerBar := r.beatsPerBar, beatUnit := r.beatUnit.code,
    startTempo := r.startTempo, endTempo := r.endTempo, ramp := r.ramp, subdivision := r.subdivision,
    follow := yesNoCode r.follow }

/-- The write that carries a station action. -/
def StationAction.toWrite (a : StationAction) : ActionWrite :=
  { chair := chairNumber a.chair, patch := a.patch, click := a.click.code }

/-- The write that carries a cue's fields. -/
def Cue.toWrite (r : Cue) : CueWrite :=
  { major := r.number.major, minor := r.number.minor, song := r.song, trigger := r.trigger, mask := r.mask.code,
    actions := r.actions.map StationAction.toWrite, tempo := r.tempo, vamp := r.vamp, text := r.text }

/-- The write that carries a patch's fields. -/
def Patch.toWrite (r : Patch) : PatchWrite :=
  { chair := chairNumber r.chair, number := r.number, base := r.base, v1 := r.v1, v2 := r.v2, v3 := r.v3 }

/-- The write that carries a chair record's fields. -/
def ChairRec.toWrite (n : Nat) (r : ChairRec) : ChairWrite :=
  { chair := n, label := r.label, enabled := yesNoCode r.enabled, trim := r.trim,
    subClicks := yesNoCode r.subClicks, goRights := yesNoCode r.goRights, orientation := r.orientation.code,
    placement := r.placement.code, overlay := yesNoCode r.overlay }

/-- The write that carries the settings' fields. -/
def Settings.toWrite (r : Settings) : SettingsWrite :=
  { goGuard := r.goGuard, deadband := r.deadband, maxStep := r.maxStep, band := r.band, width := r.width,
    height := r.height, rate := r.rate.code, failover := r.failover, autoRevert := offOnCode r.autoRevert,
    houseSync := r.houseSync.code, touch := r.touch, deep := r.deep, hysteresis := r.hysteresis }

/-- A fault source setting as its class byte and action byte (R177). -/
def FaultSetting.bytes (f : FaultSetting) : List Byte := bigEndian 1 f.window.code ++ bigEndian 1 f.action.code

/-- The fault source settings of all 70 sources, in source order (R177). -/
def Settings.faultBytes (r : Settings) : List Byte := r.faults.toList.flatMap FaultSetting.bytes

/-! ## The image (R177) -/

/-- A body record: a table code, a record length and the record's bytes. -/
def bodyRecord (code : Nat) (payload : List Byte) : List Byte :=
  bigEndian 1 code ++ bigEndian 2 payload.length ++ payload

/-- The book's body records, table by table and each table in its key order (R182). -/
def Book.bodyRecords (b : Book) : List (List Byte) :=
  b.songs.map (fun r => bodyRecord 1 (putSongWrite r.toWrite ++ bigEndian 1 r.running.code)) ++
    b.segments.map (fun r => bodyRecord 2 (putSegmentWrite r.toWrite)) ++
    b.patches.map (fun r => bodyRecord 3 (putPatchWrite r.toWrite)) ++
    b.cues.map (fun r => bodyRecord 4 (putCueWrite r.toWrite)) ++
    allChairs.map (fun c => bodyRecord 5 (putChairWrite ((b.chairs[c]).toWrite (chairNumber c)))) ++
    (List.range 32).map (fun i => bodyRecord 6 (putRoleWrite (i + 1) (b.roleKey (i + 1)).code)) ++
    [bodyRecord 7 (putSettingsWrite b.settings.toWrite ++ b.settings.faultBytes)]

/-- The records of a book: those of its four tables and 49 fixed records (R182). -/
def Book.recordCount (b : Book) : Nat :=
  b.songs.length + b.segments.length + b.patches.length + b.cues.length + 49

/-- The identifier of an image header (R177). -/
def imageIdentifier : List Byte := [0x46#8, 0x57#8, 0x42#8, 0x4B#8]

/-- The header of the book's image, whose body has the length and CRC given (R177). -/
def Book.headerBytes (b : Book) (length : Nat) (crc : BitVec 32) : List Byte :=
  imageIdentifier ++ bigEndian 2 1 ++ bigEndian 2 b.songs.length ++ bigEndian 2 b.segments.length ++
    bigEndian 2 b.cues.length ++ bigEndian 2 b.patches.length ++ bigEndian 2 b.poolUse ++ bigEndian 2 1 ++
    bigEndian 2 16 ++ bigEndian 2 32 ++ bigEndian 4 length ++ bigEndian 4 crc.toNat

/-- The number in `n` bytes of a header at an offset. -/
def headerField (bytes : List Byte) (offset n : Nat) : Nat := fromBigEndian ((bytes.drop offset).take n)

/-- The fields of header bytes; none for a BAD_HEADER (R177, R179). -/
def parseHeader (bytes : List Byte) : Option ImageHeader :=
  if bytes.length = 30 ∧ bytes.take 4 = imageIdentifier ∧ headerField bytes 4 2 = 1 ∧ headerField bytes 16 2 = 1 ∧
      headerField bytes 18 2 = 16 ∧ headerField bytes 20 2 = 32 then
    some { songs := headerField bytes 6 2, segments := headerField bytes 8 2, cues := headerField bytes 10 2,
           patches := headerField bytes 12 2, entries := headerField bytes 14 2, settings := 1, chairs := 16,
           roles := 32, bodyLength := headerField bytes 22 4, bodyCrc := BitVec.ofNat 32 (headerField bytes 26 4) }
  else none

/-- A header's counts or its body length are TOO_LARGE (R179). -/
def ImageHeader.tooLarge (h : ImageHeader) : Bool :=
  decide (64 < h.songs) || decide (512 < h.segments) || decide (1024 < h.cues) || decide (2048 < h.patches) ||
    decide (poolCapacity < h.entries) || decide (1048546 < h.bodyLength)

/-- The header's count of a table's records. -/
def ImageHeader.count (h : ImageHeader) : Table → Nat
  | .songs => h.songs
  | .segments => h.segments
  | .patches => h.patches
  | .cues => h.cues
  | .chairs => h.chairs
  | .roles => h.roles
  | .settings => h.settings

/-- The records of a load: the sum of the seven record counts (R179). -/
def ImageHeader.total (h : ImageHeader) : Nat :=
  h.songs + h.segments + h.cues + h.patches + h.settings + h.chairs + h.roles

end Sys2Proof.Machine
end

