-- ==== Sys2Proof/Machine/Loader.lean ====
section
/-! DEFINITION. The Image Loader: loads, saves, their ends, and the boot load (R178 to R183). What the flash returns comes
with the commands (log 20). -/

namespace Sys2Proof.Machine

/-- The loader's report changed by `f`. -/
def onReport (f : LoaderReport → LoaderReport) (s : State) : State :=
  { s with loader := { s.loader with report := f s.loader.report } }

/-- An image operation ends: IMAGE_DONE is flagged (R178). -/
def endOperation (st : LoaderState) (r : LoaderResult) (s : State) : State :=
  flag .imageDone { s with loader :=
    { Loader.initial with report := { s.loader.report with state := st, result := some r } } }

/-! ## Starting (R179, R182) -/

/-- The records that the operation under way has handled; 0 where it has no progress yet (R178). -/
def LoaderReport.done (r : LoaderReport) : Nat := (r.progress.map (·.done)).getD 0

/-- The operation under way has handled every record: its progress has reached its total (R178). -/
def LoaderReport.handledAll (r : LoaderReport) : Bool := r.progress.any fun p => decide (p.done = p.total)

/-- One more record has been handled (R178). -/
def LoaderReport.handleOne (r : LoaderReport) : LoaderReport :=
  { r with progress := r.progress.map fun p => { p with done := p.done + 1 } }

/-- A load starts (R179), with progress 0 of 0 as section 11.4's worked example shows. -/
def startLoad (op : LoaderOp) (slot : Nat) (s : State) : State :=
  { s with loader := { Loader.initial with report :=
    { state := .readingHeader, op := some op, slot := some slot, progress := some { done := 0, total := 0 },
      result := none, failed := none } } }

/-- The checks of BOOK LOAD and BOOK SAVE, in order (R179, R182). -/
def operationCheck (slot : Nat) (s : State) : Option Status :=
  if 3 < slot then some .outOfRange
  else if s.cue.isOpen then some .showOpen
  else if s.busy then some .busy
  else none

/-- BOOK LOAD (R179). -/
def decideLoad (slot : Nat) (s : State) : Decision :=
  match operationCheck slot s with
  | some st => refuse st s
  | none => (startLoad .load slot s, plain .accepted)

/-- A save starts; the flash has 30 s to erase the slot (R182). -/
def startSave (slot : Nat) (s : State) : State :=
  { s with loader := { Loader.initial with
    report := { state := .erasing, op := some .save, slot := some slot,
                progress := some { done := 0, total := s.book.recordCount }, result := none, failed := none }
    eraseBy := some (s.time.micros + 30000000) } }

/-- BOOK SAVE (R182). -/
def decideSave (slot : Nat) (s : State) : Decision :=
  match operationCheck slot s with
  | some st => refuse st s
  | none => (startSave slot s, plain .accepted)

/-! ## Loading (R179 to R181) -/

/-- A load fails: the book is left as at power-on (R181, R26). -/
def failLoad (r : LoaderResult) (s : State) : State := endOperation .failed r (forgetFired (clearBook s))

/-- The header has been read and is checked (R179); one that passes starts the installation, which begins by clearing
the book (R180). -/
def headerRead (bytes : List Byte) (s : State) : State :=
  if s.loader.report.state = .readingHeader then
    match parseHeader bytes with
    | none => failLoad .badHeader s
    | some h =>
      if h.tooLarge then failLoad .tooLarge s
      else
        let s := clearBook s
        { s with loader :=
          { s.loader with
            report := { s.loader.report with state := .installing, progress := some { done := 0, total := h.total } }
            header := some h, bodyPos := 0, crc := crc32Start, met := Vector.replicate 7 0, lastTable := 0 } }
  else s

/-- The records met of a table. -/
def Loader.metOf (l : Loader) (t : Table) : Nat := l.met.toList.getD (tableCode t - 1) 0

/-- A record met of a table is counted. -/
def Loader.meet (l : Loader) (t : Table) : Loader :=
  { l with
    met := tabulateFin fun i : Fin 7 => if i.val + 1 = tableCode t then l.met[i] + 1 else l.met[i]
    lastTable := tableCode t }

/-- The key with which a record's bytes begin is already in the book (R180). -/
def Book.keyTaken (b : Book) (t : Table) (payload : List Byte) : Bool :=
  match t with
  | .songs =>
    match readNum 1 payload with
    | .ok (n, _) => (b.song? n).isSome
    | .error _ => false
  | .segments =>
    match payload with
    | song :: hi :: lo :: _ => (b.segment? song.toNat (fromBigEndian [hi, lo])).isSome
    | _ => false
  | .patches =>
    match payload with
    | chair :: hi :: lo :: _ =>
      match chairOf chair.toNat with
      | some c => (b.patch? c (fromBigEndian [hi, lo])).isSome
      | none => false
    | _ => false
  | .cues =>
    match readCueNumber payload with
    | .ok (n, _) => (b.cue? { major := n.1, minor := n.2 }).isSome
    | .error _ => false
  | .chairs | .roles | .settings => false

/-- A record breaks the body's structure (R180): its table, known to be one of 1 to 7, stands before one already met, its
count is reached, it runs past the body, or its key was installed before. -/
def State.breaksBody (s : State) (h : ImageHeader) (t : Table) (length : Nat) (payload : List Byte) : Bool :=
  decide (tableCode t < s.loader.lastTable) || decide (h.count t ≤ s.loader.metOf t) ||
    decide (h.bodyLength < s.loader.bodyPos + 3 + length) || s.book.keyTaken t payload

/-- A song record of a body: the write, and the running flag's byte (R177). -/
def readBodySong (b : List Byte) : Except Status ((SongWrite × Nat) × List Byte) := do
  let (w, b) ← readSong b
  let (f, b) ← readNum 1 b
  .ok ((w, f), b)

/-- The class and action bytes of one source (R177). -/
def readFault (b : List Byte) : Except Status ((Nat × Nat) × List Byte) := do
  let (w, b) ← readNum 1 b
  let (a, b) ← readNum 1 b
  .ok ((w, a), b)

/-- A settings record of a body: the write, and the fault source settings of all 70 sources (R177). -/
def readBodySettings (b : List Byte) : Except Status ((SettingsWrite × List (Nat × Nat)) × List Byte) := do
  let (w, b) ← readSettings b
  let (l, b) ← readTimes readFault 70 b
  .ok ((w, l), b)

/-- A fault source setting from its class and action numbers. -/
def faultSettingOf (p : Nat × Nat) : Option FaultSetting :=
  match windowClassOf p.1, faultActionOf p.2 with
  | some w, some a => some { window := w, action := a }
  | _, _ => none

/-- The vector of 70 fault source settings that a list gives. -/
def faultVector (l : List FaultSetting) : Vector FaultSetting 70 :=
  tabulateFin fun i : Source => l.getD i.val { window := .w25, action := .report }

/-- A song record is installed with its running flag as the image gives it (R180). -/
def installSong (payload : List Byte) (s : State) : Except Status State :=
  match whole (readBodySong payload) with
  | .error st => .error st
  | .ok (w, f) =>
    if 1 < f then .error .outOfRange
    else
      match writeSong w s with
      | .error st => .error st
      | .ok s =>
        .ok (if f = 1 then { s with book := s.book.setRunning w.number .cut } else s)

/-- The settings record is installed, and its fault source settings applied (R159, R177, R180). -/
def installSettings (payload : List Byte) (s : State) : Except Status State :=
  match whole (readBodySettings payload) with
  | .error st => .error st
  | .ok (w, l) =>
    match allOf faultSettingOf l with
    | none => .error .outOfRange
    | some faults =>
      match writeSettings w s with
      | .error st => .error st
      | .ok s => .ok (applyFaults (faultVector faults) s)

/-- A record is installed through the checks of R11 to R19 (R180). -/
def installRecord (t : Table) (payload : List Byte) (s : State) : Except Status State :=
  match t with
  | .songs => installSong payload s
  | .settings => installSettings payload s
  | .segments | .patches | .cues | .chairs | .roles =>
    match whole (readFields t payload) with
    | .error st => .error st
    | .ok w => writeRecord w s

/-- A body record has been read (R180). Nothing is due once the body's bytes have all been read, or for a payload that is
not of the length read (log 20). -/
def recordInstall (code : Byte) (length : BitVec 16) (payload : List Byte) (s : State) : State :=
  match s.loader.report.state, s.loader.header with
  | .installing, some h =>
    if s.loader.bodyPos < h.bodyLength ∧ payload.length = length.toNat then
      match tableOf code.toNat with
      | none => failLoad .countMismatch s
      | some t =>
        if s.breaksBody h t length.toNat payload then failLoad .countMismatch s
        else
          let position := s.loader.metOf t + 1
          match installRecord t payload s with
          | .error st =>
            let s := failLoad .brokenReference s
            onReport (fun r => { r with failed := some { table := t, position := position, status := st } }) s
          | .ok s =>
            let bytes := code :: (bigEndian 2 length.toNat ++ payload)
            let l := s.loader.meet t
            { s with loader :=
              { l with
                report := l.report.handleOne
                bodyPos := l.bodyPos + bytes.length
                crc := crc32Step l.crc bytes } }
    else s
  | _, _ => s

/-- Every table has met its header's count of records (R180). -/
def Loader.countsMet (l : Loader) (h : ImageHeader) : Bool :=
  [Table.songs, .segments, .patches, .cues, .chairs, .roles, .settings].all fun t =>
    decide (h.count t ≤ l.metOf t)

/-- The body's bytes have all been read: the last two checks, and the load's end (R180, R181). -/
def bodyEnd (s : State) : State :=
  match s.loader.report.state, s.loader.header with
  | .installing, some h =>
    if h.bodyLength ≤ s.loader.bodyPos then
      if !s.loader.countsMet h then failLoad .countMismatch s
      else if crc32Result s.loader.crc ≠ h.bodyCrc then failLoad .checksum s
      else endOperation .done .done s
    else s
  | _, _ => s

/-! ## Saving (R182) -/

/-- A save ends with FLASH_ERROR (R182). -/
def failSave (s : State) : State := endOperation .failed .flashError s

/-- The bytes of a slot: 1 MiB (R177). -/
def slotBytes : Nat := 1048576

/-- A whole slot has been read back, and every byte of it reads FFh (R182). -/
def slotBlank (readBack : List Byte) : Bool :=
  decide (readBack.length = slotBytes) && readBack.all fun b => decide (b = 0xFF#8)

/-- The slot's erase has finished and been read back (R182). -/
def eraseDone (readBack : List Byte) (s : State) : State :=
  if s.loader.report.state = .erasing then
    if slotBlank readBack then
      { s with loader :=
        { s.loader with
          report := { s.loader.report with state := .writing }
          bodyPos := 0, crc := crc32Start, eraseBy := none, programBy := some (s.time.micros + 10000) } }
    else failSave s
  else s

/-- The erase has not finished within 30 s (R182). -/
def eraseTimeout (s : State) : State :=
  if s.loader.report.state = .erasing ∧ s.elapsed? s.loader.eraseBy then failSave s else s

/-- A record has been programmed and read back (R182). -/
def recordWritten (readBack : List Byte) (s : State) : State :=
  if s.loader.report.state = .writing then
    match s.book.bodyRecords[s.loader.report.done]? with
    | some bytes =>
      if readBack = bytes then
        { s with loader :=
          { s.loader with
            report := s.loader.report.handleOne
            bodyPos := s.loader.bodyPos + bytes.length
            crc := crc32Step s.loader.crc bytes
            programBy := some (s.time.micros + 10000) } }
      else failSave s
    | none => s
  else s

/-- A program has not finished within 10 ms (R182). -/
def programTimeout (s : State) : State :=
  if s.loader.report.state = .writing ∧ s.elapsed? s.loader.programBy then failSave s else s

/-- The header, which is written last, has been programmed and read back (R182). -/
def headerWritten (readBack : List Byte) (s : State) : State :=
  if s.loader.report.state = .writing ∧ s.loader.report.handledAll then
    if readBack = s.book.headerBytes s.loader.bodyPos (crc32Result s.loader.crc) then endOperation .done .done s
    else failSave s
  else s

/-! ## Resets during an operation (R183) -/

/-- The operation that runs is a load or boot load (R183). -/
def State.loading (s : State) : Bool :=
  decide (s.loader.report.state = .readingHeader) || decide (s.loader.report.state = .installing)

end Sys2Proof.Machine
end

