-- ==== Sys2Proof/Machine/Answers.lean ====
section
/-! DEFINITION. Answers as the bytes of an answer read (section 12.1, R185). The manual fixes the frame and the encoding of
each kind of field; the order of an answer's fields is the order in which its rule lists them (log 9, DESIGN CHOICE). -/

namespace Sys2Proof.Machine

/-- A status code's byte (section 12.4). -/
def Status.code : Status → Nat
  | .ok => 0x00
  | .accepted => 0x01
  | .badCommand => 0x02
  | .badLength => 0x03
  | .outOfRange => 0x04
  | .invalid => 0x05
  | .notFound => 0x06
  | .full => 0x07
  | .inUse => 0x08
  | .referenced => 0x09
  | .notOpen => 0x0A
  | .showOpen => 0x0B
  | .stopped => 0x0C
  | .stopActive => 0x0D
  | .busy => 0x0E
  | .windowLocked => 0x0F
  | .noStandby => 0x10
  | .finished => 0x11

/-! ## Enumerations in answers -/

/-- A run state's number (R25). -/
def RunState.code : RunState → Nat
  | .pending => 0
  | .standby => 1
  | .firing => 2
  | .complete => 3
  | .passed => 4

/-- A stop state's number (R164). -/
def StopState.code : StopState → Nat
  | .clear => 0
  | .stopped => 1
  | .countIn => 2

/-- A stop source's number (R164). -/
def StopSource.code : StopSource → Nat
  | .host => 0
  | .pad => 1
  | .line => 2
  | .fault => 3

/-- A set of stop sources as a byte (R164, R185). -/
def SourceSet.code (x : SourceSet) : Nat :=
  (if x.host then 1 else 0) + (if x.pad then 2 else 0) + (if x.line then 4 else 0) + if x.fault then 8 else 0

/-- A clock state's number (R51). -/
def ClockState.code : ClockState → Nat
  | .parked => 0
  | .playing => 1
  | .vamping => 2
  | .held => 3
  | .frozen => 4
  | .counting => 5

/-- A link state's number (R108). -/
def LinkState.code : LinkState → Nat
  | .down => 0
  | .training => 1
  | .locked => 2

/-- A request kind's number (R91). -/
def ReqKind.code : ReqKind → Nat
  | .cue => 0
  | .restore => 1
  | .adHoc => 2

/-- A request outcome's number (R91). -/
def ReqOutcome.code : ReqOutcome → Nat
  | .ok => 0
  | .rejected => 1
  | .timeout => 2
  | .superseded => 3
  | .linkLost => 4

/-- A camera state's number (R136). -/
def CameraState.code : CameraState → Nat
  | .noSignal => 0
  | .acquiring => 1
  | .locked => 2
  | .mismatch => 3

/-- A selection mode's number (R138). -/
def VideoMode.code : VideoMode → Nat
  | .auto => 0
  | .a => 1
  | .b => 2

/-- A selection state's number (R138). -/
def Selection.code : Selection → Nat
  | .aActive => 0
  | .bActive => 1
  | .holding => 2
  | .none => 3

/-- A pad state's number (R124). -/
def PadState.code : PadState → Nat
  | .seeding => 0
  | .running => 1
  | .lost => 2

/-- An electrode level's number (R124). -/
def Level.code : Level → Nat
  | .idle => 0
  | .touch => 1
  | .deep => 2

/-- A contact outcome's number (R128). -/
def ContactOutcome.code : ContactOutcome → Nat
  | .go => 0
  | .tempoTap => 1
  | .tap => 2
  | .hold => 3
  | .stop => 4
  | .next => 5
  | .back => 6
  | .none => 7
  | .cancelled => 8

/-- An operation state's number (R178). -/
def LoaderState.code : LoaderState → Nat
  | .idle => 0
  | .readingHeader => 1
  | .installing => 2
  | .erasing => 3
  | .writing => 4
  | .done => 5
  | .failed => 6

/-- An operation's number (R178). -/
def LoaderOp.code : LoaderOp → Nat
  | .load => 0
  | .bootLoad => 1
  | .save => 2

/-- An operation result's number (R178). -/
def LoaderResult.code : LoaderResult → Nat
  | .done => 0
  | .badHeader => 1
  | .tooLarge => 2
  | .countMismatch => 3
  | .checksum => 4
  | .brokenReference => 5
  | .flashError => 6

/-! ## Fields -/

/-- A yes or no, or on or off, as a byte, and likewise set or clear and RAISED or RELEASED: 0 for the value meant by true.
That a mark or a summary whose values no rule lists is sent so, set as 0 and clear as 1, is the model's choice (log 8). -/
def putBool (b : Bool) : List Byte := bigEndian 1 (yesNoCode b)

/-- A tick as 4 bytes. -/
def putTick (t : Tick) : List Byte := bigEndian 4 t.toNat

/-- A cue number. -/
def putCue (n : CueNumber) : List Byte := bigEndian 2 n.major ++ bigEndian 1 n.minor

/-- A song position. -/
def putPos (p : SongPos) : List Byte := bigEndian 1 p.song ++ bigEndian 2 p.bar ++ bigEndian 1 p.beat

/-- Counts of 0..65535 in a row. -/
def putCounts (l : List Nat) : List Byte := l.flatMap (bigEndian 2)

/-- A picture size. -/
def putSize (z : Size) : List Byte := bigEndian 2 z.width ++ bigEndian 2 z.height

/-- A state whose two values are listed with the one meant by `b` second, as CLOSED or OPEN (R26), UNLOCKED or LOCKED and
internal or house sync (R50), INACTIVE or ACTIVE (R164), DISARMED or ARMED (R153). -/
def putSecond (b : Bool) : List Byte := bigEndian 1 (offOnCode b)

/-- A patch key, of chair and number, and a variant key. -/
def putSel (chair : Nat) (p : PatchSel) : List Byte :=
  bigEndian 1 chair ++ bigEndian 2 p.number ++ bigEndian 1 p.variant.code

/-- The confirmed patch of a chair (R92). -/
def putConfirmed (chair : Nat) : Confirmed → List Byte
  | .patch sel => bigEndian 1 0 ++ putSel chair sel
  | .unknown => bigEndian 1 1
  | .modified => bigEndian 1 2

/-- What STATUS READ reports of a slot (R92): the kind, and for a CUE request its cue number, the value of that kind. -/
def putSlot (r : SlotReport) : List Byte := bigEndian 1 r.kind.code ++ (r.cue.map putCue).getD []

/-- A chair's last result (R92). -/
def putResult (r : ReqKind × ReqOutcome) : List Byte := bigEndian 1 r.1.code ++ bigEndian 1 r.2.code

/-! ## Answers -/

/-- A record's fields (R22). -/
def RecordData.bytes : RecordData → List Byte
  | .song r => putSongWrite r.toWrite ++ bigEndian 1 r.running.code ++ bigEndian 2 r.cueCount
  | .segment r => putSegmentWrite r.toWrite
  | .patch r => putPatchWrite r.toWrite ++ bigEndian 2 r.refs
  | .cue r run => putCueWrite r.toWrite ++ bigEndian 1 run.code
  | .chair n r => putChairWrite (r.toWrite n)
  | .role n key => putRoleWrite n key.code
  | .settings r => putSettingsWrite r.toWrite ++ r.faultBytes

/-- The summary of the book (R22). -/
def BookSummary.bytes (r : BookSummary) : List Byte :=
  bigEndian 1 r.songs ++ putCounts [r.segments, r.cues, r.patches, r.poolUse, r.poolFree, r.revision] ++
    bigEndian 1 r.cutSongs

/-- The Image Loader's report (R178). -/
def LoaderReport.bytes (r : LoaderReport) : List Byte :=
  bigEndian 1 r.state.code ++ putOpt (fun o => bigEndian 1 (LoaderOp.code o)) r.op ++ putOpt (bigEndian 1) r.slot ++
    putOpt (fun p : Progress => putCounts [p.done, p.total]) r.progress ++
    putOpt (fun o => bigEndian 1 (LoaderResult.code o)) r.result ++
    putOpt (fun f : FailedRecord =>
      bigEndian 1 (tableCode f.table) ++ bigEndian 2 f.position ++ bigEndian 1 f.status.code) r.failed

/-- The core of a STATUS READ answer (R188). -/
def StatusCore.bytes (r : StatusCore) : List Byte :=
  bigEndian 2 r.flags.toNat ++ putSecond r.showOpen ++ bigEndian 1 r.stop.code ++ bigEndian 1 r.clock.code ++
    putOpt putPos r.position ++ putOpt putCue r.standby ++ putBool r.anyLive ++ putBool r.anyHeld ++ r.loader.bytes

/-- The completion record (R26): the cue, whether some request failed, and the two counts. -/
def Completion.bytes (r : Completion) : List Byte :=
  putCue r.cue ++ bigEndian 1 (if r.failed = 0 then 0 else 1) ++ bigEndian 1 r.requests ++ bigEndian 1 r.failed

/-- Part 1 of STATUS READ. -/
def CueReport.bytes (r : CueReport) : List Byte :=
  putOpt putCue r.lastFired ++ putOpt Completion.bytes r.completion ++ putCounts [r.ignoredPad, r.ignoredChair]

/-- Part 2 of STATUS READ. The beat accumulator of R66 stands last, whole in 5 bytes, since R188 does not list it and the 4
bytes of R185's largest number do not hold its 40 bits (log 39). -/
def ClockReport.bytes (r : ClockReport) : List Byte :=
  putOpt putPos r.position ++ putOpt (bigEndian 2) r.pass ++ bigEndian 2 r.tempo ++
    putOpt (fun u => bigEndian 1 (BeatUnit.code u)) r.beatUnit ++ putBool r.follow ++ putBool r.override ++
    bigEndian 2 r.rejected ++ putSecond r.syncLocked ++ putSecond r.houseTimebase ++ bigEndian 5 r.accumulator.toNat

/-- A link's counts (R108). -/
def LinkCounts.bytes (k : LinkCounts) : List Byte :=
  putCounts [k.crc, k.format, k.sequence, k.ignoredGo, k.trainingFailures, k.locks, k.lostSilence, k.lostErrors]

/-- A chair's dispatch counts (R92). -/
def DispatchCounts.bytes (k : DispatchCounts) : List Byte :=
  putCounts [k.sent, k.rejected, k.timedOut, k.linkLost, k.superseded]

/-- Part 3 of STATUS READ. -/
def ChairReport.bytes (r : ChairReport) : List Byte :=
  putBool r.enable ++ bigEndian 2 r.basis ++ putSigned r.trim ++ bigEndian 2 r.advance ++
    putOpt (bigEndian 2) r.filtered ++ putOpt putSlot r.flight ++ putOpt putSlot r.waiting ++
    putOpt (putSel r.chair) r.target ++ putConfirmed r.chair r.confirmed ++ [r.tag] ++ r.dispatch.bytes ++
    putOpt putResult r.last ++ bigEndian 1 r.link.code ++ bigEndian 2 r.latency ++ putBool r.monitor ++
    bigEndian 1 r.bucket ++ r.counts.bytes ++ putBool r.composing ++ bigEndian 2 r.shortFrames

/-- A camera's part of STATUS READ (R136). -/
def CameraReport.bytes (r : CameraReport) : List Byte :=
  bigEndian 1 r.state.code ++ putOpt putSize r.measurement ++ bigEndian 1 r.rate

/-- Part 4 of STATUS READ. No rule gives the range of the window count: it takes 2 bytes, as the counts beside it (log 9). -/
def VideoReport.bytes (r : VideoReport) : List Byte :=
  r.camA.bytes ++ r.camB.bytes ++ bigEndian 1 r.mode.code ++ bigEndian 1 r.sel.code ++
    putCounts [r.drops, r.repeats, r.windowCount]

/-- The number of a contact's deepest level, which is TOUCH or DEEP (R128). -/
def Contact.deepestCode (k : Contact) : Nat := if k.deepest = .deep then 1 else 0

/-- The record of an ended contact (R128): the visits with the overflow mark, and then the onset of each visit. The outcome
is written when the contact ends, so it is always there. -/
def Contact.bytes (k : Contact) : List Byte :=
  putList (fun v : Visit => bigEndian 1 v.zone.val) k.visits ++ putBool k.overflow ++
    putList (fun v : Visit => putTick v.onset) k.visits ++ putTick k.onset ++ bigEndian 1 k.deepestCode ++
    putOpt putTick k.release ++ bigEndian 4 k.duration ++ putBool k.spent ++ putBool k.stopGiven ++
    (k.outcome.map fun o => bigEndian 1 (ContactOutcome.code o)).getD []

/-- The pad counts (R124). -/
def PadCounts.bytes (k : PadCounts) : List Byte :=
  putCounts [k.goTaps, k.tempoTaps, k.holds, k.stopPresses, k.swipesNext, k.swipesBack, k.cancelled, k.stuckReseeds,
             k.discarded]

/-- Part 5 of STATUS READ. The five electrodes are a fixed run, with no count byte (log 9). -/
def PadReport.bytes (r : PadReport) : List Byte :=
  bigEndian 1 r.state.code ++ r.electrodes.flatMap (fun e => bigEndian 2 e.1 ++ bigEndian 1 e.2.code) ++
    putBool r.blocking ++ putOpt Contact.bytes r.last ++ r.counts.bytes

/-- The part of a STATUS READ answer. -/
def StatusPart.bytes : StatusPart → List Byte
  | .nothing => []
  | .cues r => r.bytes
  | .clock r => r.bytes
  | .chair r => r.bytes
  | .video r => r.bytes
  | .pad r => r.bytes

/-- One source's answer of FAULT READ (R162). -/
def FaultReport.bytes (r : FaultReport) : List Byte :=
  r.setting.bytes ++ bigEndian 1 r.samples ++ bigEndian 1 r.asserted ++ putBool r.live ++ putBool r.held

/-- A source's line in the answer for all sources (R162). -/
def FaultLine.bytes (r : FaultLine) : List Byte := bigEndian 1 r.asserted ++ putBool r.live ++ putBool r.held

/-- The position of a stop record, a song position or PARKED (R164). -/
def putStopPos : Option SongPos → List Byte
  | some p => bigEndian 1 0 ++ putPos p
  | none => bigEndian 1 1

/-- A stop record (R164). -/
def StopRecord.bytes (r : StopRecord) : List Byte :=
  bigEndian 1 r.sources.code ++ bigEndian 1 r.first.code ++ putTick r.tick ++ putStopPos r.pos ++
    putOpt putCue r.lastFired ++ bigEndian 2 r.number

/-- The answer of STOP RECORD READ (R176). -/
def StopReport.bytes (r : StopReport) : List Byte :=
  bigEndian 1 r.state.code ++ bigEndian 1 r.held.code ++ putSecond r.line ++ bigEndian 2 r.count ++
    putOpt StopRecord.bytes r.record

/-- An answer's data. A standby's number is an optional value in the answers of STANDBY SET, NEXT and BACK alike, and a fired
cue's number in that of GO is not (log 9). The 70 source lines of FAULT READ are a fixed run, with no count byte (log 9). -/
def AnswerData.bytes : AnswerData → List Byte
  | .empty => []
  | .record r => r.bytes
  | .summary r => r.bytes
  | .cue n => putCue n
  | .standby n => putOpt putCue n
  | .stopState st => bigEndian 1 st.code
  | .cleared n => bigEndian 1 n
  | .mask m => bigEndian 2 m.toNat
  | .fault r => r.bytes
  | .faults armed raised lines =>
    putSecond armed ++ putBool raised ++ lines.flatMap FaultLine.bytes
  | .stopReport r => r.bytes
  | .status core part => core.bytes ++ part.bytes

/-- The bytes that an answer read returns of an answer with its OVERRUN flag (section 12.1). -/
def answerBytes (a : Answer) (overrun : Bool) : List Byte :=
  [0x00#8, 0xA5#8, if overrun then 0x01#8 else 0x00#8] ++ bigEndian 1 a.status.code ++
    bigEndian 2 a.data.bytes.length ++ a.data.bytes

/-- The first `n` bytes that a transaction returns, 00h past the end (log 27). -/
def padded (n : Nat) (bytes : List Byte) : List Byte := bytes.take n ++ List.replicate (n - bytes.length) 0x00#8

end Sys2Proof.Machine
end

