-- ==== Sys2Proof/Machine/Shows.lean ====
section
/-! DEFINITION. Opening and closing the show across the blocks (R27, R28, R51, R76, R107, R146, R158, R176). -/

namespace Sys2Proof.Machine

/-- The clock is PARKED with nothing under way, its accumulator and tempo kept, as at SHOW OPEN and SHOW CLOSE (R51). -/
def parkForShow (s : State) : State :=
  setClockState .parked { s with clock := { s.clock.dropFollow with
    pos := none, next := none, ending := none, vamp := none, holdDue := false, countIn := none } }

/-- The first run state of a cue at SHOW OPEN (R27). -/
def openEntry (b : Book) (c : Cue) : RunEntry :=
  { cue := c.number, state := if b.cueCut c then .passed else .pending, mark := none, failed := 0 }

/-- The Cue Engine at SHOW OPEN, before its standby is placed (R26, R27). -/
def CueEngine.opened (b : Book) : CueEngine :=
  { CueEngine.initial with isOpen := true, runs := b.cues.map (openEntry b) }

/-- The overlay fields at a show boundary: the cards are off and the position and beat none (R146). -/
def Overlay.blank (o : Overlay) : Overlay :=
  { o with position := none, beat := none, stopCard := none, countCard := none }

/-- Every click enable is set ON (R82). -/
def enableClicks (s : State) : State :=
  { s with clicks := tabulateChairs fun c => { s.clicks[c] with enable := true } }

/-- The Stop Controller at SHOW OPEN; an ACTIVE stop line then makes a stop request (R164, R176). -/
def openStop (s : State) : State :=
  let s := setStopState .clear s
  let s := { s with stop := { s.stop with held := SourceSet.empty, record := none, count := 0 } }
  if s.stop.line then stopRequest .line s else s

/-- SHOW OPEN, when taken (R27). -/
def openShow (s : State) : State :=
  let s := { s with cue := CueEngine.opened s.book, overlay := { s.overlay.blank with lastCue := none } }
  let s := placeStandby (s.firstGoAfter none) s
  let s := parkForShow s
  let s := { s with clock := { s.clock with rejected := 0 }, due := [] }
  openStop (openFaults (detachPatches (enableClicks s)))

/-- The Stop Controller at SHOW CLOSE (R176). -/
def closeStop (s : State) : State :=
  let s := if s.stop.state = .clear then s else handStopMarks false s
  let s := setStopState .clear s
  { s with stop := { s.stop with held := SourceSet.empty } }

/-- The Cue Engine at SHOW CLOSE (R26, R28). -/
def CueEngine.closed (e : CueEngine) : CueEngine :=
  { e with
    isOpen := false, runs := [], standby := none, held := none, holdCandidate := none, timers := [], triggers := [],
    guard := none }

/-- SHOW CLOSE, when taken (R28). -/
def closeShow (s : State) : State :=
  let s := handStandby { s with cue := s.cue.closed }
  let s := parkForShow (cancelClicks s)
  let s := closeStop (closeFaults (emptyPending s))
  { s with overlay := s.overlay.blank }

end Sys2Proof.Machine
end

