-- ==== Sys2Proof/Machine/Status.lean ====
section
/-! DEFINITION. What STATUS READ and STOP RECORD READ report (R176, R188). -/

namespace Sys2Proof.Machine

/-- The standby cue, or the held follow cue while one is held (R26, R48). -/
def State.shownStandby (s : State) : Option CueNumber := s.cue.held.or s.cue.standby

/-- The core of a STATUS READ answer (R188). -/
def State.statusCore (s : State) : StatusCore :=
  { flags := s.port.flags, showOpen := s.cue.isOpen, stop := s.stop.state, clock := s.clock.state,
    position := s.clock.pos, standby := s.shownStandby, anyLive := s.faults.anyLive, anyHeld := s.faults.anyHeld,
    loader := s.loader.report }

/-- Part 1 (R26). -/
def State.cueReport (s : State) : CueReport :=
  { lastFired := s.cue.lastFired, completion := s.cue.completion, ignoredPad := s.cue.ignoredPad,
    ignoredChair := s.cue.ignoredChair }

/-- Part 2 (R50, R51), with the beat accumulator (R66; log 39). The beat unit is that of the segment in force, and absent
where there is none: the tempo in force is then that of no segment (R3; log 35). -/
def State.clockReport (s : State) : ClockReport :=
  { position := s.clock.pos, pass := s.clock.vamp.map (·.pass), tempo := s.clock.tempo,
    beatUnit := s.segmentInForce.map (·.beatUnit), follow := s.clock.adjust.isSome,
    override := s.clock.override.isSome, rejected := s.clock.rejected, syncLocked := s.clock.syncLocked,
    houseTimebase := s.houseTimebase, accumulator := s.clock.p }

/-- What is reported of a request in a slot (R92). -/
def PatchReq.report (r : PatchReq) : SlotReport :=
  { kind := r.kind
    cue :=
      match r with
      | .cue n _ _ => some n
      | .restore _ | .adHoc => none }

/-- Part 3 (R76, R92, R108, R151). -/
def State.chairReport (s : State) (c : Chair) : ChairReport :=
  let k := s.clicks[c]
  let d := s.patch[c]
  let l := s.links[c]
  let v := s.overlay.views[c]
  { chair := chairNumber c, enable := k.enable, basis := k.basis, trim := k.trim, advance := k.advance, filtered := k.filtered,
    flight := d.flight.map fun f => f.req.report, waiting := d.waiting.map (·.report), target := d.target,
    confirmed := d.confirmed, tag := d.tag, dispatch := d.counts, last := d.last, link := l.state,
    latency := l.latency, monitor := l.monitor, bucket := l.bucket, counts := l.counts, composing := v.composing,
    shortFrames := v.shortFrames }

/-- A camera's report: its lock measurement, or else its previous measurement (R136). -/
def State.cameraReport (s : State) (k : Cam) : CameraReport :=
  { state := k.state, measurement := k.locked.or k.previous, rate := s.measuredRate k }

/-- Part 4 (R136, R138). -/
def State.videoReport (s : State) : VideoReport :=
  { camA := s.cameraReport s.video.camA, camB := s.cameraReport s.video.camB, mode := s.video.mode,
    sel := s.video.sel, drops := s.video.drops, repeats := s.video.repeats, windowCount := s.video.window.length }

/-- Part 5 (R124). -/
def State.padReport (s : State) : PadReport :=
  { state := s.pad.state, electrodes := s.pad.electrodes.toList.map fun e => (e.baseline, e.level),
    blocking := s.pad.blocking, last := s.pad.last, counts := s.pad.counts }

/-- The part that STATUS READ names; none for one that is out of range (R188). -/
def State.statusPart (s : State) (part : Nat) (chair : Option Nat) : Option StatusPart :=
  match part with
  | 0 => some .nothing
  | 1 => some (.cues s.cueReport)
  | 2 => some (.clock s.clockReport)
  | 3 => (chair.bind chairOf).map fun c => .chair (s.chairReport c)
  | 4 => some (.video s.videoReport)
  | 5 => some (.pad s.padReport)
  | _ => none

/-- What STOP RECORD READ answers (R176). -/
def State.stopReport (s : State) : StopReport :=
  { state := s.stop.state, held := s.stop.held, line := s.stop.line, count := s.stop.count, record := s.stop.record }

end Sys2Proof.Machine
end

