-- ==== Sys2Proof/Machine/Requests.lean ====
section
/-! DEFINITION. The decisions of the requests that the Cue Engine, the Tempo Clock, the Stop Controller, the chairs' blocks,
the Video Switch, the Fault Monitor, the pad and the Control Port own (chapters 2 to 10 and 12), and the reset values that
SYSTEM RESET gives (R189). -/

namespace Sys2Proof.Machine

/-! ## Show and cues (R27, R28, R30, R38, R39) -/

/-- SHOW OPEN (R27). -/
def decideShowOpen (s : State) : Decision :=
  if s.cue.isOpen then refuse .showOpen s
  else if s.busy then refuse .busy s
  else (openShow s, plain .ok)

/-- SHOW CLOSE (R28). -/
def decideShowClose (s : State) : Decision :=
  if s.cue.isOpen then (closeShow s, plain .ok) else refuse .notOpen s

/-- The answer to a CONTROL GO (R30). -/
def GoResult.answer : GoResult → Answer
  | .notOpen => plain .notOpen
  | .stopped => plain .stopped
  | .guarded => plain .invalid
  | .nothing => plain .noStandby
  | .notAllowed => plain .invalid
  | .fired n => { status := .ok, data := .cue n }

/-- GO from the control port (R30). -/
def decideControlGo (s : State) : Decision :=
  let r := decideGo .control s
  (r.1, r.2.answer)

/-- An answer OK with the standby cue's number, or none (R38, R39). STANDBY SET, which always has a number to answer, has it
sent as the optional value of STANDBY NEXT and BACK by the model's choice (log 9). -/
def State.standbyAnswer (s : State) : Answer := { status := .ok, data := .standby s.cue.standby }

/-- The named cue is a PENDING GO cue (R38). -/
def State.mayStand (s : State) (c : Cue) : Bool := c.isGo && decide (s.runState c.number = .pending)

/-- STANDBY SET (R38). One that names the present standby cue changes nothing: it ends neither a hold (R48) nor the wait of a
FIRING FOLLOW resume cue to be held (R47; log 36). -/
def decideStandbySet (major minor : Nat) (s : State) : Decision :=
  let n : CueNumber := { major := major, minor := minor }
  if !s.cue.isOpen then refuse .notOpen s
  else if !n.inRange then refuse .outOfRange s
  else
    match s.book.cue? n with
    | none => refuse .notFound s
    | some c =>
      if s.cue.standby = some n then (s, s.standbyAnswer)
      else if s.mayStand c then
        let s := setHeld none (moveStandby n { s with cue := { s.cue with holdCandidate := none } })
        (s, s.standbyAnswer)
      else refuse .invalid s

/-- STANDBY NEXT and STANDBY BACK from the control port (R39). -/
def decideMove (move : State → State) (s : State) : Decision :=
  if s.cue.isOpen then (move s, (move s).standbyAnswer) else refuse .notOpen s

/-! ## Clock and stop (R69, R169, R176) -/

/-- VAMP RELEASE (R69). -/
def decideVampRelease (s : State) : Decision :=
  if !s.cue.isOpen then refuse .notOpen s
  else if s.clock.state = .frozen ∨ s.clock.state = .counting then refuse .stopped s
  else if s.releasable then (vampRelease s, plain .ok)
  else refuse .invalid s

/-- STOP (R176). -/
def decideStop (s : State) : Decision :=
  if s.cue.isOpen then
    let s := stopRequest .host s
    (s, { status := .ok, data := .stopState s.stop.state })
  else refuse .notOpen s

/-- RESUME (R169, R170). -/
def decideResume (major minor bars : Nat) (s : State) : Decision :=
  match s.resumeCheck { major := major, minor := minor } bars with
  | .error st => refuse st s
  | .ok c => (resumeAt c bars s, plain .ok)

/-- STOP RECORD READ (R176). -/
def decideStopRead (s : State) : Decision := (s, { status := .ok, data := .stopReport s.stopReport })

/-! ## Chairs, video and pad (R86, R102, R135, R143) -/

/-- RIG WRITE (R102). -/
def decideRig (chair : Nat) (entries : List Entry) (s : State) : Decision :=
  match chairOf chair with
  | none => refuse .outOfRange s
  | some c =>
    if !entriesOk entries then refuse .outOfRange s
    else if (s.chairRec c).enabled then (takeRequest c .adHoc entries s, plain .ok)
    else refuse .invalid s

/-- REALIGN (R86). -/
def decideRealign (chair : Nat) (s : State) : Decision :=
  match chairOf chair with
  | none => refuse .outOfRange s
  | some c => (realignChair c s, plain .ok)

/-- VIDEO SELECT (R143). -/
def decideVideo (mode : Nat) (s : State) : Decision :=
  match videoModeOf mode with
  | none => refuse .outOfRange s
  | some m => (setVideoMode m s, plain .ok)

/-- PAD RESEED (R135). -/
def decideReseed (s : State) : Decision := (reseedPad s, plain .ok)

/-! ## Faults (R159, R161, R162) -/

/-- FAULT SET (R159); one that is taken raises the revision count (R11). -/
def decideFaultSet (source window action : Nat) (s : State) : Decision :=
  if s.busy then refuse .busy s
  else
    match faultSetOf source window action with
    | none => refuse .outOfRange s
    | some (i, set) =>
      if s.faults.armed ∧ set.window.samples < (s.faultSetting i).window.samples then refuse .windowLocked s
      else (revise (applyFault i set s), plain .ok)

/-- FAULT READ (R162). -/
def decideFaultRead (source : Nat) (s : State) : Decision :=
  if source = 0 then
    (s, { status := .ok, data := .faults s.faults.armed s.faults.raised s.faultLines })
  else
    match sourceOf source with
    | none => refuse .outOfRange s
    | some i => (s, { status := .ok, data := .fault (s.faultReport i) })

/-- FAULT CLEAR (R161). -/
def decideFaultClear (s : State) : Decision :=
  (clearHeld s, { status := .ok, data := .cleared s.faults.clearable })

/-! ## The Control Port's own requests (R187, R188, R189) -/

/-- EVENT MASK (R187). -/
def decideMask (mask : BitVec 16) (s : State) : Decision :=
  if mask &&& 0xFC00#16 ≠ 0#16 then refuse .outOfRange s
  else ({ s with port := { s.port with mask := mask } }, { status := .ok, data := .mask s.port.mask })

/-- STATUS READ (R188): one snapshot, whose flags are then cleared (R187). -/
def decideStatus (part : Nat) (chair : Option Nat) (s : State) : Decision :=
  match s.statusPart part chair with
  | none => refuse .outOfRange s
  | some p =>
    ({ s with port := { s.port with flags := 0#10 } }, { status := .ok, data := .status s.statusCore p })

/-- The book after a SYSTEM RESET (R24, R183): kept with the cursor at its start, or as after a failed load. -/
def State.bookAfterReset (s : State) : Book :=
  if s.loading then Book.empty else { s.book with cursorTable := .songs, cursorPos := (1, 0) }

/-- Every block at its SYSTEM RESET values, over the book given (R189, R76, R88, R139). -/
def resetBlocks (b : Book) (s : State) : State :=
  { s with
    time := { tick := 0#32, micros := 0, phase := 0 }
    book := b
    cue := CueEngine.initial
    clock := Clock.initial
    clicks := tabulateChairs fun c => ({ ClickChair.initial with trim := b.chairs[c].trim }).recompute
    due := []
    patch := Vector.replicate 16 Dispatch.initial
    links := Vector.replicate 16 Link.initial
    leakDue := 125000
    pad := Pad.initial
    video := Video.initial b.settings.rate
    overlay := Overlay.initial
    faults := FaultMonitor.initial
    stop := StopController.initial s.stop.raw
    loader := Loader.initial }

/-- SYSTEM RESET (R189): the flags and the overrun mark are cleared, and the mask is kept. -/
def decideReset (s : State) : Decision :=
  let s := resetBlocks s.bookAfterReset s
  ({ s with port := { s.port with flags := 0#10, overrun := false } }, plain .ok)

end Sys2Proof.Machine
end

