-- ==== Sys2Proof/Machine/Port.lean ====
section
/-! DEFINITION. The Control Port: request frames, owners' answers and answer reads (R184, R186), and the power-on reset
(R183, R189). -/

namespace Sys2Proof.Machine

/-- The decision of the block that owns a request; none for a command that is no request of section 12.3. -/
def decisionOf : Instr → Option (State → Decision)
  | .recordWrite w => some (bookChange (writeRecord w))
  | .recordRead k => some (decideRead k)
  | .recordRetire k => some (decideRetire k)
  | .cursorSet k => some (decideCursorSet k)
  | .cursorRead => some decideCursorRead
  | .bookClear => some decideClear
  | .bookInfo => some decideInfo
  | .bookLoad slot => some (decideLoad slot)
  | .bookSave slot => some (decideSave slot)
  | .castSet role key => some (bookChange (writeRole role key))
  | .songCut n => some (decideRunning n .cut cutRuns)
  | .songRestore n => some (decideRunning n .playing restoreRuns)
  | .showOpen => some decideShowOpen
  | .showClose => some decideShowClose
  | .go => some decideControlGo
  | .standbySet major minor => some (decideStandbySet major minor)
  | .standbyNext => some (decideMove standbyNext)
  | .standbyBack => some (decideMove standbyBack)
  | .vampRelease => some decideVampRelease
  | .stop => some decideStop
  | .resume major minor bars => some (decideResume major minor bars)
  | .stationSet w => some (bookChange (writeChair w))
  | .rigWrite chair entries => some (decideRig chair entries)
  | .realign chair => some (decideRealign chair)
  | .videoSelect mode => some (decideVideo mode)
  | .faultSet source window action => some (decideFaultSet source window action)
  | .faultRead source => some (decideFaultRead source)
  | .faultClear => some decideFaultClear
  | .padReseed => some decideReseed
  | .statusRead part chair => some (decideStatus part chair)
  | .eventMask mask => some (decideMask mask)
  | .stopRecordRead => some decideStopRead
  | .systemReset => some decideReset
  | .powerOn _ | .requestFrame _ | .ownerAnswer | .answerRead _ | .beatProduction | .songEnd | .barTrigger
  | .followTimerExpiry | .goGuardExpiry | .countInBeat | .countInEnd | .syncLock | .syncUnlock | .clickSend _
  | .patchTimeout _ | .probePeriod _ | .probeLost _ | .lineActivity _ | .holdOffExpiry _ | .trainFrame _
  | .trainingTimeout _ | .silenceTimeout _ | .leakStep | .uplinkDamaged _ _ | .hello _ _ _ _ _ | .goPress _ _
  | .patchAck _ _ _ _ | .echo _ _ _ _ | .idle _ _ | .downlinkGrant _ | .cameraFrameStart _
  | .cameraFrameArrival _ _ _ | .signalWatchExpiry _ | .failoverExpiry | .outputFrameBoundary | .padSample _
  | .padLoss | .holdPoint | .stopPoint | .stopInChange _ | .stopLineDebounce | .faultSampleStep | .armingExpiry
  | .imageHeaderRead _ | .imageRecordInstall _ _ _ | .imageBodyEnd | .slotEraseDone _ | .eraseTimeout
  | .imageRecordWrite _ | .programTimeout | .imageHeaderWrite _ | .resetNAsserted => none

/-- The answer of a frame that ends at decoding (R184). An operand whose selector byte is outside its values is refused
where the owner would refuse it, after its BUSY check (log 7). -/
def refuseFrame (st : Status) (s : State) : Decision :=
  if st = .outOfRange ∧ s.busy = true then refuse .busy s else refuse st s

/-- The decision of a request frame, by its bytes after the opening byte (R184). -/
def frameDecision (bytes : List Byte) (s : State) : Decision :=
  match decodeFrame bytes with
  | .error st => refuseFrame st s
  | .ok i =>
    match decisionOf i with
    | some d => d s
    | none => refuse .badCommand s

/-- The owner's answer is given (R186): the buffer is filled with it and the overrun mark, which then clears. -/
def ownerAnswer (s : State) : State :=
  match s.port.state, s.port.owed with
  | .working, some a =>
    { s with port := { s.port with
      state := .answered, owed := none, buffer := some (a, s.port.overrun), overrun := false } }
  | _, _ => s

/-- An answer read that clocks out `count` bytes (R186): the status byte is byte 3. With RESET_N held low MISO is held
at 00h (R189). -/
def answerRead (count : Nat) (s : State) : State :=
  match s.resetHeld, s.port.state, s.port.buffer with
  | false, .answered, some (a, overrun) =>
    let port := { s.port with miso := padded count (answerBytes a overrun) }
    { s with port := if 4 ≤ count then { port with state := .idle, buffer := none } else port }
  | _, _, _ => { s with port := { s.port with miso := List.replicate count 0x00#8 } }

/-- RESET_N rises (R189): every block takes its power-on values, and with the BOOT strap high the boot load starts
(R183). The raw stop input is a pin, and stays as it stands. -/
def powerOn (boot : Bool) (s : State) : State :=
  let s := { resetBlocks Book.empty s with resetHeld := false, port := Port.initial }
  if boot then startLoad .bootLoad 0 s else s

/-- RESET_N is pulled low (R189): any running operation ends, and MISO is held at 00h. -/
def assertReset (s : State) : State :=
  { s with
    resetHeld := true
    loader := if s.busy then Loader.initial else s.loader
    port := { s.port with miso := [] } }

end Sys2Proof.Machine
end

