-- ==== Sys2Proof/Machine/BookCommands.lean ====
section
/-! DEFINITION. The meanings of the commands of the Book Store's requests (R11 to R24). -/

namespace Sys2Proof.Machine

/-- RECORD WRITE (R11). -/
def execRecordWrite (w : RecordWrite) (s : State) : Host.Outcome State Fault Refusal :=
  request (bookChange (writeRecord w)) s

/-- RECORD READ (R22). -/
def execRecordRead (k : RecordKey) (s : State) : Host.Outcome State Fault Refusal :=
  request (decideRead k) s

/-- RECORD RETIRE (R19). -/
def execRecordRetire (k : RecordKey) (s : State) : Host.Outcome State Fault Refusal :=
  request (decideRetire k) s

/-- CURSOR SET (R23). -/
def execCursorSet (k : RecordKey) (s : State) : Host.Outcome State Fault Refusal :=
  request (decideCursorSet k) s

/-- CURSOR READ (R23). -/
def execCursorRead (s : State) : Host.Outcome State Fault Refusal :=
  request decideCursorRead s

/-- BOOK CLEAR (R24). -/
def execBookClear (s : State) : Host.Outcome State Fault Refusal :=
  request decideClear s

/-- BOOK INFO (R22). -/
def execBookInfo (s : State) : Host.Outcome State Fault Refusal :=
  request decideInfo s

/-- CAST SET (R18). -/
def execCastSet (role key : Nat) (s : State) : Host.Outcome State Fault Refusal :=
  request (bookChange (writeRole role key)) s

/-- SONG CUT (R20). -/
def execSongCut (song : Nat) (s : State) : Host.Outcome State Fault Refusal :=
  request (decideRunning song .cut cutRuns) s

/-- SONG RESTORE (R21). -/
def execSongRestore (song : Nat) (s : State) : Host.Outcome State Fault Refusal :=
  request (decideRunning song .playing restoreRuns) s

/-- STATION SET (R17). -/
def execStationSet (w : ChairWrite) (s : State) : Host.Outcome State Fault Refusal :=
  request (bookChange (writeChair w)) s

end Sys2Proof.Machine
end

