-- ==== Sys2Proof/Machine/ChairCommands.lean ====
section
/-! DEFINITION. The meanings of the commands of the Patch Dispatcher and the chair links (R83 to R122). -/

namespace Sys2Proof.Machine

/-- RIG WRITE (R102). -/
def execRigWrite (chair : Nat) (entries : List Entry) (s : State) : Host.Outcome State Fault Refusal :=
  request (decideRig chair entries) s

/-- REALIGN (R86). -/
def execRealign (chair : Nat) (s : State) : Host.Outcome State Fault Refusal :=
  request (decideRealign chair) s

/-- The timeout of the request in flight is reached (R98). -/
def execPatchTimeout (c : Chair) (s : State) : Host.Outcome State Fault Refusal :=
  event (patchTimeout c) s

/-- The probe period has passed (R83). -/
def execProbePeriod (c : Chair) (s : State) : Host.Outcome State Fault Refusal :=
  event (probePeriod c) s

/-- The outstanding probe is lost (R83). -/
def execProbeLost (c : Chair) (s : State) : Host.Outcome State Fault Refusal :=
  event (probeLost c) s

/-- The uplink shows activity (R109). -/
def execLineActivity (c : Chair) (s : State) : Host.Outcome State Fault Refusal :=
  event (lineActivity c) s

/-- The hold-off expires (R109). -/
def execHoldOffExpiry (c : Chair) (s : State) : Host.Outcome State Fault Refusal :=
  event (holdOffExpiry c) s

/-- A TRAIN frame is due (R110). -/
def execTrainFrame (c : Chair) (s : State) : Host.Outcome State Fault Refusal :=
  event (trainFrame c) s

/-- The training timer expires (R110). -/
def execTrainingTimeout (c : Chair) (s : State) : Host.Outcome State Fault Refusal :=
  event (trainingTimeout c) s

/-- The silence timer expires (R112). -/
def execSilenceTimeout (c : Chair) (s : State) : Host.Outcome State Fault Refusal :=
  event (silenceTimeout c) s

/-- The error buckets leak (R116). -/
def execLeakStep (s : State) : Host.Outcome State Fault Refusal :=
  event leakStep s

/-- An uplink message arrives as bytes, checked by R114. -/
def execUplinkDamaged (c : Chair) (bytes : List Byte) (s : State) : Host.Outcome State Fault Refusal :=
  event (arrive c (checkUplink bytes)) s

/-- A HELLO arrives (R111, R113). -/
def execHello (c : Chair) (seq version : Byte) (latency : BitVec 16) (flags : Byte) (s : State) :
    Host.Outcome State Fault Refusal :=
  event (arrive c (formatCheck seq (helloMsg version latency.toNat flags))) s

/-- A GO PRESS arrives (R118). -/
def execGoPress (c : Chair) (seq : Byte) (s : State) : Host.Outcome State Fault Refusal :=
  event (arrive c (.passed seq .goPress)) s

/-- A PATCH ACK arrives (R96 to R99). -/
def execPatchAck (c : Chair) (seq tag result : Byte) (s : State) : Host.Outcome State Fault Refusal :=
  event (arrive c (formatCheck seq (patchAckMsg tag result))) s

/-- An ECHO arrives (R84). -/
def execEcho (c : Chair) (seq id : Byte) (turnaround : BitVec 16) (s : State) : Host.Outcome State Fault Refusal :=
  event (arrive c (.passed seq (.echo id turnaround.toNat))) s

/-- An IDLE arrives (R112, R117). -/
def execIdle (c : Chair) (seq : Byte) (s : State) : Host.Outcome State Fault Refusal :=
  event (arrive c (.passed seq .idle)) s

/-- The free downlink is granted (R120). -/
def execDownlinkGrant (c : Chair) (s : State) : Host.Outcome State Fault Refusal :=
  event (grant c) s

end Sys2Proof.Machine
end

