-- ==== Sys2Proof/Machine/ClockCommands.lean ====
section
/-! DEFINITION. The meanings of the commands of the Tempo Clock, the Click Scheduler and the Stop Controller (R49 to R82, R164 to R176). -/

namespace Sys2Proof.Machine

/-- VAMP RELEASE (R69). -/
def execVampRelease (s : State) : Host.Outcome State Fault Refusal :=
  request decideVampRelease s

/-- STOP (R176). -/
def execStop (s : State) : Host.Outcome State Fault Refusal :=
  request decideStop s

/-- RESUME (R169). -/
def execResume (major minor bars : Nat) (s : State) : Host.Outcome State Fault Refusal :=
  request (decideResume major minor bars) s

/-- STOP RECORD READ (R176). -/
def execStopRecordRead (s : State) : Host.Outcome State Fault Refusal :=
  request decideStopRead s

/-- The next beat is reached (R55). -/
def execBeatProduction (s : State) : Host.Outcome State Fault Refusal :=
  event beatReached s

/-- The song's end is reached (R57). -/
def execSongEnd (s : State) : Host.Outcome State Fault Refusal :=
  event songEnd s

/-- A count-in beat is reached (R75). -/
def execCountInBeat (s : State) : Host.Outcome State Fault Refusal :=
  event countInBeat s

/-- The first song beat of a count-in is reached (R75). -/
def execCountInEnd (s : State) : Host.Outcome State Fault Refusal :=
  event countInEnd s

/-- House sync becomes LOCKED (R50). -/
def execSyncLock (s : State) : Host.Outcome State Fault Refusal :=
  event (setSyncLock true) s

/-- House sync becomes UNLOCKED (R50). -/
def execSyncUnlock (s : State) : Host.Outcome State Fault Refusal :=
  event (setSyncLock false) s

/-- A part's send tick is reached (R79). -/
def execClickSend (c : Chair) (s : State) : Host.Outcome State Fault Refusal :=
  event (sendClick c) s

/-- The raw stop input changes (R165). A change with RESET_N held low is only the pin's new level. -/
def execStopInChange (active : Bool) (s : State) : Host.Outcome State Fault Refusal :=
  if s.resetHeld then .next { s with stop := { s.stop with raw := active } }
  else event (stopInChange active) s

/-- The debounce of the stop line completes (R165). -/
def execStopLineDebounce (s : State) : Host.Outcome State Fault Refusal :=
  event lineDebounce s

end Sys2Proof.Machine
end

