-- ==== Sys2Proof/Machine/CueCommands.lean ====
section
/-! DEFINITION. The meanings of the commands of the show and its cues (R27 to R48). -/

namespace Sys2Proof.Machine

/-- SHOW OPEN (R27). -/
def execShowOpen (s : State) : Host.Outcome State Fault Refusal :=
  request decideShowOpen s

/-- SHOW CLOSE (R28). -/
def execShowClose (s : State) : Host.Outcome State Fault Refusal :=
  request decideShowClose s

/-- GO from the control port (R30). -/
def execGo (s : State) : Host.Outcome State Fault Refusal :=
  request decideControlGo s

/-- STANDBY SET (R38). -/
def execStandbySet (major minor : Nat) (s : State) : Host.Outcome State Fault Refusal :=
  request (decideStandbySet major minor) s

/-- STANDBY NEXT (R39). -/
def execStandbyNext (s : State) : Host.Outcome State Fault Refusal :=
  request (decideMove standbyNext) s

/-- STANDBY BACK (R39). -/
def execStandbyBack (s : State) : Host.Outcome State Fault Refusal :=
  request (decideMove standbyBack) s

/-- A held trigger tick is reached (R41). -/
def execBarTrigger (s : State) : Host.Outcome State Fault Refusal :=
  event barTrigger s

/-- The first follow timer expires (R44). -/
def execFollowTimerExpiry (s : State) : Host.Outcome State Fault Refusal :=
  event followExpiry s

/-- The GO guard expires (R31). -/
def execGoGuardExpiry (s : State) : Host.Outcome State Fault Refusal :=
  event guardExpiry s

end Sys2Proof.Machine
end

