-- ==== Sys2Proof/Machine/ImageCommands.lean ====
section
/-! DEFINITION. The meanings of the commands of the Image Loader's requests and steps (R177 to R183). -/

namespace Sys2Proof.Machine

/-- BOOK LOAD (R179). -/
def execBookLoad (slot : Nat) (s : State) : Host.Outcome State Fault Refusal :=
  request (decideLoad slot) s

/-- BOOK SAVE (R182). -/
def execBookSave (slot : Nat) (s : State) : Host.Outcome State Fault Refusal :=
  request (decideSave slot) s

/-- The header has been read (R179). -/
def execImageHeaderRead (bytes : List Byte) (s : State) : Host.Outcome State Fault Refusal :=
  event (headerRead bytes) s

/-- A body record has been read (R180). -/
def execImageRecordInstall (code : Byte) (length : BitVec 16) (payload : List Byte) (s : State) :
    Host.Outcome State Fault Refusal :=
  event (recordInstall code length payload) s

/-- The body has been read to its end (R180). -/
def execImageBodyEnd (s : State) : Host.Outcome State Fault Refusal :=
  event bodyEnd s

/-- The slot's erase has finished (R182). -/
def execSlotEraseDone (readBack : List Byte) (s : State) : Host.Outcome State Fault Refusal :=
  event (eraseDone readBack) s

/-- The erase has not finished within 30 s (R182). -/
def execEraseTimeout (s : State) : Host.Outcome State Fault Refusal :=
  event eraseTimeout s

/-- A record has been programmed and read back (R182). -/
def execImageRecordWrite (readBack : List Byte) (s : State) : Host.Outcome State Fault Refusal :=
  event (recordWritten readBack) s

/-- A program has not finished within 10 ms (R182). -/
def execProgramTimeout (s : State) : Host.Outcome State Fault Refusal :=
  event programTimeout s

/-- The header has been programmed and read back (R182). -/
def execImageHeaderWrite (readBack : List Byte) (s : State) : Host.Outcome State Fault Refusal :=
  event (headerWritten readBack) s

end Sys2Proof.Machine
end

