-- ==== Sys2Proof/Machine/MediaCommands.lean ====
section
/-! DEFINITION. The meanings of the commands of the Video Switch, the cue pad and the Fault Monitor (R123 to R163). -/

namespace Sys2Proof.Machine

/-- VIDEO SELECT (R143). -/
def execVideoSelect (mode : Nat) (s : State) : Host.Outcome State Fault Refusal :=
  request (decideVideo mode) s

/-- A camera frame begins (R144). -/
def execCameraFrameStart (cam : Camera) (s : State) : Host.Outcome State Fault Refusal :=
  event (frameStart cam) s

/-- A camera frame arrives (R137). -/
def execCameraFrameArrival (cam : Camera) (widths : List Nat) (image : Nat) (s : State) :
    Host.Outcome State Fault Refusal :=
  event (frameArrival cam widths image) s

/-- A camera's signal watch expires (R137). -/
def execSignalWatchExpiry (cam : Camera) (s : State) : Host.Outcome State Fault Refusal :=
  event (signalWatchExpiry cam) s

/-- The failover expiry is reached (R140). -/
def execFailoverExpiry (s : State) : Host.Outcome State Fault Refusal :=
  event failoverExpiry s

/-- An output frame boundary (R139). -/
def execOutputFrameBoundary (s : State) : Host.Outcome State Fault Refusal :=
  event frameBoundary s

/-- PAD RESEED (R135). -/
def execPadReseed (s : State) : Host.Outcome State Fault Refusal :=
  request decideReseed s

/-- A pad line frame arrives (R123, R125). -/
def execPadSample (bytes : List Byte) (s : State) : Host.Outcome State Fault Refusal :=
  event (padFrame bytes) s

/-- The pad-loss watch expires (R134). -/
def execPadLoss (s : State) : Host.Outcome State Fault Refusal :=
  event padLoss s

/-- The hold point is reached (R130). -/
def execHoldPoint (s : State) : Host.Outcome State Fault Refusal :=
  event holdPointReached s

/-- The stop point is reached (R131). -/
def execStopPoint (s : State) : Host.Outcome State Fault Refusal :=
  event stopPointReached s

/-- FAULT SET (R159). -/
def execFaultSet (source window action : Nat) (s : State) : Host.Outcome State Fault Refusal :=
  request (decideFaultSet source window action) s

/-- FAULT READ (R162). -/
def execFaultRead (source : Nat) (s : State) : Host.Outcome State Fault Refusal :=
  request (decideFaultRead source) s

/-- FAULT CLEAR (R161). -/
def execFaultClear (s : State) : Host.Outcome State Fault Refusal :=
  request decideFaultClear s

/-- A sample step (R154). -/
def execFaultSampleStep (s : State) : Host.Outcome State Fault Refusal :=
  event sampleStep s

/-- The arming expiry is reached (R158). -/
def execArmingExpiry (s : State) : Host.Outcome State Fault Refusal :=
  event armingExpiry s

end Sys2Proof.Machine
end

