-- ==== Sys2Proof/Machine/ResetCommands.lean ====
section
/-! DEFINITION. The meanings of the commands of resets and the Control Port's frames (R184 to R189). -/

namespace Sys2Proof.Machine

/-- RESET_N rises (R189). -/
def execPowerOn (boot : Bool) (s : State) : Host.Outcome State Fault Refusal :=
  .next (powerOn boot s)

/-- A transaction's bytes (R184): 5Ah opens a request frame, 96h an answer read, and any other byte changes nothing. -/
def execRequestFrame (bytes : List Byte) (s : State) : Host.Outcome State Fault Refusal :=
  match bytes with
  | b :: rest =>
    if b = 0x5A#8 then request (frameDecision rest) s
    else if b = 0x96#8 then .next (answerRead bytes.length s)
    else .next s
  | [] => .next s

/-- The owning block gives its answer (R186). -/
def execOwnerAnswer (s : State) : Host.Outcome State Fault Refusal :=
  event ownerAnswer s

/-- An answer read that clocks out `count` bytes (R186). -/
def execAnswerRead (count : Nat) (s : State) : Host.Outcome State Fault Refusal :=
  .next (answerRead count s)

/-- STATUS READ (R188). -/
def execStatusRead (part : Nat) (chair : Option Nat) (s : State) : Host.Outcome State Fault Refusal :=
  request (decideStatus part chair) s

/-- EVENT MASK (R187). -/
def execEventMask (mask : BitVec 16) (s : State) : Host.Outcome State Fault Refusal :=
  request (decideMask mask) s

/-- SYSTEM RESET (R189). -/
def execSystemReset (s : State) : Host.Outcome State Fault Refusal :=
  request decideReset s

/-- RESET_N is pulled low (R189). -/
def execResetNAsserted (s : State) : Host.Outcome State Fault Refusal :=
  .next (assertReset s)

end Sys2Proof.Machine
end

