-- ==== Sys2Proof/Machine/Dispatch.lean ====
section
/-! DEFINITION. The meaning of each command, one arm for each constructor. -/

namespace Sys2Proof.Machine

def exec (i : Instr) (s : State) : Host.Outcome State Fault Refusal :=
  match i with
  | .powerOn boot => Sys2Proof.Machine.execPowerOn boot s
  | .requestFrame bytes => Sys2Proof.Machine.execRequestFrame bytes s
  | .ownerAnswer => Sys2Proof.Machine.execOwnerAnswer s
  | .answerRead count => Sys2Proof.Machine.execAnswerRead count s
  | .recordWrite w => Sys2Proof.Machine.execRecordWrite w s
  | .recordRead k => Sys2Proof.Machine.execRecordRead k s
  | .recordRetire k => Sys2Proof.Machine.execRecordRetire k s
  | .cursorSet k => Sys2Proof.Machine.execCursorSet k s
  | .cursorRead => Sys2Proof.Machine.execCursorRead s
  | .bookClear => Sys2Proof.Machine.execBookClear s
  | .bookInfo => Sys2Proof.Machine.execBookInfo s
  | .bookLoad slot => Sys2Proof.Machine.execBookLoad slot s
  | .bookSave slot => Sys2Proof.Machine.execBookSave slot s
  | .castSet role key => Sys2Proof.Machine.execCastSet role key s
  | .songCut song => Sys2Proof.Machine.execSongCut song s
  | .songRestore song => Sys2Proof.Machine.execSongRestore song s
  | .showOpen => Sys2Proof.Machine.execShowOpen s
  | .showClose => Sys2Proof.Machine.execShowClose s
  | .go => Sys2Proof.Machine.execGo s
  | .standbySet major minor => Sys2Proof.Machine.execStandbySet major minor s
  | .standbyNext => Sys2Proof.Machine.execStandbyNext s
  | .standbyBack => Sys2Proof.Machine.execStandbyBack s
  | .vampRelease => Sys2Proof.Machine.execVampRelease s
  | .stop => Sys2Proof.Machine.execStop s
  | .resume major minor bars => Sys2Proof.Machine.execResume major minor bars s
  | .stationSet w => Sys2Proof.Machine.execStationSet w s
  | .rigWrite chair entries => Sys2Proof.Machine.execRigWrite chair entries s
  | .realign chair => Sys2Proof.Machine.execRealign chair s
  | .videoSelect mode => Sys2Proof.Machine.execVideoSelect mode s
  | .faultSet source window action => Sys2Proof.Machine.execFaultSet source window action s
  | .faultRead source => Sys2Proof.Machine.execFaultRead source s
  | .faultClear => Sys2Proof.Machine.execFaultClear s
  | .padReseed => Sys2Proof.Machine.execPadReseed s
  | .statusRead part chair => Sys2Proof.Machine.execStatusRead part chair s
  | .eventMask mask => Sys2Proof.Machine.execEventMask mask s
  | .stopRecordRead => Sys2Proof.Machine.execStopRecordRead s
  | .systemReset => Sys2Proof.Machine.execSystemReset s
  | .beatProduction => Sys2Proof.Machine.execBeatProduction s
  | .songEnd => Sys2Proof.Machine.execSongEnd s
  | .barTrigger => Sys2Proof.Machine.execBarTrigger s
  | .followTimerExpiry => Sys2Proof.Machine.execFollowTimerExpiry s
  | .goGuardExpiry => Sys2Proof.Machine.execGoGuardExpiry s
  | .countInBeat => Sys2Proof.Machine.execCountInBeat s
  | .countInEnd => Sys2Proof.Machine.execCountInEnd s
  | .syncLock => Sys2Proof.Machine.execSyncLock s
  | .syncUnlock => Sys2Proof.Machine.execSyncUnlock s
  | .clickSend c => Sys2Proof.Machine.execClickSend c s
  | .patchTimeout c => Sys2Proof.Machine.execPatchTimeout c s
  | .probePeriod c => Sys2Proof.Machine.execProbePeriod c s
  | .probeLost c => Sys2Proof.Machine.execProbeLost c s
  | .lineActivity c => Sys2Proof.Machine.execLineActivity c s
  | .holdOffExpiry c => Sys2Proof.Machine.execHoldOffExpiry c s
  | .trainFrame c => Sys2Proof.Machine.execTrainFrame c s
  | .trainingTimeout c => Sys2Proof.Machine.execTrainingTimeout c s
  | .silenceTimeout c => Sys2Proof.Machine.execSilenceTimeout c s
  | .leakStep => Sys2Proof.Machine.execLeakStep s
  | .uplinkDamaged c bytes => Sys2Proof.Machine.execUplinkDamaged c bytes s
  | .hello c seq version latency flags => Sys2Proof.Machine.execHello c seq version latency flags s
  | .goPress c seq => Sys2Proof.Machine.execGoPress c seq s
  | .patchAck c seq tag result => Sys2Proof.Machine.execPatchAck c seq tag result s
  | .echo c seq id turnaround => Sys2Proof.Machine.execEcho c seq id turnaround s
  | .idle c seq => Sys2Proof.Machine.execIdle c seq s
  | .downlinkGrant c => Sys2Proof.Machine.execDownlinkGrant c s
  | .cameraFrameStart cam => Sys2Proof.Machine.execCameraFrameStart cam s
  | .cameraFrameArrival cam widths image => Sys2Proof.Machine.execCameraFrameArrival cam widths image s
  | .signalWatchExpiry cam => Sys2Proof.Machine.execSignalWatchExpiry cam s
  | .failoverExpiry => Sys2Proof.Machine.execFailoverExpiry s
  | .outputFrameBoundary => Sys2Proof.Machine.execOutputFrameBoundary s
  | .padSample bytes => Sys2Proof.Machine.execPadSample bytes s
  | .padLoss => Sys2Proof.Machine.execPadLoss s
  | .holdPoint => Sys2Proof.Machine.execHoldPoint s
  | .stopPoint => Sys2Proof.Machine.execStopPoint s
  | .stopInChange active => Sys2Proof.Machine.execStopInChange active s
  | .stopLineDebounce => Sys2Proof.Machine.execStopLineDebounce s
  | .faultSampleStep => Sys2Proof.Machine.execFaultSampleStep s
  | .armingExpiry => Sys2Proof.Machine.execArmingExpiry s
  | .imageHeaderRead bytes => Sys2Proof.Machine.execImageHeaderRead bytes s
  | .imageRecordInstall code length payload => Sys2Proof.Machine.execImageRecordInstall code length payload s
  | .imageBodyEnd => Sys2Proof.Machine.execImageBodyEnd s
  | .slotEraseDone readBack => Sys2Proof.Machine.execSlotEraseDone readBack s
  | .eraseTimeout => Sys2Proof.Machine.execEraseTimeout s
  | .imageRecordWrite readBack => Sys2Proof.Machine.execImageRecordWrite readBack s
  | .programTimeout => Sys2Proof.Machine.execProgramTimeout s
  | .imageHeaderWrite readBack => Sys2Proof.Machine.execImageHeaderWrite readBack s
  | .resetNAsserted => Sys2Proof.Machine.execResetNAsserted s

end Sys2Proof.Machine
end

