-- ==== Sys2Proof/WellFormed.lean ====
section
/-! DEFINITION. The well-formed commands: those whose operands fit the bytes that carry them (R185), or that the outside
world can produce (R114, R136, R177). The ranges that the owning blocks check are not part of this: a well-formed request
may still be answered OUT_OF_RANGE. -/

namespace Sys2Proof

open Machine

/-- A number that `n` bytes carry. -/
def fits (n v : Nat) : Bool := decide (v < 256 ^ n)

/-- A text whose length fits its length byte. -/
def fitsText (t : Text) : Bool := fits 1 t.length

/-- A list whose count fits its count byte and whose entries all fit. -/
def fitsList {α : Type} (f : α → Bool) (l : List α) : Bool := fits 1 l.length && l.all f

/-- A parameter entry. -/
def fitsEntry (e : Entry) : Bool := fits 1 e.device && fits 2 e.code && fits 2 e.value

/-- A trigger. -/
def fitsTrigger : Trigger → Bool
  | .go => true
  | .bar bar beat lead => fits 2 bar && fits 1 beat && fits 1 lead
  | .follow delay => fits 2 delay

/-- A tempo action. -/
def fitsTempo : TempoAction → Bool
  | .start song bar => fits 1 song && fits 2 bar
  | .setTempo value => fits 2 value
  | .hold | .release | .park => true

/-- A vamp action. -/
def fitsVamp : VampAction → Bool
  | .vamp first last => fits 2 first && fits 2 last
  | .exit => true

/-- A station action. -/
def fitsAction (a : ActionWrite) : Bool := fits 1 a.chair && a.patch.all (fits 2) && fits 1 a.click

/-- A song write. -/
def fitsSong (w : SongWrite) : Bool :=
  fits 1 w.number && fitsText w.title && fits 2 w.firstBar && fits 2 w.lastBar && w.keyRole.all (fits 1)

/-- A segment write. -/
def fitsSegment (w : SegmentWrite) : Bool :=
  fits 1 w.song && fits 2 w.startBar && fits 1 w.beatsPerBar && fits 1 w.beatUnit && fits 2 w.startTempo &&
    fits 2 w.endTempo && fits 1 w.ramp && fits 1 w.subdivision && fits 1 w.follow

/-- A patch write. -/
def fitsPatch (w : PatchWrite) : Bool :=
  fits 1 w.chair && fits 2 w.number && fitsList fitsEntry w.base && w.v1.all (fitsList fitsEntry) &&
    w.v2.all (fitsList fitsEntry) && w.v3.all (fitsList fitsEntry)

/-- A cue write. -/
def fitsCue (w : CueWrite) : Bool :=
  fits 2 w.major && fits 1 w.minor && w.song.all (fits 1) && fitsTrigger w.trigger && fits 1 w.mask &&
    fitsList fitsAction w.actions && w.tempo.all fitsTempo && w.vamp.all fitsVamp && w.text.all fitsText

/-- A chair write, with a trim of 16 bits. -/
def fitsChair (w : ChairWrite) : Bool :=
  fits 1 w.chair && fitsText w.label && fits 1 w.enabled && decide (-32768 ≤ w.trim) && decide (w.trim ≤ 32767) &&
    fits 1 w.subClicks && fits 1 w.goRights && fits 1 w.orientation && fits 1 w.placement && fits 1 w.overlay

/-- A settings write. -/
def fitsSettings (w : SettingsWrite) : Bool :=
  fits 2 w.goGuard && fits 2 w.deadband && fits 2 w.maxStep && fits 1 w.band && fits 2 w.width && fits 2 w.height &&
    fits 1 w.rate && fits 2 w.failover && fits 1 w.autoRevert && fits 1 w.houseSync && fits 1 w.touch &&
    fits 1 w.deep && fits 1 w.hysteresis

/-- A record write. -/
def fitsWrite : RecordWrite → Bool
  | .song w => fitsSong w
  | .segment w => fitsSegment w
  | .patch w => fitsPatch w
  | .cue w => fitsCue w
  | .chair w => fitsChair w
  | .role role key => fits 1 role && fits 1 key
  | .settings w => fitsSettings w

/-- A table and key. -/
def fitsKey : RecordKey → Bool
  | .song n => fits 1 n
  | .segment song bar => fits 1 song && fits 2 bar
  | .patch chair n => fits 1 chair && fits 2 n
  | .cue major minor => fits 2 major && fits 1 minor
  | .chair n => fits 1 n
  | .role n => fits 1 n
  | .settings => true

/-- A well-formed command. -/
def wellFormed : Instr → Bool
  | .powerOn _ | .ownerAnswer | .cursorRead | .bookClear | .bookInfo | .showOpen | .showClose | .go | .standbyNext
  | .standbyBack | .vampRelease | .stop | .faultClear | .padReseed | .stopRecordRead | .systemReset | .eventMask _ => true
  | .beatProduction | .songEnd | .barTrigger | .followTimerExpiry | .goGuardExpiry | .countInBeat | .countInEnd
  | .syncLock | .syncUnlock | .leakStep | .failoverExpiry | .outputFrameBoundary | .padLoss | .holdPoint | .stopPoint
  | .stopLineDebounce | .faultSampleStep | .armingExpiry | .imageBodyEnd | .eraseTimeout | .programTimeout
  | .resetNAsserted => true
  | .clickSend _ | .patchTimeout _ | .probePeriod _ | .probeLost _ | .lineActivity _ | .holdOffExpiry _ | .trainFrame _
  | .trainingTimeout _ | .silenceTimeout _ | .downlinkGrant _ | .cameraFrameStart _ | .signalWatchExpiry _
  | .stopInChange _ | .slotEraseDone _ => true
  | .hello _ _ _ _ _ | .goPress _ _ | .patchAck _ _ _ _ | .echo _ _ _ _ | .idle _ _ => true
  | .requestFrame bytes => !bytes.isEmpty
  | .answerRead count => decide (1 ≤ count)
  | .recordWrite w => fitsWrite w
  | .recordRead k => fitsKey k
  | .recordRetire k => fitsKey k
  | .cursorSet k => fitsKey k
  | .bookLoad slot => fits 1 slot
  | .bookSave slot => fits 1 slot
  | .castSet role key => fits 1 role && fits 1 key
  | .songCut song => fits 1 song
  | .songRestore song => fits 1 song
  | .standbySet major minor => fits 2 major && fits 1 minor
  | .resume major minor bars => fits 2 major && fits 1 minor && fits 1 bars
  | .stationSet w => fitsChair w
  | .rigWrite chair entries => fits 1 chair && fitsList fitsEntry entries
  | .realign chair => fits 1 chair
  | .videoSelect mode => fits 1 mode
  | .faultSet source window action => fits 1 source && fits 1 window && fits 1 action
  | .faultRead source => fits 1 source
  | .statusRead part chair =>
    fits 1 part && decide (part = 3 ↔ chair.isSome = true) && chair.all (fits 1)
  | .uplinkDamaged _ bytes =>
    match checkUplink bytes with
    | .passed _ _ => false
    | .crcError | .formatError => true
  | .cameraFrameArrival _ widths _ => !widths.isEmpty
  | .padSample bytes => !bytes.isEmpty
  | .imageHeaderRead bytes => decide (bytes.length = 30)
  | .imageRecordInstall _ length payload => decide (payload.length = length.toNat)
  | .imageRecordWrite _ | .imageHeaderWrite _ => true

end Sys2Proof
end

