-- ==== Sys2Proof/Safety.lean ====
section
/-! DEFINITION. The vocabulary of the statements: when a request frame is taken and what the port then owes, when a timed
step is due, and the invariants of the block. -/

namespace Sys2Proof.Machine

/-! ## Requests at the port (R186) -/

/-- A request frame is taken: RESET_N is high and the port is not WORKING. -/
abbrev State.accepts (s : State) : Prop := s.resetHeld = false ∧ s.port.state ≠ .working

/-- The state in which the owner decides a request whose frame has been taken. -/
def State.taking (s : State) : State := { s with port := { s.port with state := .working, buffer := none } }

/-- The state in which the owner has decided an answer and owes it. -/
def owing (a : Answer) (s : State) : State := { s with port := { s.port with owed := some a } }

/-- The command is a request of section 12.3. -/
def isRequest (i : Instr) : Bool := (decisionOf i).isSome

/-! ## Fires (R30 to R35, R41, R44, R46) -/

/-- The command fires the cue in `s`: a GO of kind CONTROL that finds it held or standing by, or the first held BAR trigger
or follow timer once reached, with the cue still PENDING and as its trigger or timer takes it (R30, R41, R44, R45). -/
def State.firesBy (s : State) (i : Instr) (n : CueNumber) (c : Cue) : Prop :=
  (i = .go ∧ s.port.state ≠ .working ∧ s.stop.state = .clear ∧ s.cue.guard = none ∧
    ((s.cue.held = some n ∧ s.runState n = .pending) ∨
      (s.cue.held = none ∧ s.cue.standby = some n ∧ c.trigger = .go ∧ c.mask.control = true))) ∨
  (i = .barTrigger ∧ s.runState n = .pending ∧ ∃ (x : BarTrigger) (rest : List BarTrigger) (lead : Nat),
    s.cue.triggers = x :: rest ∧ x.cue = n ∧ tickReached s.time.tick x.tick = true ∧
      s.currentSong = some x.pos.song ∧ c.song = some x.pos.song ∧ c.trigger = .bar x.pos.bar x.pos.beat lead) ∨
  (i = .followTimerExpiry ∧ s.runState n = .pending ∧ s.stop.state ≠ .stopped ∧
    ∃ (x : FollowTimer) (rest : List FollowTimer) (delay : Nat),
      s.cue.timers = x :: rest ∧ x.cue = n ∧ tickReached s.time.tick x.expiry = true ∧ c.trigger = .follow delay)

/-- The BAR triggers that stand beside the fire that `i` makes: a trigger that fires its cue has left the list (R41). -/
def State.otherTriggers (s : State) (i : Instr) : List BarTrigger :=
  if i = .barTrigger then s.cue.triggers.tail else s.cue.triggers

/-- The follow timers that stand beside the fire that `i` makes: a timer that fires its cue has left the list (R44). -/
def State.otherTimers (s : State) (i : Instr) : List FollowTimer :=
  if i = .followTimerExpiry then s.cue.timers.tail else s.cue.timers

/-- The cue may fire and its fire hands no patch to a chair; each chair has at most one of its actions (R14, R25). -/
structure State.firesNoPatch (s : State) (n : CueNumber) (c : Cue) : Prop where
  isOpen : s.cue.isOpen = true
  record : s.book.cue? n = some c
  entry : (s.cue.entry? n).isSome = true
  slots : s.slotHolds n = false
  patches : ∀ a ∈ c.actions, a.patch = none
  chairs : c.actions.Pairwise fun a b => a.chair ≠ b.chair

/-- The cue's fire hands nothing to the Tempo Clock and no patch to a chair, and no FOLLOW cue stands next: its whole
effect is its own completion, its click actions and what is shown of it. -/
structure State.firesPlainly (s : State) (n : CueNumber) (c : Cue) : Prop extends s.firesNoPatch n c where
  tempo : c.tempo = none
  vamp : c.vamp = none
  next : ∀ d : Cue, s.cueAfter n = some d → d.isFollow = false

/-- From `s` to `t` the cue, which hands no patch, has fired and no other has fired after it: it is the last fired cue and
COMPLETE, its completion record tells of no request, its click actions have set their chairs' enables and no other, and
no block has changed that a cue hands nothing to. -/
structure State.fired (s t : State) (n : CueNumber) (c : Cue) : Prop where
  lastFired : t.cue.lastFired = some n
  complete : t.runState n = .complete
  completion : t.cue.completion = some { cue := n, requests := 0, failed := 0 }
  shown : t.overlay.lastCue = some (n, c.text)
  enables : ∀ a ∈ c.actions, t.clicks[a.chair].enable =
    if a.click = .on then true else if a.click = .off then false else s.clicks[a.chair].enable
  others : ∀ chair : Chair, (∀ a ∈ c.actions, a.chair ≠ chair) → t.clicks[chair].enable = s.clicks[chair].enable
  frame : t = { s with
    cue := t.cue, clock := t.clock, overlay := t.overlay, clicks := t.clicks, due := t.due, links := t.links
    port := t.port }

/-- From `s` to `t` the cue has fired plainly: both flags of it are set, and of the clicks only the enables of its actions'
chairs change. -/
structure State.firedPlainly (s t : State) (n : CueNumber) (c : Cue) : Prop extends s.fired t n c where
  flags : t.port.flags = s.port.flags ||| EventFlag.cueDone.bit ||| EventFlag.cueFired.bit
  clicks : ∀ chair : Chair, t.clicks[chair] = { s.clicks[chair] with enable := t.clicks[chair].enable }
  quiet : t = { s with cue := t.cue, overlay := t.overlay, clicks := t.clicks, port := t.port }

/-! ## The clock's walk and its actions (R40, R56, R67 to R69) -/

/-- After the beat at a position, with a vamp region in force or none, comes a position, or none where the song ends, with
a vamp region in force or none (R56, R68). `b.beatsIn` is the beats per bar of the segment that governs the bar. -/
inductive Book.Follows (b : Book) : SongPos → Option Vamp → Option SongPos → Option Vamp → Prop where
  /-- Within the bar. -/
  | within (pos : SongPos) (v : Option Vamp) :
      pos.beat < b.beatsIn pos.song pos.bar → Follows b pos v (some { pos with beat := pos.beat + 1 }) v
  /-- The next bar. -/
  | nextBar (pos : SongPos) (v : Option Vamp) (r : Song) :
      b.beatsIn pos.song pos.bar ≤ pos.beat → (∀ w : Vamp, v = some w → w.last ≠ pos.bar) →
      b.song? pos.song = some r → pos.bar < r.lastBar →
      Follows b pos v (some { pos with bar := pos.bar + 1, beat := 1 }) v
  /-- The last beat of the song. -/
  | songEnd (pos : SongPos) (v : Option Vamp) (r : Song) :
      b.beatsIn pos.song pos.bar ≤ pos.beat → (∀ w : Vamp, v = some w → w.last ≠ pos.bar) →
      b.song? pos.song = some r → r.lastBar ≤ pos.bar → Follows b pos v none v
  /-- The region turns, and its next pass begins. -/
  | turn (pos : SongPos) (w : Vamp) :
      b.beatsIn pos.song pos.bar ≤ pos.beat → w.last = pos.bar → w.exit ≠ some w.pass →
      Follows b pos (some w) (some { pos with bar := w.first, beat := 1 })
        (some { w with pass := bump w.pass, mark := false })
  /-- The region is left. -/
  | leave (pos : SongPos) (w : Vamp) (r : Song) :
      b.beatsIn pos.song pos.bar ≤ pos.beat → w.last = pos.bar → w.exit = some w.pass →
      b.song? pos.song = some r → pos.bar < r.lastBar →
      Follows b pos (some w) (some { pos with bar := pos.bar + 1, beat := 1 }) none
  /-- The region is left where the song ends. -/
  | leaveAtEnd (pos : SongPos) (w : Vamp) (r : Song) :
      b.beatsIn pos.song pos.bar ≤ pos.beat → w.last = pos.bar → w.exit = some w.pass →
      b.song? pos.song = some r → r.lastBar ≤ pos.bar → Follows b pos (some w) none (some w)

/-- The announcement of the beat at a position, of tick `tick` and with the vamp region `v` in force or none, makes the
trigger `x` of the BAR cue `d` (R40): the cue is PENDING and falls on the beat, which is not of a later pass. -/
structure State.announces (s : State) (v : Option Vamp) (pos : SongPos) (tick : Tick) (d : Cue) (x : BarTrigger) : Prop where
  present : d ∈ s.book.cues
  pending : s.runState d.number = .pending
  firstPass : ∀ w : Vamp, v = some w → w.first ≤ pos.bar → pos.bar ≤ w.last → w.pass < 2
  falls : ∃ beat lead : Nat, d.trigger = .bar pos.bar beat lead ∧ d.song = some pos.song ∧
    (beat = pos.beat ∨ (s.book.beatsIn pos.song pos.bar ≤ pos.beat ∧ pos.beat < beat)) ∧
    x = { cue := d.number, tick := tick - BitVec.ofNat 32 (48 * lead), pos := pos
          lastOfBar := decide (s.book.beatsIn pos.song pos.bar ≤ pos.beat) }

/-- The announced beat `b` is produced with the tempo `tempo`, and the beat after it falls at `sub` (R54, R55): the mapped
tempo of the beat, the override and the follow adjustment dropped where it crosses into another segment, and kept where
not (R60, R61, R64). -/
structure State.timesBeat (s : State) (b : NextBeat) (tempo : Nat) (sub : SubTick) : Prop where
  crossing : ∀ old : SongPos, s.clock.pos = some old → s.book.segmentStart old ≠ s.book.segmentStart b.pos →
    tempo = s.book.mappedTempo none b.pos
  mapped : (∀ old : SongPos, s.clock.pos = some old → s.book.segmentStart old = s.book.segmentStart b.pos) →
    s.clock.adjust = none → tempo = s.book.mappedTempo s.clock.override b.pos
  adjusted : (∀ old : SongPos, s.clock.pos = some old → s.book.segmentStart old = s.book.segmentStart b.pos) →
    ∀ f m span : Nat, s.clock.adjust = some f → m = s.book.mappedTempo s.clock.override b.pos →
      span = m * s.book.settings.band / 1000 →
      tempo = clampNat 2000 30000 (clampNat (m - span) (m + span) f)
  interval : sub = b.sub + BitVec.ofNat 40 ((73728000000 + tempo / 2) / tempo)

/-- The clock's record of a beat produced at `b` with `tempo`, before what follows it (R55, R64, R68): the position and its
sub-tick position, no announced beat, the region's last-bar downbeat mark, and override, adjustment and tap series dropped
where the beat crosses into another segment. -/
def State.producing (s : State) (b : NextBeat) (tempo : Nat) : Clock :=
  let crosses := s.clock.pos.any fun old => decide (s.book.segmentStart old ≠ s.book.segmentStart b.pos)
  { s.clock with
    pos := some b.pos, p := b.sub, next := none, tempo := tempo
    vamp := s.clock.vamp.map fun w =>
      { w with mark := w.mark || (decide (w.last = b.pos.bar) && decide (b.pos.beat = 1)) }
    override := if crosses then none else s.clock.override
    adjust := if crosses then none else s.clock.adjust
    tapOnset := if crosses then none else s.clock.tapOnset
    taps := if crosses then [] else s.clock.taps }

/-- A VAMP over the bars `first` to `last` applies to the clock (R67). -/
def Clock.mayVamp (k : Clock) (b : Book) (first last : Nat) : Prop :=
  (k.state = .playing ∨ k.state = .vamping ∨ k.state = .held ∨ k.state = .counting) ∧
    ∃ (pos : SongPos) (r : Song), k.pos = some pos ∧ b.song? pos.song = some r ∧
      r.firstBar ≤ first ∧ first ≤ r.lastBar ∧ r.firstBar ≤ last ∧ last ≤ r.lastBar ∧ pos.bar ≤ last ∧
      ∀ n : NextBeat, k.next = some n → n.pos.bar ≤ last

/-- From `k` to `k'` the clock has taken a cue's vamp action, or none: a VAMP that applies sets its region (R67), and a VAMP
EXIT sets the exit pass of a region in VAMPING or HELD that has none (R69); each is dropped otherwise. -/
def Clock.takesVamp (k : Clock) (b : Book) (v : Option VampAction) (k' : Clock) : Prop :=
  (v = none → k' = k) ∧
  (∀ first last : Nat, v = some (.vamp first last) →
    (k.mayVamp b first last → k' = { k with
      state := if k.state = .playing then .vamping else k.state
      vamp := some { first := first, last := last, pass := 1, mark := k.pos.any fun p => decide (p.bar = last)
                     exit := none } }) ∧
    (¬k.mayVamp b first last → k' = k)) ∧
  (v = some .exit →
    (∀ w : Vamp, k.state = .vamping ∨ k.state = .held → k.vamp = some w → w.exit = none →
      k' = { k with vamp := some { w with exit := some (if w.mark then w.pass + 1 else w.pass) } }) ∧
    ((k.state ≠ .vamping ∧ k.state ≠ .held) ∨ (∀ w : Vamp, k.vamp = some w → w.exit ≠ none) → k' = k))

/-! ## Clicks handed over and withdrawn (R58, R75, R77 to R80) -/

/-- The chair receives the click at its send tick (R79). -/
abbrev State.receives (s : State) (c : Chair) (k : Click) : Prop :=
  s.cue.isOpen = true ∧ s.stop.state ≠ .stopped ∧ s.book.chairs[c].enabled = true ∧ s.links[c].state = .locked ∧
    s.clicks[c].enable = true ∧ (k.cls = .sub → s.book.chairs[c].subClicks = true)

/-- A part of the click for the chair has its send tick, the click tick less the advance, reached already (R77, R80). -/
abbrev State.late (s : State) (c : Chair) (k : Click) : Prop :=
  tickReached s.time.tick (k.tick - BitVec.ofNat 32 s.clicks[c].advance) = true

/-- The item that the click makes in the due list as it is handed over (R77, R80): a chair's part is WAITING for its send
tick, or is HANDED or DONE at once where that is reached. -/
def State.makesItem (s : State) (k : Click) (i : DueItem) : Prop :=
  i.click = k ∧ ∀ c : Chair, i.parts[c] = {
    send := k.tick - BitVec.ofNat 32 s.clicks[c].advance
    state := if s.late c k then (if s.receives c k then .handed else .done) else .waiting }

/-- From `s` to `t` the items whose clicks `gone` names have been withdrawn, and then the clicks of `l` handed over, each
in its turn: the links give back the withdrawn messages and take those of the parts that are late, and the list stays in
order of click tick where it was (R77, R78, R80). Which clicks a withdrawal names is said where it is used. -/
structure State.handsOver (s t : State) (gone : Click → Bool) (l : List Click) : Prop where
  items : ∃ item : Click → DueItem, (∀ k ∈ l, t.makesItem k (item k)) ∧
    t.due.Perm ((s.due.filter fun i => !gone i.click) ++
      (l.map item).filter fun i => i.parts.toList.any fun p => decide (p.state ≠ .done))
  order : (∀ k : Click, (k ∈ l ∨ ∃ i ∈ s.due, i.click = k) → (k.tick - t.time.tick).toInt.natAbs < 1073741824) →
    s.due.Pairwise (fun x y => (x.click.tick - t.time.tick).toInt ≤ (y.click.tick - t.time.tick).toInt) →
    t.due.Pairwise (fun x y => (x.click.tick - t.time.tick).toInt ≤ (y.click.tick - t.time.tick).toInt)
  queues : ∀ c : Chair, t.links[c].clickQueue =
    (s.links[c].clickQueue.filter fun k => !(gone k && s.due.any fun i => decide (i.click = k))) ++
      l.filter fun k => decide (t.late c k ∧ t.receives c k)

/-- The click belongs to the beats that the clock abandons (R58, R72, R78; log 21): it is not reached yet, or it is the
announced beat's own. -/
def State.abandons (s : State) (k : Click) : Bool :=
  !tickReached s.time.tick k.tick || s.clock.next.any fun b => decide (k.tick = tickOfSub b.sub ∧ k.cls ≠ .sub)

/-- The click of a song beat (R55, R77). -/
def songBeatClick (pos : SongPos) (tick : Tick) (tempo : Nat) : Click :=
  { cls := if pos.beat = 1 then .downbeat else .beat, bar := pos.bar, beat := pos.beat, sub := 0, tempo := tempo
    tick := tick }

/-- The clicks that the production of the beat `b` with `tempo` hands over (R55, R58, R77): its sub-clicks, and the beat at
`onward`, at `sub`, where one follows. -/
def Book.clicksAfter (book : Book) (b : NextBeat) (tempo : Nat) (sub : SubTick) (onward : Option SongPos) : List Click :=
  ((List.range (book.subdivisionIn b.pos.song b.pos.bar - 1)).map fun j =>
    { cls := .sub, bar := b.pos.bar, beat := b.pos.beat, sub := j + 1, tempo := tempo
      tick := tickOfSub (b.sub + BitVec.ofNat 40
        ((j + 1) * ((73728000000 + tempo / 2) / tempo) / book.subdivisionIn b.pos.song b.pos.bar)) }) ++
  onward.toList.map fun pos => songBeatClick pos (tickOfSub sub) tempo

/-- The click of the count-in beat of an index from 0 (R74, R75). -/
def CountIn.click (k : CountIn) (tempo index : Nat) : Click :=
  { cls := .countIn, bar := index / k.perBar + 1, beat := index % k.perBar + 1, sub := 0, tempo := tempo
    tick := tickOfSub (k.first + BitVec.ofNat 40 (index * k.interval)) }

/-! ## Checks of the book (R3, R14, R180) -/

/-- Every record that the cue names is in the book (R14). -/
structure Book.holdsNamed (b : Book) (c : Cue) : Prop where
  song : ∀ n : Nat, c.song = some n → b.song? n ≠ none
  start : ∀ n bar : Nat, c.tempo = some (.start n bar) → b.song? n ≠ none
  patches : ∀ a ∈ c.actions, ∀ n : Nat, a.patch = some n → b.patch? a.chair n ≠ none

/-- The cue's fields make a valid record (R14): one action per chair, a BAR and a START bar inside their songs, a GO mask
that is not empty, and a VAMP whose bars are in order. -/
structure Book.validCue (b : Book) (c : Cue) : Prop where
  chairs : c.actions.Pairwise fun x y => x.chair ≠ y.chair
  bar : ∀ bar beat lead : Nat, c.trigger = .bar bar beat lead →
    ∃ (n : Nat) (r : Song), c.song = some n ∧ b.song? n = some r ∧ r.firstBar ≤ bar ∧ bar ≤ r.lastBar
  start : ∀ n bar : Nat, c.tempo = some (.start n bar) →
    ∃ r : Song, b.song? n = some r ∧ r.firstBar ≤ bar ∧ bar ≤ r.lastBar
  mask : c.trigger = .go → c.mask.pad = true ∨ c.mask.control = true ∨ c.mask.chair = true
  vamp : ∀ first last : Nat, c.vamp = some (.vamp first last) → first ≤ last

/-- The cue's own song is in the book and CUT (R1, R27). -/
def Book.ofCutSong (b : Book) (c : Cue) : Prop :=
  ∃ (n : Nat) (r : Song), c.song = some n ∧ b.song? n = some r ∧ r.running = .cut

/-- A write of the segment would alter the tempo, meter or subdivision of the beats under way (R3): with the clock in a
song, it amends the segment in force, or creates one that starts after it and at or before the current bar. -/
def State.altersTheBeatsUnderWay (s : State) (g : Segment) : Prop :=
  s.clock.state ≠ .parked ∧ ∃ (pos : SongPos) (f : Segment),
    s.clock.pos = some pos ∧ s.book.governing? pos.song pos.bar = some f ∧ g.song = pos.song ∧
      ((s.book.segment? g.song g.startBar ≠ none ∧ g.startBar = f.startBar) ∨
        (s.book.segment? g.song g.startBar = none ∧ f.startBar < g.startBar ∧ g.startBar ≤ pos.bar))

/-- The bytes of a song, segment, patch or cue record begin with a key that the book holds (R177, R180). -/
def Book.holdsKeyOf (b : Book) (t : Table) (payload : List Byte) : Prop :=
  (t = .songs ∧ ∃ (n : Byte) (rest : List Byte), payload = n :: rest ∧ b.song? n.toNat ≠ none) ∨
  (t = .segments ∧ ∃ (n hi lo : Byte) (rest : List Byte), payload = n :: hi :: lo :: rest ∧
    b.segment? n.toNat (hi.toNat * 256 + lo.toNat) ≠ none) ∨
  (t = .patches ∧ ∃ (c : Chair) (hi lo : Byte) (rest : List Byte),
    payload = BitVec.ofNat 8 (c.val + 1) :: hi :: lo :: rest ∧ b.patch? c (hi.toNat * 256 + lo.toNat) ≠ none) ∨
  (t = .cues ∧ ∃ (hi lo minor : Byte) (rest : List Byte), payload = hi :: lo :: minor :: rest ∧
    b.cue? { major := hi.toNat * 256 + lo.toNat, minor := minor.toNat } ≠ none)

/-- The bytes are those of a whole record of the table in a body (R177): a RECORD WRITE's fields, a song's with its running
flag's byte after them, and the settings' with the class and action bytes of the 70 fault sources. -/
inductive EncodesRecord : Table → List Byte → Prop where
  | fields (w : RecordWrite) : wellFormed (.recordWrite w) = true → writeTable w ≠ .songs → writeTable w ≠ .settings →
      EncodesRecord (writeTable w) (putFields w)
  | song (w : SongWrite) (flag : Byte) : wellFormed (.recordWrite (.song w)) = true →
      EncodesRecord .songs (putFields (.song w) ++ [flag])
  | settings (w : SettingsWrite) (faults : List (Byte × Byte)) : wellFormed (.recordWrite (.settings w)) = true →
      faults.length = 70 →
      EncodesRecord .settings (putFields (.settings w) ++ faults.flatMap fun p => [p.1, p.2])

/-- A record of a known table breaks the body's structure (R180): its table stands before one already met, its count is
reached, its length runs past the end of the body, or its key was installed before. -/
def State.breaksStructure (s : State) (h : ImageHeader) (t : Table) (length : Nat) (payload : List Byte) : Prop :=
  tableCode t < s.loader.lastTable ∨ h.count t ≤ s.loader.metOf t ∨ h.bodyLength < s.loader.bodyPos + 3 + length ∨
    s.book.holdsKeyOf t payload

/-! ## A resume (R47, R170 to R172) -/

/-- A RESUME at the cue `n` with `bars` of count-in passes its checks and finds the cue `c` (R169); no request of a cue
waits in a pending slot, where a restore would supersede it, and the cue list has each number once, with a run entry. -/
structure State.resumes (s : State) (n : CueNumber) (c : Cue) (bars : Nat) : Prop where
  taken : s.accepts
  isOpen : s.cue.isOpen = true
  stopped : s.stop.state = .stopped
  line : s.stop.held.line = false
  fault : s.stop.held.fault = false
  range : n.inRange = true
  bars : bars ≤ 4
  record : s.book.cue? n = some c
  notCut : ¬s.book.ofCutSong c
  noCueWaits : ∀ (chair : Chair) (m : CueNumber) (sel : PatchSel), s.patch[chair].waiting ≠ some (.cue m false sel)
  once : s.book.cues.Pairwise fun x y => x.number ≠ y.number
  entries : ∀ d ∈ s.book.cues, (s.cue.entry? d.number).isSome = true

/-- From `s` to `t` the run states are rewritten about the resume cue `n`, and the click enables reconstructed (R47, R172). -/
structure State.rewritten (s t : State) (n : CueNumber) : Prop where
  lastFired : t.cue.lastFired = ((s.book.cues.filter fun d => d.number.before n).getLast?).map (·.number)
  timers : t.cue.timers = []
  guard : t.cue.guard = none
  standby : t.cue.standby = ((s.book.cues.filter fun d =>
    decide (d.trigger = .go) && !d.number.before n && !s.book.cueCut d &&
      decide (s.runState d.number ≠ .firing)).map (·.number)).head?
  runs : ∀ d ∈ s.book.cues, t.runState d.number =
    if s.runState d.number = .firing then .firing
    else if s.book.cueCut d then .passed
    else if d.number.before n then (if s.runState d.number = .complete then .complete else .passed)
    else if t.cue.standby = some d.number then .standby
    else .pending
  marks : ∀ d ∈ s.book.cues, ∀ e : RunEntry, s.cue.entry? d.number = some e → e.state = .firing →
    t.cue.entry? d.number = some { e with
      mark := some (if s.book.cueCut d then .passed else if d.number.before n then .complete else .pending) }
  enables : ∀ chair : Chair, t.clicks[chair].enable =
    if s.book.chairs[chair].enabled then
      (((s.book.cues.filter fun d => d.number.before n && !s.book.cueCut d).filterMap
        (·.clickFor chair)).getLast?).getD true
    else s.clicks[chair].enable

/-- The cue `e` is the chair's reconstruction cue of a resume at `n`, and names the patch `p` for it (R171). -/
def State.reconstructs (s : State) (n : CueNumber) (chair : Chair) (e : Cue) (p : Nat) : Prop :=
  (s.book.cues.filter fun d => d.number.before n && !s.book.cueCut d && (d.patchFor chair).isSome).getLast? = some e ∧
    e.patchFor chair = some p

/-- From `s` to `t` the chair's patch is reconstructed for a resume at `n` (R171): a RESTORE of the reconstruction cue's
patch is taken unless the idle chair holds it already, and is sent, waits, or supersedes what waits (R93, R95). A disabled
chair, and one with no reconstruction cue, keeps its requests. -/
structure State.restored (s t : State) (n : CueNumber) (chair : Chair) : Prop where
  kept : s.book.chairs[chair].enabled = false ∨
      (∀ d ∈ s.book.cues, d.number.before n = true → ¬s.book.ofCutSong d → d.patchFor chair = none) →
    t.patch[chair] = s.patch[chair] ∧ t.links[chair].patchMsg = s.links[chair].patchMsg
  variant : ∀ (e : Cue) (p role : Nat) (r : Song) (i : Fin 32) (q : Patch), s.reconstructs n chair e p →
    e.song.bind s.book.song? = some r → r.keyRole = some role → role = i.val + 1 → s.book.patch? chair p = some q →
    s.variantFor e chair p = if q.hasList s.book.roles[i] then s.book.roles[i] else .base
  base : ∀ (e : Cue) (p : Nat), s.reconstructs n chair e p → e.song = none → s.variantFor e chair p = .base
  request : s.book.chairs[chair].enabled = true → ∀ (e : Cue) (p : Nat) (sel : PatchSel), s.reconstructs n chair e p →
    sel = { number := p, variant := s.variantFor e chair p } →
    (s.patch[chair].flight = none → s.patch[chair].waiting = none →
      (s.patch[chair].confirmed = .patch sel →
        t.patch[chair] = s.patch[chair] ∧ t.links[chair].patchMsg = s.links[chair].patchMsg) ∧
      (s.patch[chair].confirmed ≠ .patch sel → s.links[chair].state = .locked →
        ∀ q : Patch, s.book.patch? chair p = some q →
          t.patch[chair] = { s.patch[chair] with
            target := some sel, tag := s.patch[chair].tag + 1#8
            flight := some { req := .restore sel, tag := s.patch[chair].tag + 1#8, expiry := s.time.tick + 1920#32
                             retired := false }
            counts := { s.patch[chair].counts with sent := bump s.patch[chair].counts.sent } } ∧
          t.links[chair].patchMsg = some { tag := s.patch[chair].tag + 1#8, entries := q.list sel.variant })) ∧
    (s.patch[chair].waiting = none →
      s.patch[chair].flight ≠ none ∨ (s.patch[chair].confirmed ≠ .patch sel ∧ s.links[chair].state ≠ .locked) →
      t.patch[chair] = { s.patch[chair] with target := some sel, waiting := some (.restore sel) } ∧
        t.links[chair].patchMsg = s.links[chair].patchMsg) ∧
    ∀ q : PatchReq, s.patch[chair].waiting = some q →
      t.patch[chair] = { s.patch[chair] with
        target := some sel, waiting := some (.restore sel), last := some (q.kind, .superseded)
        adhoc := if q = .adHoc then [] else s.patch[chair].adhoc
        counts := { s.patch[chair].counts with superseded := bump s.patch[chair].counts.superseded } } ∧
      t.links[chair].patchMsg = s.links[chair].patchMsg

/-! ## Touches and contacts (R126 to R129, R132, R133) -/

/-- The count stands at or above the electrode's baseline by the threshold of the fraction (R126). -/
def Electrode.reaches (e : Electrode) (fraction count : Nat) : Prop :=
  e.b16 / 16 + max 1 (e.b16 / 16 * fraction / 256) ≤ count

/-- The electrode is idle and stays so at a sample of this count (R126). -/
def Electrode.rests (e : Electrode) (set : Settings) (count : Nat) : Prop :=
  e.level = .idle ∧ ¬e.reaches set.touch count

/-- A touch begins on the electrode at a sample of this count (R126). -/
def Electrode.begins (e : Electrode) (set : Settings) (count : Nat) : Prop :=
  e.level = .idle ∧ e.reaches set.touch count

/-- The electrode's touch has lasted more than 20 s at a sample of this tick (R133). -/
def Electrode.overstays (e : Electrode) (tick : Tick) : Prop :=
  e.level ≠ .idle ∧ ∃ onset : Tick, e.onset = some onset ∧ 960000 < (tick - onset).toNat

/-- The electrode's touch, not too long, goes on at a sample of this tick and count (R126). -/
def Electrode.lasts (e : Electrode) (set : Settings) (tick : Tick) (count : Nat) : Prop :=
  e.level ≠ .idle ∧ ¬e.overstays tick ∧ e.reaches (set.touch - set.hysteresis) count

/-- The electrode's touch, not too long, ends at a sample of this tick and count (R126). -/
def Electrode.lifts (e : Electrode) (set : Settings) (tick : Tick) (count : Nat) : Prop :=
  e.level ≠ .idle ∧ ¬e.overstays tick ∧ ¬e.reaches (set.touch - set.hysteresis) count

/-- The contact is cancelled at a tick (R128). -/
def Contact.cancelledAt (k : Contact) (tick : Tick) : Contact :=
  { k with release := some tick, duration := (tick - k.onset).toNat, outcome := some .cancelled }

/-- A contact that gave neither a hold nor a stop press and ends at a tick has the outcome given (R129, R132). -/
inductive Contact.Gives (k : Contact) (tick : Tick) : ContactOutcome → Prop where
  | goTap (v : Visit) : k.overflow = false → k.visits = [v] → (tick - k.onset).toNat ≤ 14400 → v.zone = 1 → Gives k tick .go
  | tempoTap (v : Visit) :
      k.overflow = false → k.visits = [v] → (tick - k.onset).toNat ≤ 14400 → v.zone = 2 → Gives k tick .tempoTap
  | tap (v : Visit) :
      k.overflow = false → k.visits = [v] → (tick - k.onset).toNat ≤ 14400 → v.zone = 3 ∨ v.zone = 4 → Gives k tick .tap
  | next (v : Visit) :
      k.overflow = false → 3 ≤ k.visits.length → k.visits.getLast? = some v → (v.onset - k.onset).toNat ≤ 19200 →
      (∀ (before after : List Visit) (x y : Visit), k.visits = before ++ x :: y :: after → y.zone.val = x.zone.val + 1) →
      Gives k tick .next
  | back (v : Visit) :
      k.overflow = false → 3 ≤ k.visits.length → k.visits.getLast? = some v → (v.onset - k.onset).toNat ≤ 19200 →
      (∀ (before after : List Visit) (x y : Visit), k.visits = before ++ x :: y :: after → x.zone.val = y.zone.val + 1) →
      Gives k tick .back
  | overflowed : k.overflow = true → Gives k tick .none
  | long (v : Visit) : k.visits = [v] → 14400 < (tick - k.onset).toNat → Gives k tick .none
  | two (v w : Visit) : k.visits = [v, w] → Gives k tick .none
  | slow (v : Visit) :
      3 ≤ k.visits.length → k.visits.getLast? = some v → 19200 < (v.onset - k.onset).toNat → Gives k tick .none
  | turns (before after b a : List Visit) (x y v w : Visit) :
      3 ≤ k.visits.length → k.visits = before ++ x :: y :: after → y.zone.val ≠ x.zone.val + 1 →
      k.visits = b ++ v :: w :: a → v.zone.val ≠ w.zone.val + 1 → Gives k tick .none

/-- From `u` to `t` a GO of kind PAD has been decided (R30): nothing with the show closed; ignored and counted in a stop,
with the guard running, with no standby, and where the standby's mask has no PAD; and else a fire, here of a cue that
hands nothing on. -/
structure State.padGo (u t : State) : Prop where
  closed : u.cue.isOpen = false → t = u
  ignored : u.cue.isOpen = true →
    (u.stop.state ≠ .clear ∨ u.cue.guard ≠ none ∨
      (u.cue.held = none ∧
        (u.cue.standby = none ∨
          ∃ (n : CueNumber) (c : Cue), u.cue.standby = some n ∧ u.book.cue? n = some c ∧ c.mask.pad = false))) →
    t = { u with
      cue := { u.cue with ignoredPad := bump u.cue.ignoredPad }
      port := { u.port with flags := u.port.flags ||| EventFlag.goIgnored.bit } }
  fires : ∀ (n : CueNumber) (c : Cue), u.stop.state = .clear → u.cue.guard = none → u.firesPlainly n c →
    u.cue.held = some n ∨ (u.cue.held = none ∧ u.cue.standby = some n ∧ c.trigger = .go ∧ c.mask.pad = true) →
    u.firedPlainly t n c

/-- Follow applies: the clock is PLAYING or VAMPING in a segment that has its follow flag set (R62). -/
def State.mayFollow (s : State) : Prop :=
  (s.clock.state = .playing ∨ s.clock.state = .vamping) ∧
    ∃ (pos : SongPos) (g : Segment),
      s.clock.pos = some pos ∧ s.book.governing? pos.song pos.bar = some g ∧ g.follow = true

/-- The ticks of a beat at the clock's tempo, I(t) (R54). -/
def Clock.beatTicks (k : Clock) : Nat := (73728000000 + k.tempo / 2) / k.tempo / 256

/-- From `u` to `t` a tempo tap of this onset has reached the clock (R62, R63). -/
structure State.tapped (u t : State) (onset : Tick) : Prop where
  idle : (u.clock.state ≠ .playing ∧ u.clock.state ≠ .vamping) ∨
      (∃ (pos : SongPos) (g : Segment),
        u.clock.pos = some pos ∧ u.book.governing? pos.song pos.bar = some g ∧ g.follow = false) → t = u
  first : u.mayFollow → u.clock.tapOnset = none → t = { u with clock := { u.clock with tapOnset := some onset } }
  rejected : u.mayFollow → ∀ last : Tick, u.clock.tapOnset = some last →
    (onset - last).toInt < (2 * u.clock.beatTicks / 5 : Nat) ∨ (5 * u.clock.beatTicks / 2 : Nat) < (onset - last).toInt →
    t = { u with clock := { u.clock with
      tapOnset := some onset, taps := [], rejected := bump u.clock.rejected } }
  accepted : u.mayFollow → ∀ last : Tick, u.clock.tapOnset = some last →
    (2 * u.clock.beatTicks / 5 : Nat) ≤ (onset - last).toInt → (onset - last).toInt ≤ (5 * u.clock.beatTicks / 2 : Nat) →
    t = { u with clock := { u.clock with tapOnset := some onset, taps := t.clock.taps, adjust := t.clock.adjust } } ∧
    t.clock.taps = (u.clock.taps ++ [(onset - last).toInt]).drop (u.clock.taps.length - 3) ∧
    ∀ (pos : SongPos) (m measured map span : Nat) (d : Int), u.clock.pos = some pos →
      m = (t.clock.taps.sum / t.clock.taps.length).toNat → measured = (288000000 + m / 2) / m →
      d = (measured : Int) - u.clock.tempo → map = u.book.mappedTempo u.clock.override pos →
      span = map * u.book.settings.band / 1000 →
      (d.natAbs ≤ u.book.settings.deadband → t.clock.adjust = u.clock.adjust) ∧
      (u.book.settings.deadband < d.natAbs →
        t.clock.adjust = some (clampInt 2000 30000 (clampInt ((map : Int) - span) ((map : Int) + span)
          (u.clock.tempo + clampInt (-u.book.settings.maxStep) u.book.settings.maxStep d))).toNat)

/-! ## Video (R139 to R145) -/

/-- A failover is due at an output frame boundary: its mark is set, or its expiry has been reached, which sets the mark
before the boundary (R139, R140). -/
def State.failsOver (s : State) : Prop :=
  s.video.failoverDue = true ∨ ∃ expiry : Tick, s.video.failover = some expiry ∧ tickReached s.time.tick expiry = true

/-- The camera is LOCKED (R137). -/
abbrev Video.locks (v : Video) (c : Camera) : Prop := (v.cam c).state = .locked

/-- The mode names the camera (R138). -/
def Video.names (v : Video) : Camera → Prop
  | .a => v.mode = .a
  | .b => v.mode = .b

/-- A failover leaves the active camera at a boundary: it is due, and the camera is not LOCKED again (R140). -/
def State.loses (s : State) (c : Camera) : Prop := s.failsOver ∧ ¬s.video.locks c

/-- A revert is due at a boundary (R142). -/
def State.reverts (s : State) : Prop :=
  s.video.sel = .bActive ∧ ∃ expiry : Tick, s.video.revertExp = some expiry ∧ tickReached s.time.tick expiry = true

/-- A hold is over at a boundary (R141). -/
def State.holdEnds (s : State) : Prop :=
  s.video.sel = .holding ∧ ∃ expiry : Tick, s.video.holdExp = some expiry ∧ tickReached s.time.tick expiry = true

/-- The mode allows no camera that is LOCKED (R141). -/
def Video.allowsNone (v : Video) : Prop := ∀ c : Camera, v.mode = .auto ∨ v.names c → ¬v.locks c

/-- In HOLDING and NONE the mode allows the camera, which is LOCKED: the camera named, or in AUTO the one LOCKED, the first
of two to have become LOCKED, or A of two that locked at one tick (R141). -/
inductive Video.TakesBack (v : Video) : Camera → Prop where
  | named (c : Camera) : v.names c → v.locks c → TakesBack v c
  | alone (c : Camera) : v.mode = .auto → v.locks c → ¬v.locks (otherCamera c) → TakesBack v c
  | firstA (a b : Tick) : v.mode = .auto → v.locks .a → v.locks .b → v.camA.lockTick = some a → v.camB.lockTick = some b →
      tickBefore b a = false → TakesBack v .a
  | firstB (a b : Tick) : v.mode = .auto → v.locks .a → v.locks .b → v.camA.lockTick = some a → v.camB.lockTick = some b →
      tickBefore b a = true → TakesBack v .b

/-- The selection that a boundary leaves (R139 to R143): the active camera stays, fails over, reverts or gives way to the
camera that VIDEO SELECT named, and HOLDING and NONE end in a camera taken back. Where two parts are due at once, the later
reads what the earlier left (log 13). -/
inductive State.Selects (s : State) : Selection → Prop where
  | failover (c : Camera) : s.video.active = some c → s.loses c → s.video.mode = .auto → s.video.locks (otherCamera c) →
      Selects s (selectionOf (otherCamera c))
  | hold (c : Camera) : s.video.active = some c → s.loses c → s.video.mode = .auto → ¬s.video.locks (otherCamera c) →
      Selects s .holding
  | holdNamed (c : Camera) : s.video.active = some c → s.loses c → s.video.names c → Selects s .holding
  | revert : ¬s.loses .b → s.reverts → s.video.mode = .auto → Selects s .aActive
  | takesNamed (c : Camera) : s.video.active = some c → ¬s.reverts → s.video.names (otherCamera c) →
      s.video.locks (otherCamera c) → Selects s (selectionOf (otherCamera c))
  | awaitsNamed (c : Camera) : s.video.active = some c → ¬s.reverts → s.video.names (otherCamera c) →
      ¬s.video.locks (otherCamera c) → Selects s .holding
  | stays (c : Camera) : s.video.active = some c → ¬s.loses c → ¬s.reverts → s.video.mode = .auto ∨ s.video.names c →
      Selects s (selectionOf c)
  | takesBack (c : Camera) : s.video.active = none → s.video.TakesBack c → Selects s (selectionOf c)
  | ends : s.holdEnds → s.video.allowsNone → Selects s .none
  | waits : s.video.sel = .holding → ¬s.holdEnds → s.video.allowsNone → Selects s .holding
  | without : s.video.sel = .none → s.video.allowsNone → Selects s .none

/-- The revert expiry of `t`: where its four conditions hold there, the one that ran in `s` or else one that starts now,
and none otherwise (R142). -/
def State.movesRevert (s t : State) : Prop :=
  t.video.revertExp =
    if t.video.sel = .bActive ∧ t.video.mode = .auto ∧ t.book.settings.autoRevert = true ∧ t.video.locks .a then
      s.video.revertExp.or (some (s.time.tick + 240000#32))
    else none

/-! ## Pictures (R149, R150) -/

/-- A rectangle of the view stands in the frame of size `z` at the rectangle `frame` (R150). -/
def putsRect (o : Orientation) (z : Size) (view frame : Rect) : Prop :=
  match o with
  | .deg0 => frame = view
  | .deg90 => frame.left + view.top + view.height = z.width ∧ frame.top = view.left ∧ frame.width = view.height ∧
      frame.height = view.width
  | .deg180 => frame.left + view.left + view.width = z.width ∧ frame.top + view.top + view.height = z.height ∧
      frame.width = view.width ∧ frame.height = view.height
  | .deg270 => frame.left = view.top ∧ frame.top + view.left + view.width = z.height ∧ frame.width = view.height ∧
      frame.height = view.width

/-- The point of the view lies in the rectangle. -/
def Rect.covers (r : Rect) (row column : Nat) : Prop :=
  r.top ≤ row ∧ row < r.top + r.height ∧ r.left ≤ column ∧ column < r.left + r.width

/-- The strip that a chair's picture has over it, with the record and the fields as they are latched in `s` (R148, R150): its
place in the view and the frame, its texts, and the lamp on a frame whose boundary has the tick of `s`. -/
structure State.drawsStrip (s : State) (c : Chair) (k : Strip) : Prop where
  turned : s.book.chairs[c].orientation = .deg90 ∨ s.book.chairs[c].orientation = .deg270 →
    k.view.width = s.book.settings.height ∧
      (s.book.chairs[c].placement = .bottom → k.view.top + 64 = s.book.settings.width)
  upright : s.book.chairs[c].orientation = .deg0 ∨ s.book.chairs[c].orientation = .deg180 →
    k.view.width = s.book.settings.width ∧
      (s.book.chairs[c].placement = .bottom → k.view.top + 64 = s.book.settings.height)
  band : k.view.left = 0 ∧ k.view.height = 64 ∧ (s.book.chairs[c].placement = .top → k.view.top = 0)
  square : k.lampView.left + 64 = k.view.width ∧ k.lampView.top = k.view.top ∧ k.lampView.width = 64 ∧
    k.lampView.height = 64
  placed : putsRect s.book.chairs[c].orientation s.book.settings.size k.view k.rect ∧
    putsRect s.book.chairs[c].orientation s.book.settings.size k.lampView k.lampRect
  cue : k.text.cue = s.overlay.lastCue
  song : ∀ (pos : SongPos) (r : Song), s.overlay.position = some pos → s.book.song? pos.song = some r →
    k.text.song = some (pos.song, r.title)
  noSong : (∀ pos : SongPos, s.overlay.position = some pos → s.book.song? pos.song = none) → k.text.song = none
  position : k.text.position = s.overlay.position.map fun pos => (pos.bar, pos.beat)
  standby : k.text.standby = s.overlay.standby
  lit : ∀ b : BeatField, s.overlay.beat = some b → (s.time.tick - b.tick).toNat < 4800 →
    k.lamp = if b.downbeat then .accent else .beat
  dark : (∀ b : BeatField, s.overlay.beat = some b → 4800 ≤ (s.time.tick - b.tick).toNat) → k.lamp = .dark

/-! ## Raw fault conditions (R152) -/

/-- The raw condition of a source is asserted: source `4n - 3` to `4n` of chair `n`, and 65 to 70 of the part (R50, R90, R106,
R122, R134, R137, R138, R145). A source's index is one less than its number. -/
inductive State.Asserts (s : State) : Source → Prop where
  | chairDown (c : Chair) (i : Source) : i.val = 4 * c.val → s.book.chairs[c].enabled = true →
      s.links[c].state ≠ .locked → Asserts s i
  | chairErrors (c : Chair) (i : Source) : i.val = 4 * c.val + 1 → s.book.chairs[c].enabled = true →
      s.links[c].mark = true → Asserts s i
  | patchFail (c : Chair) (i : Source) (sel : PatchSel) : i.val = 4 * c.val + 2 → s.cue.isOpen = true →
      s.book.chairs[c].enabled = true → s.patch[c].target = some sel → s.patch[c].confirmed = .unknown → Asserts s i
  | clickDrift (c : Chair) (i : Source) (mean : Nat) : i.val = 4 * c.val + 3 → s.book.chairs[c].enabled = true →
      s.links[c].state = .locked → s.clicks[c].filter ≠ [] →
      mean = s.clicks[c].filter.sum / s.clicks[c].filter.length →
      s.clicks[c].basis + max (s.clicks[c].basis / 8) 50 < mean ∨
        mean + max (s.clicks[c].basis / 8) 50 < s.clicks[c].basis → Asserts s i
  | cameraA : s.video.camA.state ≠ .locked → Asserts s 64
  | cameraB : s.video.camB.state ≠ .locked → Asserts s 65
  | noConductor : s.video.sel = .holding ∨ s.video.sel = .none → Asserts s 66
  | videoRate : 10 < s.video.window.length → Asserts s 67
  | padLost : s.pad.state = .lost → Asserts s 68
  | syncLost : s.book.settings.houseSync = .use → s.clock.syncLocked = false → Asserts s 69

/-! ## Invariants -/

/-- Every fault source whose live flag is set has its held flag set (R155). -/
def FaultMonitor.liveHeld (m : FaultMonitor) : Prop := ∀ i : Source, m.sources[i].live = true → m.sources[i].held = true

/-- While the show is closed, the clock is PARKED and the stop state is CLEAR (R51, R176). -/
def State.closedQuiet (s : State) : Prop :=
  s.cue.isOpen = false → s.clock.state = .parked ∧ s.stop.state = .clear

/-- Every live fault source is held, and while the show is closed the monitor is DISARMED with no arming under way and no
live source (R155, R158). -/
def State.faultsSound (s : State) : Prop :=
  s.faults.liveHeld ∧
    (s.cue.isOpen = false →
      s.faults.armed = false ∧ s.faults.armExp = none ∧ ∀ i : Source, s.faults.sources[i].live = false)

/-- The Video Switch keeps its store, expiries and lock ticks: at most one buffer is SHOWN, one COMPLETE and one FILLING
(R144, R145); a failover runs only for an active camera that is not LOCKED, and is due only in an active state (R140); the hold
expiry runs exactly in HOLDING (R141), and the revert expiry only under its four conditions (R142); a LOCKED camera has a lock
tick (R137). -/
structure State.videoSound (s : State) : Prop where
  shown : ∀ (j k : Fin 3) (f g : Frame), s.video.buffers[j] = .shown f → s.video.buffers[k] = .shown g → j = k
  complete : ∀ (j k : Fin 3) (f g : Frame), s.video.buffers[j] = .complete f → s.video.buffers[k] = .complete g → j = k
  filling : ∀ (j k : Fin 3) (c d : Camera), s.video.buffers[j] = .filling c → s.video.buffers[k] = .filling d → j = k
  failover : s.video.failover ≠ none → ∃ c : Camera, s.video.active = some c ∧ ¬s.video.locks c
  due : s.video.failoverDue = true → s.video.active ≠ none
  hold : s.video.holdExp ≠ none ↔ s.video.sel = .holding
  revert : s.video.revertExp ≠ none →
    s.video.sel = .bActive ∧ s.video.mode = .auto ∧ s.book.settings.autoRevert = true ∧ s.video.locks .a
  lockTicks : ∀ c : Camera, s.video.locks c → (s.video.cam c).lockTick ≠ none

/-- The book keeps its keys, references, counts and capacities: each key stands once in its table; a segment starts inside
its song; every cue is a valid record whose names are in the book; cue counts and patch references count the cues that
name the record; and no table has outgrown its capacity (R1, R2, R4 to R7, R12 to R14). -/
structure Book.Sound (b : Book) : Prop where
  songKeys : b.songs.Pairwise fun x y => x.number ≠ y.number
  segmentKeys : b.segments.Pairwise fun x y => x.song ≠ y.song ∨ x.startBar ≠ y.startBar
  patchKeys : b.patches.Pairwise fun x y => x.chair ≠ y.chair ∨ x.number ≠ y.number
  cueKeys : b.cues.Pairwise fun x y => x.number ≠ y.number
  segmentsInside : ∀ g ∈ b.segments, ∃ r : Song,
    b.song? g.song = some r ∧ r.firstBar ≤ g.startBar ∧ g.startBar ≤ r.lastBar
  cuesNamed : ∀ c ∈ b.cues, b.holdsNamed c
  cuesValid : ∀ c ∈ b.cues, b.validCue c
  cueCounts : ∀ r ∈ b.songs, r.cueCount = (b.cues.filter fun c => c.namesSong r.number).length
  patchRefs : ∀ p ∈ b.patches, p.refs = (b.cues.filter fun c => c.namesPatch p.chair p.number).length
  segmentRoom : b.segments.length ≤ 512 ∧
    ∀ song : Nat, (b.segments.filter fun g => decide (g.song = song)).length ≤ 32
  patchRoom : b.patches.length ≤ 2048 ∧ b.poolUse ≤ 16384
  cueRoom : b.cues.length ≤ 1024

/-- Some chair's slots hold a request of the cue that is not detached from it (R25, R107). -/
def State.holdsRequestOf (s : State) (n : CueNumber) : Prop :=
  ∃ (chair : Chair) (sel : PatchSel),
    s.patch[chair].waiting = some (.cue n false sel) ∨
      ∃ f : Flight, s.patch[chair].flight = some f ∧ f.req = .cue n false sel

/-- The run states of an open show agree with the book and the slots: each cue has its entry and no other has one; the
standby, and it alone, is in STANDBY, and is a GO cue of no CUT song; no PENDING cue, and none marked to return so, is of a
CUT song; the held follow cue is PENDING; a cue is FIRING exactly while a slot holds its request (R20, R25, R36, R48). With
the show closed there is no standby, no held cue and no waiting cue request; a running image operation means that it is
closed (R28, R103, R179). -/
structure State.runsSound (s : State) : Prop where
  closed : s.cue.isOpen = false → s.cue.standby = none ∧ s.cue.held = none ∧
    ∀ (chair : Chair) (n : CueNumber) (sel : PatchSel), s.patch[chair].waiting ≠ some (.cue n false sel)
  busy : s.busy = true → s.cue.isOpen = false
  entries : s.cue.isOpen = true → ∀ n : CueNumber, (s.cue.entry? n).isSome = (s.book.cue? n).isSome
  standby : s.cue.isOpen = true → ∀ n : CueNumber, s.cue.standby = some n ↔ s.runState n = .standby
  standbyCue : ∀ n : CueNumber, s.cue.standby = some n →
    ∃ c : Cue, s.book.cue? n = some c ∧ c.trigger = .go ∧ ¬s.book.ofCutSong c
  pending : s.cue.isOpen = true → ∀ c ∈ s.book.cues, s.runState c.number = .pending → ¬s.book.ofCutSong c
  marks : s.cue.isOpen = true → ∀ c ∈ s.book.cues, ∀ e : RunEntry, s.cue.entry? c.number = some e →
    e.state = .firing → e.mark = some .pending → ¬s.book.ofCutSong c
  held : ∀ n : CueNumber, s.cue.held = some n → (s.book.cue? n).isSome = true ∧ s.runState n = .pending
  firing : s.cue.isOpen = true → ∀ n : CueNumber, s.runState n = .firing ↔ s.holdsRequestOf n

end Sys2Proof.Machine
end

