-- ==== Sys2Proof/Certificates/Slice0/Obligations.lean ====
section
/-! DEFINITION. The statements about the FW416, taken from the numbered rules of spec/. Each docstring names the rule it
comes from, or the log entry of a choice of the model. Two choices stand behind all of them: a request's effect comes with
the taking of its frame, and its answer is owed until OWNER_ANSWER (log 4); a row of an expiry acts whenever it is sent at
or after its tick, and changes nothing before (log 2). -/

open Sys2Proof Sys2Proof.Machine

/-! ## The step -/

/-- The step takes the command at the front of the queue and runs it with the queue's rest. -/
def Obligations.StepRunsTheFrontCommand : Prop :=
  ∀ (c : Instr) (rest : List Instr) (s : State), s.pending = c :: rest →
    step s = exec c { s with pending := rest }

/-- On an empty queue one microsecond passes, which is 48 thousandths of a show tick (the model's choice, log 1); with
RESET_N held low nothing changes. R50: the house sync input moves the sync lock state and nothing else. The clock
takes its ticks from house sync exactly while the setting is USE and the input is LOCKED, and SYNC_LOST, fault source
70, stands exactly while the setting is USE and the input is UNLOCKED. -/
def Obligations.TimePassesAndHouseSyncLocks : Prop :=
  (∀ s : State, s.pending = [] → s.time.phase < 1000 →
    (s.resetHeld = true → step s = .next s) ∧
    (s.resetHeld = false → ∃ t : State, step s = .next t ∧ t = { s with time := t.time } ∧
      t.time.micros = s.time.micros + 1 ∧ t.time.phase < 1000 ∧
      1000 * ((t.time.tick - s.time.tick).toNat) + t.time.phase = s.time.phase + 48)) ∧
  ∀ (i : Instr) (locked : Bool) (s : State), s.resetHeld = false →
    (i = .syncLock ∧ locked = true) ∨ (i = .syncUnlock ∧ locked = false) →
    ∃ t : State, exec i s = .next t ∧ t = { s with clock := { s.clock with syncLocked := locked } } ∧
      (t.clockReport.houseTimebase = true ↔ s.book.settings.houseSync = .use ∧ locked = true) ∧
      (t.condition 69 = true ↔ s.book.settings.houseSync = .use ∧ locked = false)

/-! ## Resets (R183, R189) -/

/-- R189: the rise of RESET_N puts every block at its power-on values; the queue and the raw stop input, which stand
outside the blocks, stay (log 3), and a value that the manual does not give is the model's choice (log 18). R183: with
the BOOT strap high a load of slot 0 starts with operation BOOT LOAD, its progress 0 of 0 by the model's choice (log
34). R189: RESET_N pulled low makes RDY low and ATTN high, and the part takes no transaction until its rise. R183: it
ends any running image operation. That no other command either changes a block while it is held low, but for the level
of the stop input's pin, is the model's choice (log 3). -/
def Obligations.ResetInputHoldsThenGivesPowerOnValues : Prop :=
  (∀ s : State,
    exec (.powerOn false) s = .next { State.reset with
      pending := s.pending, stop := StopController.initial s.stop.raw } ∧
    ∃ t : State, exec (.powerOn true) s = .next t ∧
      t = { State.reset with pending := s.pending, stop := StopController.initial s.stop.raw, loader := t.loader } ∧
      t.loader.report = { state := .readingHeader, op := some .bootLoad, slot := some 0
                          progress := some { done := 0, total := 0 }, result := none, failed := none }) ∧
  (∀ s : State, ∃ t : State, exec .resetNAsserted s = .next t ∧ t.busy = false ∧ rdy t = false ∧ attnLow t = false ∧
    t = { s with resetHeld := true, loader := t.loader, port := { s.port with miso := [] } } ∧
    (s.busy = false → t.loader = s.loader)) ∧
  ∀ (i : Instr) (s : State), s.resetHeld = true → s.busy = false → (∀ boot : Bool, i ≠ .powerOn boot) →
    ∃ t : State, exec i s = .next t ∧ rdy t = false ∧ attnLow t = false ∧
      t = { s with
        stop := { s.stop with raw := t.stop.raw }
        port := { s.port with miso := t.port.miso } }

/-- R189, R24: SYSTEM RESET, taken while no load runs, returns every block to its reset values (those that the manual
does not give by the model's choice, log 18) and keeps the book, whose cursor goes to the start, and the event mask.
R88: the chairs' records give the applied trims at once. R183: taken while a load runs, it leaves the book as after a
failed load. That the port is left WORKING with the answer OK still owed, and not yet ANSWERED with RDY high, is the
model's choice (log 4): the answer comes with OWNER_ANSWER. -/
def Obligations.SystemResetKeepsTheBook : Prop :=
  ∀ s : State, s.accepts →
    ∃ t : State, exec .systemReset s = .next t ∧
      (s.loading = false → t.book = { s.book with cursorTable := .songs, cursorPos := (1, 0) }) ∧
      (s.loading = true → t.book = Book.empty) ∧
      t.time = { tick := 0#32, micros := 0, phase := 0 } ∧ t.cue = CueEngine.initial ∧ t.clock = Clock.initial ∧
      t.due = [] ∧ t.patch = Vector.replicate 16 Dispatch.initial ∧ t.links = Vector.replicate 16 Link.initial ∧
      t.leakDue = 125000 ∧ t.pad = Pad.initial ∧ t.video = Video.initial t.book.settings.rate ∧
      t.overlay = Overlay.initial ∧ t.faults = FaultMonitor.initial ∧
      t.stop = StopController.initial s.stop.raw ∧ t.loader = Loader.initial ∧
      (∀ c : Chair, t.clicks[c].enable = true ∧ t.clicks[c].filter = [] ∧ t.clicks[c].basis = 0 ∧
        t.clicks[c].trim = t.book.chairs[c].trim ∧ t.clicks[c].advance = advanceOf 0 t.book.chairs[c].trim) ∧
      t.port = { s.port with
        state := .working, buffer := none, overrun := false, flags := 0#10, owed := some (plain .ok) } ∧
      t.pending = s.pending ∧ t.resetHeld = false

/-! ## The Control Port (R184 to R188) -/

/-- R184, R185: a request frame that carries a well-formed request's code and operands does what the request does. -/
def Obligations.FrameRunsTheRequestItCarries : Prop :=
  ∀ (i : Instr) (code : Nat) (operands : List Byte) (s : State),
    wellFormed i = true → putRequest i = some (code, operands) → operands.length ≤ 1600 →
    ∃ t : State, exec (.requestFrame (0x5A#8 :: putFrame code operands)) s = .next t ∧ exec i s = .next t

/-- R186: a request whose frame comes while the port is WORKING is dropped; it changes nothing but the overrun mark,
whichever request it is. R184: the port's own checks of a transaction, in order. A frame whose length field does not
count its operands, or counts more than 1600, or is not complete, is answered BAD_LENGTH; one of the right length
whose code is none of section 12.3 is answered BAD_COMMAND; one whose operands do not fill its length, as where a list
count or a text length runs past it, or bytes are left over, is answered BAD_LENGTH, whichever request it is; none
changes anything else. A transaction that opens with 96h is an answer read, and one that opens with any byte but 5Ah
and 96h changes nothing. -/
def Obligations.FrameChecksComeInOrder : Prop :=
  (∀ (i : Instr) (s : State), isRequest i = true → s.resetHeld = false → s.port.state = .working →
    exec i s = .next { s with port := { s.port with overrun := true } }) ∧
  ∀ s : State, s.accepts →
    (∀ (code hi lo : Byte) (operands : List Byte),
      operands.length ≠ hi.toNat * 256 + lo.toNat ∨ 1600 < hi.toNat * 256 + lo.toNat →
      exec (.requestFrame (0x5A#8 :: code :: hi :: lo :: operands)) s = .next (owing (plain .badLength) s.taking)) ∧
    (∀ bytes : List Byte, bytes.length < 3 →
      exec (.requestFrame (0x5A#8 :: bytes)) s = .next (owing (plain .badLength) s.taking)) ∧
    (∀ (code : Byte) (operands : List Byte), operands.length ≤ 1600 →
      (∀ (i : Instr) (c : Nat) (l : List Byte), putRequest i = some (c, l) → c ≠ code.toNat) →
      exec (.requestFrame (0x5A#8 :: code :: (bigEndian 2 operands.length ++ operands))) s =
        .next (owing (plain .badCommand) s.taking)) ∧
    (∀ (i : Instr) (code : Nat) (operands bytes extra rest : List Byte), wellFormed i = true →
      putRequest i = some (code, operands) → bytes.length ≤ 1600 →
      (bytes = operands ++ extra ∧ extra ≠ []) ∨ (operands = bytes ++ rest ∧ rest ≠ []) →
      exec (.requestFrame (0x5A#8 :: putFrame code bytes)) s = .next (owing (plain .badLength) s.taking)) ∧
    ∀ (b : Byte) (rest : List Byte),
      (b = 0x96#8 → exec (.requestFrame (b :: rest)) s = exec (.answerRead (rest.length + 1)) s) ∧
      (b ≠ 0x5A#8 → b ≠ 0x96#8 → exec (.requestFrame (b :: rest)) s = .next s)

/-- R186: the owner's answer fills the buffer with the overrun mark, which clears; the port is ANSWERED and RDY rises.
An answer read of that answer returns 00h, A5h, the OVERRUN flag and the status code; one that clocks out the status
byte empties the buffer and leaves the port IDLE, and a shorter one leaves it ANSWERED. In IDLE and WORKING an answer
read returns the not-ready bytes 00h that R186 gives; that every further byte of it is 00h too is the model's choice
(log 27). -/
def Obligations.AnswerIsGivenAndReadOnce : Prop :=
  (∀ (s : State) (a : Answer), s.resetHeld = false → s.port.state = .working → s.port.owed = some a →
    ∃ t : State, exec .ownerAnswer s = .next t ∧ rdy t = true ∧
      t = { s with port := { s.port with
        state := .answered, owed := none, buffer := some (a, s.port.overrun), overrun := false } }) ∧
  (∀ (s : State) (a : Answer) (overrun : Bool) (n : Nat),
    s.resetHeld = false → s.port.state = .answered → s.port.buffer = some (a, overrun) →
    ∃ t : State, exec (.answerRead n) s = .next t ∧
      t = { s with port := { s.port with
        state := t.port.state, buffer := t.port.buffer, miso := t.port.miso } } ∧ t.port.miso.length = n ∧
      t.port.miso.take 4 =
        ([0x00#8, 0xA5#8, if overrun then 0x01#8 else 0x00#8, BitVec.ofNat 8 a.status.code]).take n ∧
      (4 ≤ n → t.port.state = .idle ∧ t.port.buffer = none) ∧
      (n < 4 → t.port.state = .answered ∧ t.port.buffer = some (a, overrun))) ∧
  ∀ (s : State) (n : Nat), s.port.state ≠ .answered →
    exec (.answerRead n) s = .next { s with port := { s.port with miso := List.replicate n 0x00#8 } }

/-- R187, R188: STATUS READ answers the core and the part named as they stand at the decision, and clears the event
flags it reports; a part above 5, or a part 3 with a chair outside 1..16, is OUT_OF_RANGE and clears nothing. R66:
part 2 reports the tempo in force and the beat accumulator; that it reports the accumulator in every clock state is
the model's choice (log 39). R187: EVENT MASK replaces the mask and answers the old one, unless a bit above bit 9 is
set; ATTN is low exactly while a flag is set whose mask bit is clear. -/
def Obligations.StatusReadIsASnapshotAndTheMaskIsReplaced : Prop :=
  (∀ (s : State) (part : Nat) (chair : Option Nat), s.accepts →
    (5 < part ∨ (part = 3 ∧ ∀ n : Nat, chair = some n → n < 1 ∨ 16 < n) →
      exec (.statusRead part chair) s = .next (owing (plain .outOfRange) s.taking)) ∧
    (part ≤ 5 → (part = 3 → ∃ n : Nat, chair = some n ∧ 1 ≤ n ∧ n ≤ 16) →
      ∃ p : StatusPart, s.statusPart part chair = some p ∧
        exec (.statusRead part chair) s =
          .next (owing { status := .ok, data := .status s.statusCore p }
            { s.taking with port := { s.taking.port with flags := 0#10 } })) ∧
    s.statusCore.flags = s.port.flags ∧ s.statusCore.showOpen = s.cue.isOpen ∧
    s.statusCore.standby = s.cue.held.or s.cue.standby ∧ s.statusCore.position = s.clock.pos ∧
    s.statusPart 2 none = some (.clock s.clockReport) ∧ s.clockReport.tempo = s.clock.tempo ∧
    s.clockReport.accumulator = s.clock.p) ∧
  ∀ (s : State) (mask : BitVec 16), s.accepts →
    (mask.toNat < 1024 → ∃ t : State, exec (.eventMask mask) s = .next t ∧
      t = owing { status := .ok, data := .mask s.port.mask }
        { s.taking with port := { s.taking.port with mask := mask } } ∧
      (attnLow t = true ↔ ∃ b : Fin 10, s.port.flags.getLsbD b = true ∧ mask.getLsbD b = false)) ∧
    (1024 ≤ mask.toNat → exec (.eventMask mask) s = .next (owing (plain .outOfRange) s.taking))

/-! ## The Book Store (R1 to R24) -/

/-- R11, R12: a song write that passes its checks creates the song with running flag IN and cue count 0, or amends it
and keeps both; it is answered OK, raises the revision count, and changes nothing else. R12: one that would leave a
segment, a BAR cue or a START of the song outside its bars is INVALID, and one that changes the bars or the key role
of the clock's current song is IN_USE. R11, R13, R3: a segment write that passes its checks is put in under its key
and changes no other segment; one of no song is NOT_FOUND, one outside the song's bars is INVALID, one that would
alter the beats under way is IN_USE, and a creation with no room is FULL. -/
def Obligations.SongAndSegmentWritesAreChecked : Prop :=
  (∀ (w : SongWrite) (s : State), s.accepts → s.busy = false → songWriteOk w = true →
    (w.lastBar < w.firstBar ∨
        (∃ g ∈ s.book.segments, g.song = w.number ∧ (g.startBar < w.firstBar ∨ w.lastBar < g.startBar)) ∨
        (∃ c ∈ s.book.cues, ∃ bar : Nat, (bar < w.firstBar ∨ w.lastBar < bar) ∧
          ((c.song = some w.number ∧ ∃ beat lead : Nat, c.trigger = .bar bar beat lead) ∨
            c.tempo = some (.start w.number bar))) →
      exec (.recordWrite (.song w)) s = .next (owing (plain .invalid) s.taking)) ∧
    (w.firstBar ≤ w.lastBar →
      (∀ g ∈ s.book.segments, g.song = w.number → w.firstBar ≤ g.startBar ∧ g.startBar ≤ w.lastBar) →
      (∀ c ∈ s.book.cues, ∀ bar : Nat,
        ((c.song = some w.number ∧ ∃ beat lead : Nat, c.trigger = .bar bar beat lead) ∨
            c.tempo = some (.start w.number bar)) → w.firstBar ≤ bar ∧ bar ≤ w.lastBar) →
      (∀ r : Song, s.currentSong = some w.number → s.book.song? w.number = some r →
        r.firstBar ≠ w.firstBar ∨ r.lastBar ≠ w.lastBar ∨ r.keyRole ≠ w.keyRole →
        exec (.recordWrite (.song w)) s = .next (owing (plain .inUse) s.taking)) ∧
      ((∀ r : Song, s.currentSong = some w.number → s.book.song? w.number = some r →
        r.firstBar = w.firstBar ∧ r.lastBar = w.lastBar ∧ r.keyRole = w.keyRole) →
      ∃ b : Book, exec (.recordWrite (.song w)) s = .next (owing (plain .ok) { s.taking with book := b }) ∧
        b = { s.book with songs := b.songs, revision := (s.book.revision + 1) % 65536 } ∧
        (∃ r : Song, b.song? w.number = some r ∧ r.number = w.number ∧ r.title = w.title ∧
          r.firstBar = w.firstBar ∧ r.lastBar = w.lastBar ∧ r.keyRole = w.keyRole ∧
          (s.book.song? w.number = none → r.running = .playing ∧ r.cueCount = 0) ∧
          ∀ old : Song, s.book.song? w.number = some old → r.running = old.running ∧ r.cueCount = old.cueCount) ∧
        ∀ n : Nat, n ≠ w.number → b.song? n = s.book.song? n))) ∧
  ∀ (w : SegmentWrite) (g : Segment) (s : State), s.accepts → s.busy = false → segmentOf w = some g →
    (s.book.song? g.song = none →
      exec (.recordWrite (.segment w)) s = .next (owing (plain .notFound) s.taking)) ∧
    ∀ r : Song, s.book.song? g.song = some r →
      (g.startBar < r.firstBar ∨ r.lastBar < g.startBar →
        exec (.recordWrite (.segment w)) s = .next (owing (plain .invalid) s.taking)) ∧
      (r.firstBar ≤ g.startBar → g.startBar ≤ r.lastBar →
        (s.altersTheBeatsUnderWay g →
          exec (.recordWrite (.segment w)) s = .next (owing (plain .inUse) s.taking)) ∧
        (¬s.altersTheBeatsUnderWay g → s.book.segment? g.song g.startBar = none →
          32 ≤ (s.book.segments.filter fun x => decide (x.song = g.song)).length ∨ 512 ≤ s.book.segments.length →
          exec (.recordWrite (.segment w)) s = .next (owing (plain .full) s.taking)) ∧
        (¬s.altersTheBeatsUnderWay g →
          (s.book.segment? g.song g.startBar ≠ none ∨
            ((s.book.segments.filter fun x => decide (x.song = g.song)).length < 32 ∧
              s.book.segments.length < 512)) →
          ∃ b : Book, exec (.recordWrite (.segment w)) s = .next (owing (plain .ok) { s.taking with book := b }) ∧
            b = { s.book with segments := b.segments, revision := (s.book.revision + 1) % 65536 } ∧
            b.segment? g.song g.startBar = some g ∧
            ∀ song bar : Nat, ¬(song = g.song ∧ bar = g.startBar) → b.segment? song bar = s.book.segment? song bar))

/-- R7, R11, R16: a patch write that has room in the table and the pool is put in under its key with the reference count
it had, or 0; the pool's use changes by the new entries less the old; one without room is FULL and changes nothing. A
patch write never touches the Patch Dispatcher. The keys of the patch table stand once each (R6). -/
def Obligations.PatchWriteKeepsThePool : Prop :=
  ∀ (w : PatchWrite) (p : Patch) (s : State), s.accepts → s.busy = false → patchOf w = some p →
    s.book.patches.Pairwise (fun x y => ¬(x.chair = y.chair ∧ x.number = y.number)) →
    (s.book.oldSize p < p.size ∧ 16384 < s.book.poolUse + p.size - s.book.oldSize p ∨
        s.book.patch? p.chair p.number = none ∧ 2048 ≤ s.book.patches.length →
      exec (.recordWrite (.patch w)) s = .next (owing (plain .full) s.taking)) ∧
    ((p.size ≤ s.book.oldSize p ∨ s.book.poolUse + p.size - s.book.oldSize p ≤ 16384) →
      (s.book.patch? p.chair p.number ≠ none ∨ s.book.patches.length < 2048) →
      ∃ b : Book, exec (.recordWrite (.patch w)) s = .next (owing (plain .ok) { s.taking with book := b }) ∧
        b = { s.book with patches := b.patches, revision := (s.book.revision + 1) % 65536 } ∧
        (s.book.patch? p.chair p.number = none → b.patch? p.chair p.number = some { p with refs := 0 }) ∧
        (∀ old : Patch, s.book.patch? p.chair p.number = some old →
          b.patch? p.chair p.number = some { p with refs := old.refs }) ∧
        (∀ (c : Chair) (n : Nat), ¬(c = p.chair ∧ n = p.number) → b.patch? c n = s.book.patch? c n) ∧
        b.poolUse + s.book.oldSize p = s.book.poolUse + p.size)

/-- R14, R15: a cue write is NOT_FOUND where a record that it names is absent, INVALID where its fields are not valid
together, IN_USE with the show open where it amends a FIRING cue or the STANDBY cue to another trigger or into a CUT
song, and FULL where it creates a cue with no room. R5: taken, it puts the cue in; each patch and song that the new
record names and the old does not has its count raised by one, each that the old names and the new does not has it
lowered by one, and every other count stays. With the show closed nothing else changes. R15: with the show open, an
amended PENDING cue of a CUT song is PASSED and other run states stay; a created cue is PASSED where its song is CUT
or it is before the last fired cue, STANDBY where it is a GO cue and none stands, and PENDING otherwise. R44: the
cue's timer goes where its trigger is no longer FOLLOW or it is PASSED. -/
def Obligations.CueWriteMovesTheCounts : Prop :=
  ∀ (w : CueWrite) (c : Cue) (s : State), s.accepts → s.busy = false → cueOf w = some c →
    (¬s.book.holdsNamed c → exec (.recordWrite (.cue w)) s = .next (owing (plain .notFound) s.taking)) ∧
    (s.book.holdsNamed c → ¬s.book.validCue c →
      exec (.recordWrite (.cue w)) s = .next (owing (plain .invalid) s.taking)) ∧
    (s.book.holdsNamed c → s.book.validCue c →
      (s.cue.isOpen = true → s.book.cue? c.number ≠ none →
        s.runState c.number = .firing ∨
          (s.runState c.number = .standby ∧ (c.trigger ≠ .go ∨ s.book.ofCutSong c)) →
        exec (.recordWrite (.cue w)) s = .next (owing (plain .inUse) s.taking)) ∧
      (s.book.cue? c.number = none → 1024 ≤ s.book.cues.length →
        exec (.recordWrite (.cue w)) s = .next (owing (plain .full) s.taking)) ∧
      ((s.book.cue? c.number = none ∧ s.book.cues.length < 1024) ∨
          (s.book.cue? c.number ≠ none ∧ (s.cue.isOpen = true → s.runState c.number ≠ .firing ∧
            (s.runState c.number = .standby → c.trigger = .go ∧ ¬s.book.ofCutSong c))) →
        ∃ t : State, exec (.recordWrite (.cue w)) s = .next t ∧
          t = owing (plain .ok) { s.taking with book := t.book, cue := t.cue, overlay := t.overlay } ∧
          t.book = { s.book with songs := t.book.songs, patches := t.book.patches, cues := t.book.cues
                                 revision := (s.book.revision + 1) % 65536 } ∧
          t.book.cue? c.number = some c ∧ (∀ n : CueNumber, n ≠ c.number → t.book.cue? n = s.book.cue? n) ∧
          (∀ (chair : Chair) (n : Nat) (p : Patch), s.book.patch? chair n = some p →
            ∃ q : Patch, t.book.patch? chair n = some q ∧ q = { p with refs := q.refs } ∧
              q.refs =
                if c.namesPatch chair n = true ∧ (s.book.cue? c.number).any (·.namesPatch chair n) = false then
                  p.refs + 1
                else if c.namesPatch chair n = false ∧
                    (s.book.cue? c.number).any (·.namesPatch chair n) = true then p.refs - 1
                else p.refs) ∧
          (∀ (n : Nat) (r : Song), s.book.song? n = some r →
            ∃ q : Song, t.book.song? n = some q ∧ q = { r with cueCount := q.cueCount } ∧
              q.cueCount =
                if c.namesSong n = true ∧ (s.book.cue? c.number).any (·.namesSong n) = false then r.cueCount + 1
                else if c.namesSong n = false ∧ (s.book.cue? c.number).any (·.namesSong n) = true then
                  r.cueCount - 1
                else r.cueCount) ∧
          (s.cue.isOpen = false → t.cue = s.cue ∧ t.overlay = s.overlay) ∧
          (s.cue.isOpen = true →
            t.cue = { s.cue with
              runs := t.cue.runs, standby := t.cue.standby, held := t.cue.held, timers := t.cue.timers } ∧
            (∀ n : CueNumber, n ≠ c.number → t.runState n = s.runState n) ∧
            (s.book.cue? c.number ≠ none → (s.cue.entry? c.number).isSome = true →
              t.cue.standby = s.cue.standby ∧
              (s.runState c.number = .pending → s.book.ofCutSong c → t.runState c.number = .passed ∧
                t.cue.timers = s.cue.timers.filter fun x => decide (x.cue ≠ c.number)) ∧
              (s.runState c.number ≠ .pending ∨ ¬s.book.ofCutSong c →
                t.runState c.number = s.runState c.number ∧ t.cue.held = s.cue.held ∧
                t.cue.timers = if c.isFollow = true then s.cue.timers
                  else s.cue.timers.filter fun x => decide (x.cue ≠ c.number))) ∧
            (s.book.cue? c.number = none → s.cue.entry? c.number = none → s.cue.held ≠ some c.number →
              t.cue.timers = s.cue.timers ∧ t.cue.held = s.cue.held ∧
              (s.book.ofCutSong c ∨ (∃ n : CueNumber, s.cue.lastFired = some n ∧ c.number.before n = true) →
                t.runState c.number = .passed ∧ t.cue.standby = s.cue.standby) ∧
              (¬s.book.ofCutSong c → (∀ n : CueNumber, s.cue.lastFired = some n → c.number.before n = false) →
                (c.trigger = .go → s.cue.standby = none →
                  t.runState c.number = .standby ∧ t.cue.standby = some c.number) ∧
                (c.trigger ≠ .go ∨ s.cue.standby ≠ none →
                  t.runState c.number = .pending ∧ t.cue.standby = s.cue.standby))))))

/-- R17, R88, R18: STATION SET and RECORD WRITE of the chair table amend one chair record whole, and a disabling is
IN_USE while the chair's slots hold an AD_HOC request; the applied trims follow the records with the clock PARKED or
FROZEN, and are kept otherwise. CAST SET and RECORD WRITE of the role table set one role's entry and touch no request,
unless the show is open and the role is the key role of the clock's current song, which is IN_USE. R10, R137: a
settings write replaces every field but the fault source settings; the failover time is clamped into 40..1000. Each
camera in LOCKED or MISMATCH is compared at once with a changed expected size, the revert
expiry follows (R142), and no other camera, mode, selection, frame or count of the Video Switch changes. -/
def Obligations.FixedRecordWritesSetOneRecord : Prop :=
  (∀ (w : ChairWrite) (c : Chair) (r : ChairRec) (s : State), s.accepts → s.busy = false →
    chairRecOf w = some (c, r) →
    exec (.recordWrite (.chair w)) s = exec (.stationSet w) s ∧
    (s.book.chairs[c].enabled = true → r.enabled = false → s.patch[c].holdsAdHoc = true →
      exec (.stationSet w) s = .next (owing (plain .inUse) s.taking)) ∧
    (s.book.chairs[c].enabled = false ∨ r.enabled = true ∨ s.patch[c].holdsAdHoc = false →
      ∃ t : State, exec (.stationSet w) s = .next t ∧
        t = owing (plain .ok) { s.taking with book := t.book, clicks := t.clicks } ∧
        t.book = { s.book with chairs := t.book.chairs, revision := (s.book.revision + 1) % 65536 } ∧
        (∀ d : Chair, t.book.chairs[d] = if d = c then r else s.book.chairs[d]) ∧
        ∀ d : Chair, t.clicks[d] =
          if s.clock.state = .parked ∨ s.clock.state = .frozen then
            { s.clicks[d] with
              trim := t.book.chairs[d].trim, advance := advanceOf s.clicks[d].basis t.book.chairs[d].trim }
          else s.clicks[d])) ∧
  (∀ (role key : Nat) (i : Fin 32) (v : Variant) (s : State), s.accepts → s.busy = false →
    roleOf role key = some (i, v) →
    exec (.recordWrite (.role role key)) s = exec (.castSet role key) s ∧
    ((∃ r : Song, s.cue.isOpen = true ∧ s.currentSong.bind s.book.song? = some r ∧ r.keyRole = some role) →
      exec (.castSet role key) s = .next (owing (plain .inUse) s.taking)) ∧
    (¬(∃ r : Song, s.cue.isOpen = true ∧ s.currentSong.bind s.book.song? = some r ∧ r.keyRole = some role) →
      ∃ b : Book, exec (.castSet role key) s = .next (owing (plain .ok) { s.taking with book := b }) ∧
        b = { s.book with roles := b.roles, revision := (s.book.revision + 1) % 65536 } ∧
        ∀ j : Fin 32, b.roles[j] = if j = i then v else s.book.roles[j])) ∧
  ∀ (w : SettingsWrite) (set : Settings) (s : State), s.accepts → s.busy = false →
    settingsOf w s.book.settings.faults = some set →
    ∃ t : State, exec (.recordWrite (.settings w)) s = .next t ∧
      t = owing (plain .ok) { s.taking with book := t.book, video := t.video } ∧
      t.book = { s.book with settings := set, revision := (s.book.revision + 1) % 65536 } ∧
      set.faults = s.book.settings.faults ∧ set.failover = clampNat 40 1000 w.failover ∧
      t.video.mode = s.video.mode ∧ t.video.sel = s.video.sel ∧ t.video.buffers = s.video.buffers ∧
      t.video.drops = s.video.drops ∧ t.video.repeats = s.video.repeats ∧ t.video.window = s.video.window ∧
      s.movesRevert t ∧
      ∀ cam : Camera,
        (t.video.cam cam).state =
          (if set.size ≠ s.book.settings.size ∧
              ((s.video.cam cam).state = .locked ∨ (s.video.cam cam).state = .mismatch) then
            (if (s.video.cam cam).locked = some set.size then .locked else .mismatch)
          else (s.video.cam cam).state) ∧
        (t.video.cam cam).previous = (s.video.cam cam).previous

/-- R11, R19: every write and retirement is taken whole and raises the revision count by one, or is refused with a
status code and changes nothing; either way the clock, the links, the pad, the faults and the stop stay as they are.
-/
def Obligations.WritesAreTakenWholeOrNotAtAll : Prop :=
  ∀ (i : Instr) (s : State), s.accepts →
    ((∃ w : RecordWrite, i = .recordWrite w) ∨ (∃ k : RecordKey, i = .recordRetire k) ∨
      (∃ w : ChairWrite, i = .stationSet w) ∨ ∃ role key : Nat, i = .castSet role key) →
    ∃ t : State, exec i s = .next t ∧
      ((∃ st : Status, st ≠ .ok ∧ t = owing (plain st) s.taking) ∨
        (t.port.owed = some (plain .ok) ∧ t.book.revision = (s.book.revision + 1) % 65536 ∧
          t.clock = s.clock ∧ t.links = s.links ∧ t.pad = s.pad ∧ t.faults = s.faults ∧ t.stop = s.stop ∧
          t.due = s.due ∧ t.time = s.time ∧ t.loader = s.loader ∧ t.port.flags = s.port.flags))

/-- R178: while an image operation runs, the record requests, CAST SET, STATION SET, SONG CUT, SONG RESTORE, BOOK
INFO, the cursor requests and FAULT SET are answered BUSY and change nothing, and with the show closed so are BOOK
CLEAR, SHOW OPEN, BOOK LOAD and BOOK SAVE of a slot 0..3. That the retirement of a role, chair or settings record is
INVALID and not BUSY meanwhile is the model's choice between R17 and R19 (log 10). -/
def Obligations.ImageOperationKeepsTheHostOut : Prop :=
  (∀ (i : Instr) (s : State), s.accepts → s.busy = true →
    ((∃ w : RecordWrite, i = .recordWrite w) ∨ (∃ k : RecordKey, i = .recordRead k) ∨
      (∃ k : RecordKey, i = .cursorSet k) ∨ i = .cursorRead ∨ i = .bookInfo ∨
      (∃ role key : Nat, i = .castSet role key) ∨ (∃ w : ChairWrite, i = .stationSet w) ∨
      (∃ n : Nat, i = .songCut n ∨ i = .songRestore n) ∨
      (∃ source window action : Nat, i = .faultSet source window action) ∨
      (∃ k : RecordKey, i = .recordRetire k ∧ k ≠ .settings ∧ ∀ n : Nat, k ≠ .chair n ∧ k ≠ .role n) ∨
      (s.cue.isOpen = false ∧ (i = .bookClear ∨ i = .showOpen ∨
        ∃ slot : Nat, slot ≤ 3 ∧ (i = .bookLoad slot ∨ i = .bookSave slot)))) →
    exec i s = .next (owing (plain .busy) s.taking)) ∧
  ∀ (k : RecordKey) (s : State), s.accepts → s.busy = true →
    (k = .settings ∨ ∃ n : Nat, k = .chair n ∨ k = .role n) →
    exec (.recordRetire k) s = .next (owing (plain .invalid) s.taking)

/-- R19: a record retired with its checks passed is gone from its table, and every other record of the table stays. A
song's segments go with it; the clock's current song is IN_USE, and a song or a patch that a cue names is REFERENCED;
a patch's chair loses a target that named it; a cue lowers the counts of what it named. R3: the segment in force, and
the current song's segment at its first bar, are IN_USE. With the show open a FIRING or STANDBY cue is IN_USE, and any
other loses its run state, its timer (R44) and its hold (R48), while the last fired cue's number stays. -/
def Obligations.RetiredRecordsAreGone : Prop :=
  ∀ s : State, s.accepts → s.busy = false →
    (∀ (n : Nat) (r : Song), 1 ≤ n → n ≤ 64 → s.book.song? n = some r → s.currentSong ≠ some n → r.cueCount = 0 →
      ∃ b : Book, exec (.recordRetire (.song n)) s = .next (owing (plain .ok) { s.taking with book := b }) ∧
        b.song? n = none ∧ (∀ bar : Nat, b.segment? n bar = none) ∧
        (∀ m : Nat, m ≠ n → b.song? m = s.book.song? m ∧ ∀ bar : Nat, b.segment? m bar = s.book.segment? m bar)) ∧
    (∀ (n : Nat) (r : Song), 1 ≤ n → n ≤ 64 → s.book.song? n = some r → s.currentSong ≠ some n → r.cueCount ≠ 0 →
      exec (.recordRetire (.song n)) s = .next (owing (plain .referenced) s.taking)) ∧
    (∀ (n : Nat) (r : Song), 1 ≤ n → n ≤ 64 → s.book.song? n = some r → s.currentSong = some n →
      exec (.recordRetire (.song n)) s = .next (owing (plain .inUse) s.taking)) ∧
    (∀ (c : Chair) (n : Nat) (p : Patch), 1 ≤ n → n ≤ 999 → s.book.patch? c n = some p → p.refs ≠ 0 →
      exec (.recordRetire (.patch (chairNumber c) n)) s = .next (owing (plain .referenced) s.taking)) ∧
    (∀ (c : Chair) (n : Nat) (p : Patch), 1 ≤ n → n ≤ 999 → s.book.patch? c n = some p → p.refs = 0 →
      ∃ t : State, exec (.recordRetire (.patch (chairNumber c) n)) s = .next t ∧
        t = owing (plain .ok) { s.taking with book := t.book, patch := t.patch } ∧
        t.book.patch? c n = none ∧
        (∀ (d : Chair) (m : Nat), ¬(d = c ∧ m = n) → t.book.patch? d m = s.book.patch? d m) ∧
        (∀ d : Chair, d ≠ c → t.patch[d] = s.patch[d]) ∧
        (∀ sel : PatchSel, t.patch[c].target = some sel ↔ s.patch[c].target = some sel ∧ sel.number ≠ n) ∧
        (∀ sel : PatchSel, t.patch[c].confirmed = .patch sel ↔ s.patch[c].confirmed = .patch sel ∧ sel.number ≠ n)) ∧
    (∀ (song bar : Nat) (g : Segment), keyOk (.segment song bar) = true → s.book.segment? song bar = some g →
      (s.currentSong = some song →
        (∃ pos : SongPos, s.clock.pos = some pos ∧
            (s.book.governing? pos.song pos.bar).map (·.startBar) = some bar) ∨
          (∃ r : Song, s.book.song? song = some r ∧ r.firstBar = bar) →
        exec (.recordRetire (.segment song bar)) s = .next (owing (plain .inUse) s.taking)) ∧
      (s.currentSong ≠ some song ∨
          ((∀ pos : SongPos, s.clock.pos = some pos →
              (s.book.governing? pos.song pos.bar).map (·.startBar) ≠ some bar) ∧
            ∀ r : Song, s.book.song? song = some r → r.firstBar ≠ bar) →
        ∃ b : Book, exec (.recordRetire (.segment song bar)) s = .next (owing (plain .ok) { s.taking with book := b }) ∧
          b = { s.book with segments := b.segments, revision := (s.book.revision + 1) % 65536 } ∧
          b.segment? song bar = none ∧
          ∀ m other : Nat, ¬(m = song ∧ other = bar) → b.segment? m other = s.book.segment? m other)) ∧
    (∀ (n : CueNumber) (c : Cue), s.cue.isOpen = true → n.inRange = true → s.book.cue? n = some c →
      s.runState n = .firing ∨ s.runState n = .standby →
      exec (.recordRetire (.cue n.major n.minor)) s = .next (owing (plain .inUse) s.taking)) ∧
    (∀ (n : CueNumber) (c : Cue), n.inRange = true → s.book.cue? n = some c →
      (s.cue.isOpen = true → s.runState n ≠ .firing ∧ s.runState n ≠ .standby) →
      ∃ t : State, exec (.recordRetire (.cue n.major n.minor)) s = .next t ∧
        t = owing (plain .ok) { s.taking with book := t.book, cue := t.cue, overlay := t.overlay } ∧
        t.cue = { s.cue with
          runs := s.cue.runs.filter fun e => decide (e.cue ≠ n)
          timers := s.cue.timers.filter fun x => decide (x.cue ≠ n)
          held := if s.cue.held = some n then none else s.cue.held } ∧
        (s.cue.held ≠ some n → t.overlay = s.overlay) ∧
        t.book.cue? n = none ∧ (∀ m : CueNumber, m ≠ n → t.book.cue? m = s.book.cue? m) ∧
        (∀ (d : Chair) (m : Nat) (p : Patch), s.book.patch? d m = some p →
          t.book.patch? d m = some { p with refs := if c.namesPatch d m then p.refs - 1 else p.refs }) ∧
        ∀ (m : Nat) (r : Song), s.book.song? m = some r →
          t.book.song? m = some { r with cueCount := if c.namesSong m then r.cueCount - 1 else r.cueCount }) ∧
    ∀ k : RecordKey, (k = .settings ∨ ∃ n : Nat, k = .chair n ∨ k = .role n) →
      exec (.recordRetire k) s = .next (owing (plain .invalid) s.taking)

/-- R22, R23: RECORD READ and BOOK INFO answer and change nothing. CURSOR SET places the cursor at a key in its range;
CURSOR READ answers the first record of its table at or after the position and moves just past it, or END and leaves
the cursor where it stands. R24, R26, R104: BOOK CLEAR with the show closed empties the book, makes every target none
and a confirmed patch that names a patch UNKNOWN, and forgets the last fired cue and the completion record; the
requests in the slots and the links stay. With the show open it is refused with SHOW_OPEN. -/
def Obligations.CursorWalksTheTableAndClearEmptiesIt : Prop :=
  (∀ s : State, s.accepts → s.busy = false →
    (∀ k : RecordKey, keyOk k = true →
      (∀ r : RecordData, s.record? k = some r →
        exec (.recordRead k) s = .next (owing { status := .ok, data := .record r } s.taking)) ∧
      (s.record? k = none → exec (.recordRead k) s = .next (owing (plain .notFound) s.taking)) ∧
      exec (.cursorSet k) s = .next (owing (plain .ok)
        { s.taking with book := { s.book with cursorTable := keyTable k, cursorPos := keyPair k } })) ∧
    (∀ k : RecordKey, keyOk k = false →
      exec (.recordRead k) s = .next (owing (plain .outOfRange) s.taking) ∧
      exec (.cursorSet k) s = .next (owing (plain .outOfRange) s.taking)) ∧
    (∀ (before : List ((Nat × Nat) × RecordData)) (key : Nat × Nat) (r : RecordData)
        (after : List ((Nat × Nat) × RecordData)),
      s.tableRecords s.book.cursorTable = before ++ (key, r) :: after →
      (∀ x ∈ before, atOrBefore s.book.cursorPos x.1 = false) → atOrBefore s.book.cursorPos key = true →
      exec .cursorRead s = .next (owing { status := .ok, data := .record r }
        { s.taking with book := { s.book with cursorPos := (key.1, key.2 + 1) } })) ∧
    ((∀ x ∈ s.tableRecords s.book.cursorTable, atOrBefore s.book.cursorPos x.1 = false) →
      exec .cursorRead s = .next (owing (plain .finished) s.taking)) ∧
    (∃ info : BookSummary, exec .bookInfo s = .next (owing { status := .ok, data := .summary info } s.taking) ∧
      info.songs = s.book.songs.length ∧ info.segments = s.book.segments.length ∧
      info.cues = s.book.cues.length ∧ info.patches = s.book.patches.length ∧
      info.poolUse = (s.book.patches.map Patch.size).sum ∧ info.poolFree = 16384 - info.poolUse ∧
      info.revision = s.book.revision ∧
      info.cutSongs = (s.book.songs.filter fun r => decide (r.running = .cut)).length)) ∧
  ∀ s : State, s.accepts →
    (s.cue.isOpen = true → exec .bookClear s = .next (owing (plain .showOpen) s.taking)) ∧
    (s.cue.isOpen = false → s.busy = false →
      ∃ t : State, exec .bookClear s = .next t ∧ t.port.owed = some (plain .ok) ∧ t.book = Book.empty ∧
        t.cue = { s.cue with lastFired := none, completion := none } ∧
        (∀ c : Chair, t.patch[c].target = none ∧
          t.patch[c].confirmed = (if s.patch[c].confirmed = .modified then .modified else .unknown) ∧
          t.patch[c].waiting = s.patch[c].waiting ∧ t.patch[c].flight.isSome = s.patch[c].flight.isSome ∧
          t.patch[c].counts = s.patch[c].counts) ∧
        t.clock = s.clock ∧ t.links = s.links ∧ t.due = s.due ∧ t.pad = s.pad ∧ t.time = s.time ∧
        t.loader = s.loader)

/-- R20, R21: SONG CUT and SONG RESTORE are IN_USE for the clock's current song, and change nothing where the flag
stands already; with the show closed they set the flag and raise the revision count. With the show open, a cut makes
every PENDING and STANDBY cue of the song PASSED with its timer cancelled, leaves the others of its cues in their run
states, a FIRING one that a resume has marked marked to return as PASSED, and moves a standby that was among them to
the next PENDING GO cue after it. A restore makes the song's PASSED cues after the last fired cue PENDING, re-marks
its FIRING ones that a cut had marked to return as PASSED, and places a standby where none stood: the first PENDING GO
cue after the last fired cue. The standby is in STANDBY, and the cue list of an open show has each number once, with a
run entry. -/
def Obligations.SongCutPassesItsCues : Prop :=
  ∀ (n : Nat) (r : Song) (s : State), s.accepts → s.busy = false → 1 ≤ n → n ≤ 64 → s.book.song? n = some r →
    (s.currentSong = some n →
      exec (.songCut n) s = .next (owing (plain .inUse) s.taking) ∧
      exec (.songRestore n) s = .next (owing (plain .inUse) s.taking)) ∧
    (s.currentSong ≠ some n →
      (r.running = .cut → exec (.songCut n) s = .next (owing (plain .ok) s.taking)) ∧
      (r.running = .playing → exec (.songRestore n) s = .next (owing (plain .ok) s.taking)) ∧
      (s.cue.isOpen = false → r.running = .playing →
        exec (.songCut n) s = .next (owing (plain .ok)
          { s.taking with book := (s.book.setRunning n .cut).revise })) ∧
      (s.cue.isOpen = false → r.running = .cut →
        exec (.songRestore n) s = .next (owing (plain .ok)
          { s.taking with book := (s.book.setRunning n .playing).revise })) ∧
      (∀ f : Running, (s.book.setRunning n f).song? n = some { r with running := f } ∧
        (s.book.setRunning n f).revise = { s.book with
          songs := (s.book.setRunning n f).songs, revision := (s.book.revision + 1) % 65536 } ∧
        ∀ m : Nat, m ≠ n → (s.book.setRunning n f).song? m = s.book.song? m) ∧
      (s.cue.isOpen = true → s.book.cues.Pairwise (fun x y => x.number ≠ y.number) →
        (∀ c ∈ s.book.cues, (s.cue.entry? c.number).isSome = true) →
        (∀ m : CueNumber, s.cue.standby = some m → s.runState m = .standby) →
        (r.running = .playing →
          ∃ t : State, exec (.songCut n) s = .next t ∧
            t = owing (plain .ok) { s.taking with
              book := (s.book.setRunning n .cut).revise, cue := t.cue, overlay := t.overlay } ∧
            t.cue = { s.cue with
              runs := t.cue.runs, standby := t.cue.standby, held := t.cue.held, timers := t.cue.timers } ∧
            (∀ c ∈ s.book.cues, c.song = some n →
              t.runState c.number =
                if s.runState c.number = .pending ∨ s.runState c.number = .standby then .passed
                else s.runState c.number) ∧
            (∀ c ∈ s.book.cues, c.song ≠ some n →
              t.runState c.number =
                if t.cue.standby = some c.number then .standby else s.runState c.number) ∧
            (∀ c ∈ s.book.cues, ∀ e : RunEntry, c.song = some n → s.cue.entry? c.number = some e →
              e.state = .firing →
              t.cue.entry? c.number = some { e with mark := e.mark.map fun _ => .passed }) ∧
            (∀ x : FollowTimer, x ∈ t.cue.timers ↔ x ∈ s.cue.timers ∧
              ∀ c ∈ s.book.cues, c.number = x.cue → c.song = some n →
                s.runState c.number ≠ .pending ∧ s.runState c.number ≠ .standby) ∧
            (∀ c ∈ s.book.cues, s.cue.standby = some c.number →
              t.cue.standby = if c.song = some n then
                ((s.book.cues.filter fun d => decide (d.trigger = .go) && c.number.before d.number &&
                  decide (d.song ≠ some n) && decide (s.runState d.number = .pending)).map (·.number)).head?
              else some c.number)) ∧
        (r.running = .cut →
          ∃ t : State, exec (.songRestore n) s = .next t ∧
            t = owing (plain .ok) { s.taking with
              book := (s.book.setRunning n .playing).revise, cue := t.cue, overlay := t.overlay } ∧
            t.cue = { s.cue with runs := t.cue.runs, standby := t.cue.standby, held := t.cue.held } ∧
            (∀ c ∈ s.book.cues, t.runState c.number =
              if t.cue.standby = some c.number then .standby
              else if c.song = some n ∧ s.runState c.number = .passed ∧
                  (s.cue.lastFired.all fun m => m.before c.number) = true then .pending
              else s.runState c.number) ∧
            (∀ c ∈ s.book.cues, ∀ e : RunEntry, c.song = some n → s.cue.entry? c.number = some e →
              e.state = .firing → e.mark = some .passed →
              t.cue.entry? c.number = some { e with mark := some (
                if (s.cue.lastFired.all fun m => m.before c.number) = true then .pending else .complete) }) ∧
            (s.cue.standby ≠ none → t.cue.standby = s.cue.standby) ∧
            (s.cue.standby = none → t.cue.standby =
              ((s.book.cues.filter fun d => decide (d.trigger = .go) &&
                (s.cue.lastFired.all fun m => m.before d.number) &&
                (decide (s.runState d.number = .pending) ||
                  (decide (d.song = some n) && decide (s.runState d.number = .passed)))).map (·.number)).head?))))


/-! ## The Image Loader (R177 to R183) -/

/-- R179: BOOK LOAD is checked for its slot, an open show and a running operation, in that order, and is otherwise
ACCEPTED, with a progress of 0 of 0 by the model's choice (log 34). The header read then ends the load with
BAD_HEADER, for a wrong identifier or format version or a settings, chair or role count other than 1, 16 and 32, or
with TOO_LARGE, each with an empty book; or it starts the installation into an empty book with the records of the
seven counts in all. R180, R104: the clearing makes every target none, and a confirmed patch UNKNOWN but where it is
MODIFIED, and leaves what waits; that a failed header read clears them likewise is read from R181 (log 20). That the
last fired cue and the completion record stay through the start of an installation is the model's choice (log 32). -/
def Obligations.LoadStartsFromItsHeader : Prop :=
  (∀ (slot : Nat) (s : State), s.accepts →
    (3 < slot → exec (.bookLoad slot) s = .next (owing (plain .outOfRange) s.taking)) ∧
    (slot ≤ 3 → s.cue.isOpen = true → exec (.bookLoad slot) s = .next (owing (plain .showOpen) s.taking)) ∧
    (slot ≤ 3 → s.cue.isOpen = false → s.busy = false →
      ∃ t : State, exec (.bookLoad slot) s = .next t ∧
        t = owing (plain .accepted) { s.taking with loader := t.loader } ∧
        t.loader.report = { state := .readingHeader, op := some .load, slot := some slot, progress := some { done := 0, total := 0 }
                            result := none, failed := none })) ∧
  ∀ (bytes : List Byte) (s : State), s.resetHeld = false → s.cue.isOpen = false →
    s.loader.report.state = .readingHeader →
    ∃ t : State, exec (.imageHeaderRead bytes) s = .next t ∧ t.book = Book.empty ∧
      (∀ c : Chair, t.patch[c].target = none ∧ t.patch[c].waiting = s.patch[c].waiting ∧
        t.patch[c].confirmed = if s.patch[c].confirmed = .modified then .modified else .unknown) ∧
      (t.loader.report.state = .failed → t.port.flags = s.port.flags ||| EventFlag.imageDone.bit ∧
        t.cue = { s.cue with lastFired := none, completion := none }) ∧
      (bytes.take 4 ≠ [0x46#8, 0x57#8, 0x42#8, 0x4B#8] →
        t.loader.report = { s.loader.report with state := .failed, result := some .badHeader }) ∧
      ∀ (version songs segments cues patches entries settings chairs roles length : Nat) (crc : BitVec 32),
        version < 65536 → songs < 65536 → segments < 65536 → cues < 65536 → patches < 65536 → entries < 65536 →
        settings < 65536 → chairs < 65536 → roles < 65536 → length < 4294967296 →
        bytes = [0x46#8, 0x57#8, 0x42#8, 0x4B#8] ++ bigEndian 2 version ++ bigEndian 2 songs ++ bigEndian 2 segments ++
          bigEndian 2 cues ++ bigEndian 2 patches ++ bigEndian 2 entries ++ bigEndian 2 settings ++
          bigEndian 2 chairs ++ bigEndian 2 roles ++ bigEndian 4 length ++ bigEndian 4 crc.toNat →
        (version ≠ 1 ∨ settings ≠ 1 ∨ chairs ≠ 16 ∨ roles ≠ 32 →
          t.loader.report = { s.loader.report with state := .failed, result := some .badHeader }) ∧
        (version = 1 → settings = 1 → chairs = 16 → roles = 32 →
          (64 < songs ∨ 512 < segments ∨ 1024 < cues ∨ 2048 < patches ∨ 16384 < entries ∨ 1048546 < length →
            t.loader.report = { s.loader.report with state := .failed, result := some .tooLarge }) ∧
          (songs ≤ 64 → segments ≤ 512 → cues ≤ 1024 → patches ≤ 2048 → entries ≤ 16384 → length ≤ 1048546 →
            t.loader.report = { s.loader.report with
              state := .installing
              progress := some { done := 0, total := songs + segments + cues + patches + 49 } } ∧
            t.loader.header = some {
              songs := songs, segments := segments, cues := cues, patches := patches, entries := entries
              settings := 1, chairs := 16, roles := 32, bodyLength := length, bodyCrc := crc } ∧
            t.loader.bodyPos = 0 ∧ t.cue = s.cue ∧ t.port.flags = s.port.flags))

/-- R180, R181: a record read of a body is installed and raises the progress by one, or ends the load with an empty
book: with COUNT_MISMATCH where its table is none of 1 to 7 or it breaks the body's structure, and with
BROKEN_REFERENCE and the failed record, with the write's status, where its write is refused. A segment, patch, cue,
chair or role record does what RECORD WRITE of its bytes does in an idle loader, but for the revision count; a song
record is created with its running flag, or refused with OUT_OF_RANGE for a flag above 1, and the settings record
brings its 70 fault source settings, or is refused with OUT_OF_RANGE for a class or action outside its values. A
record of any table that ends short of its fields, or goes on past them, is refused with BAD_LENGTH. At the body's end
a table short of its count is COUNT_MISMATCH, a wrong CRC is CHECKSUM, and otherwise the load is DONE: whatever the
header's parameter entry count is, by the model's choice (log 31), and with the CRC in the bit order that the model
presumes (log 19). -/
def Obligations.RecordsAreInstalledOrEndTheLoad : Prop :=
  (∀ (code : Byte) (length : BitVec 16) (payload : List Byte) (h : ImageHeader) (s : State), s.resetHeld = false →
    s.cue.isOpen = false → s.loader.report.state = .installing → s.loader.header = some h →
    s.loader.bodyPos < h.bodyLength → payload.length = length.toNat →
    ∃ (t failed : State) (refused : Status → State) (report : LoaderReport),
      exec (.imageRecordInstall code length payload) s = .next t ∧
      (failed.book = Book.empty ∧ failed.port.flags = s.port.flags ||| EventFlag.imageDone.bit ∧
        failed.loader.report = { s.loader.report with state := .failed, result := some .countMismatch }) ∧
      (∀ (st : Status) (table : Table), code.toNat = tableCode table →
        refused st = { failed with loader := { failed.loader with report := { s.loader.report with
          state := .failed, result := some .brokenReference
          failed := some { table := table, position := s.loader.metOf table + 1, status := st } } } }) ∧
      report = { s.loader.report with
        progress := s.loader.report.progress.map fun p => { p with done := p.done + 1 } } ∧
      ((code = 0#8 ∨ 7 < code.toNat) → t = failed) ∧
      ∀ table : Table, code.toNat = tableCode table →
        (s.breaksStructure h table length.toNat payload → t = failed) ∧
        (¬s.breaksStructure h table length.toNat payload →
          (∀ (w : RecordWrite) (u : State) (st : Status), wellFormed (.recordWrite w) = true →
            table ≠ .songs → table ≠ .settings → writeTable w = table → payload = putFields w →
            exec (.recordWrite w) { s with loader := Loader.initial, port := Port.initial } = .next u →
            u.port.owed = some (plain st) →
            (st ≠ .ok → t = refused st) ∧
            (st = .ok → t.loader.report = report ∧ t.loader.bodyPos = s.loader.bodyPos + 3 + payload.length ∧
              t = { u with
                loader := t.loader, port := s.port, book := { u.book with revision := s.book.revision } })) ∧
          (∀ (w : SongWrite) (flag : Byte) (u : State) (st : Status), wellFormed (.recordWrite (.song w)) = true →
            table = .songs → payload = putFields (.song w) ++ [flag] → flag.toNat ≤ 1 →
            exec (.recordWrite (.song w)) { s with loader := Loader.initial, port := Port.initial } = .next u →
            u.port.owed = some (plain st) → (st ≠ .ok → t = refused st) ∧
            (st = .ok → t.loader.report = report ∧ t.loader.bodyPos = s.loader.bodyPos + 3 + payload.length ∧
            t = { s with loader := t.loader, book := { s.book with songs := t.book.songs } } ∧
            (∀ r : Song, u.book.song? w.number = some r →
              t.book.song? w.number = some { r with running := if flag = 1#8 then .cut else .playing }) ∧
            ∀ m : Nat, m ≠ w.number → t.book.song? m = s.book.song? m)) ∧
          (∀ (w : SongWrite) (flag : Byte), wellFormed (.recordWrite (.song w)) = true → table = .songs →
            payload = putFields (.song w) ++ [flag] → 1 < flag.toNat → t = refused .outOfRange) ∧
          (∀ (w : SettingsWrite) (faults : List (Byte × Byte)),
            wellFormed (.recordWrite (.settings w)) = true → table = .settings → faults.length = 70 →
            payload = putFields (.settings w) ++ faults.flatMap (fun p => [p.1, p.2]) →
            (settingsOf w s.book.settings.faults = none ∨
                (∃ p ∈ faults, windowClassOf p.1.toNat = none ∨ faultActionOf p.2.toNat = none) →
              t = refused .outOfRange) ∧
            ∀ (set : Settings) (settings : Vector FaultSetting 70), settingsOf w s.book.settings.faults = some set →
            (∀ i : Source, ∃ p : Byte × Byte, faults[i.val]? = some p ∧
              windowClassOf p.1.toNat = some settings[i].window ∧ faultActionOf p.2.toNat = some settings[i].action) →
            t.loader.report = report ∧ t.loader.bodyPos = s.loader.bodyPos + 3 + payload.length ∧
            t.book = { s.book with settings := { set with faults := settings } }) ∧
          ∀ whole extra rest : List Byte, EncodesRecord table whole →
            (payload = whole ++ extra ∧ extra ≠ []) ∨ (whole = payload ++ rest ∧ rest ≠ []) →
            t = refused .badLength)) ∧
  ∀ (h : ImageHeader) (s : State), s.resetHeld = false → s.cue.isOpen = false →
    s.loader.report.state = .installing → s.loader.header = some h → h.bodyLength ≤ s.loader.bodyPos →
    ∃ t : State, exec .imageBodyEnd s = .next t ∧ t.port.flags = s.port.flags ||| EventFlag.imageDone.bit ∧
      ((∃ table : Table, s.loader.metOf table < h.count table) →
        t.book = Book.empty ∧ t.loader.report =
          { s.loader.report with state := .failed, result := some .countMismatch }) ∧
      ((∀ table : Table, h.count table ≤ s.loader.metOf table) →
        (crc32Result s.loader.crc ≠ h.bodyCrc →
          t.book = Book.empty ∧ t.loader.report =
            { s.loader.report with state := .failed, result := some .checksum }) ∧
        (crc32Result s.loader.crc = h.bodyCrc →
          t.book = s.book ∧ t.loader.report = { s.loader.report with state := .done, result := some .done }))

/-- R182: BOOK SAVE is ACCEPTED and starts the erase, with the records of the book in all, none of them written yet
(the model's choice, log 34). A blank slot starts the writing; each record read back as it was written raises the
progress, and a header read back as it was written ends the save with DONE. A slot of which some byte does not read
FFh, a byte that differs, an erase not finished within 30 s and a program not finished within 10 ms end the save with
FLASH_ERROR. No step of a save changes the book. What each command carries of the flash, and that the 10 ms run for
each whole record, is the model's choice (log 20); so is the bit order of the CRC (log 19). -/
def Obligations.SaveWritesTheBookAndItsHeader : Prop :=
  (∀ (slot : Nat) (s : State), s.accepts → slot ≤ 3 → s.cue.isOpen = false → s.busy = false →
    ∃ t : State, exec (.bookSave slot) s = .next t ∧
      t = owing (plain .accepted) { s.taking with loader := t.loader } ∧
      t.loader.report = { state := .erasing, op := some .save, slot := some slot, result := none, failed := none
                          progress := some {
                            done := 0
                            total := s.book.songs.length + s.book.segments.length + s.book.patches.length +
                              s.book.cues.length + 49 } } ∧
      t.loader.eraseBy = some (s.time.micros + 30000000)) ∧
  (∀ s : State, s.resetHeld = false → s.loader.report.state = .erasing →
    (∃ t : State, exec (.slotEraseDone (List.replicate 1048576 0xFF#8)) s = .next t ∧
      t = { s with loader := t.loader } ∧
      t.loader.report = { s.loader.report with state := .writing } ∧
      t.loader.programBy = some (s.time.micros + 10000)) ∧
    ∃ t : State,
      (∀ slot : List Byte, slot ≠ List.replicate 1048576 0xFF#8 → exec (.slotEraseDone slot) s = .next t) ∧
      t = { s with loader := t.loader, port := { s.port with flags := s.port.flags ||| EventFlag.imageDone.bit } } ∧
      t.loader.report = { s.loader.report with state := .failed, result := some .flashError } ∧
      ∀ limit : Nat, s.loader.eraseBy = some limit → limit ≤ s.time.micros → exec .eraseTimeout s = .next t) ∧
  ∀ (p : Progress) (s : State), s.resetHeld = false → s.loader.report.state = .writing →
    s.loader.report.progress = some p →
    (∀ bytes : List Byte, s.book.bodyRecords[p.done]? = some bytes →
      ∃ t : State, exec (.imageRecordWrite bytes) s = .next t ∧ t = { s with loader := t.loader } ∧
        t.loader.report = { s.loader.report with progress := some { p with done := p.done + 1 } } ∧
        t.loader.bodyPos = s.loader.bodyPos + bytes.length ∧ t.loader.crc = crc32Step s.loader.crc bytes) ∧
    (p.done = p.total →
      ∃ t : State, exec (.imageHeaderWrite (s.book.headerBytes s.loader.bodyPos (crc32Result s.loader.crc))) s =
          .next t ∧
        t = { s with loader := t.loader, port := { s.port with flags := s.port.flags ||| EventFlag.imageDone.bit } } ∧
        t.loader.report = { s.loader.report with state := .done, result := some .done }) ∧
    ∃ t : State,
      t = { s with loader := t.loader, port := { s.port with flags := s.port.flags ||| EventFlag.imageDone.bit } } ∧
      t.loader.report = { s.loader.report with state := .failed, result := some .flashError } ∧
      (∀ limit : Nat, s.loader.programBy = some limit → limit ≤ s.time.micros → exec .programTimeout s = .next t) ∧
      (∀ bytes readBack : List Byte, s.book.bodyRecords[p.done]? = some bytes → readBack ≠ bytes →
        exec (.imageRecordWrite readBack) s = .next t) ∧
      (∀ readBack : List Byte, p.done = p.total →
        readBack ≠ s.book.headerBytes s.loader.bodyPos (crc32Result s.loader.crc) →
        exec (.imageHeaderWrite readBack) s = .next t)

/-! ## The show and its cues (R25 to R48) -/

/-- R27: SHOW OPEN is refused with SHOW_OPEN or BUSY, in that order. Taken, it makes every cue of a CUT song PASSED
and every other PENDING, with the first GO cue of no CUT song as the standby, parks the clock, sets the stop CLEAR
(R176) and the arming delay running with no held flag (R158), and clears what each block's table says (R51, R82, R107,
R146). With the stop line ACTIVE the show is stopped at once by LINE. The clock of a closed show is PARKED and its
stop state CLEAR (closedQuiet); the cue list holds each number once. -/
def Obligations.ShowOpenStartsTheShow : Prop :=
  ∀ s : State, s.accepts →
    (s.cue.isOpen = true → exec .showOpen s = .next (owing (plain .showOpen) s.taking)) ∧
    (s.cue.isOpen = false → s.busy = true → exec .showOpen s = .next (owing (plain .busy) s.taking)) ∧
    (s.cue.isOpen = false → s.busy = false → s.closedQuiet →
      s.book.cues.Pairwise (fun x y => x.number ≠ y.number) →
      ∃ t : State, exec .showOpen s = .next t ∧ t.port.owed = some (plain .ok) ∧
        t = { s with
          cue := t.cue, clock := t.clock, clicks := t.clicks, due := [], patch := t.patch, links := t.links,
          overlay := t.overlay, faults := t.faults, stop := t.stop, port := t.port } ∧
        t.cue = { CueEngine.initial with isOpen := true, runs := t.cue.runs, standby := t.cue.standby } ∧
        t.cue.standby =
          ((s.book.cues.filter fun c => decide (c.trigger = .go) && !s.book.cueCut c).map (·.number)).head? ∧
        (∀ c ∈ s.book.cues, t.runState c.number =
          if s.book.cueCut c then .passed else if t.cue.standby = some c.number then .standby else .pending) ∧
        t.clock = { s.clock with
          pos := none, next := none, ending := none, override := none, adjust := none, tapOnset := none, taps := [],
          rejected := 0, vamp := none, holdDue := false, countIn := none } ∧
        (∀ c : Chair, t.clicks[c] = { s.clicks[c] with enable := true } ∧
          t.patch[c] = { s.patch[c] with
            flight := t.patch[c].flight, counts := Dispatch.initial.counts, last := none } ∧
          t.patch[c].flight.map (·.tag) = s.patch[c].flight.map (·.tag) ∧
          ∀ n : CueNumber, t.patch[c].flight.any (fun f => f.req.isOf n) = false) ∧
        t.faults.armed = false ∧ t.faults.armExp = some (s.time.tick + 96000#32) ∧
        (∀ i : Source, t.faults.sources[i] = { s.faults.sources[i] with held := false }) ∧
        (s.stop.line = false →
          t.stop = { s.stop with held := SourceSet.empty, record := none, count := 0 } ∧
          t.overlay = { s.overlay with
            lastCue := none, standby := t.cue.standby, position := none, beat := none, stopCard := none,
            countCard := none } ∧
          t.links = s.links ∧ t.port.flags = s.port.flags) ∧
        (s.stop.line = true →
          t.stop = { s.stop with
            state := .stopped, held := SourceSet.empty.add .line, count := 1
            record := some { sources := SourceSet.empty.add .line, first := .line, tick := s.time.tick, pos := none,
                             lastFired := none, number := 1 } } ∧
          t.overlay.stopCard = some { first := .line, pos := none } ∧
          t.port.flags = s.port.flags ||| EventFlag.stopChange.bit ∧
          ∀ c : Chair, t.links[c] =
            if s.links[c].state = .locked then { s.links[c] with stopMark := some true } else s.links[c]))

/-- R28: SHOW CLOSE is refused with NOT_OPEN, or ends every run state, the standby, the held follow cue, the timers
and the guard, and keeps the last fired cue and the completion record. It parks the clock (R51), makes the stop state
CLEAR with no held source (R176), empties the pending slots (R107) and the due list, taking back what the links hold
of it (R81), and disarms the Fault Monitor with no live flag and the FAULT output CLEAR (R158, R163). A change of
clock or stop state is flagged, and no other flag is. -/
def Obligations.ShowCloseEndsTheShow : Prop :=
  ∀ s : State, s.accepts →
    (s.cue.isOpen = false → exec .showClose s = .next (owing (plain .notOpen) s.taking)) ∧
    (s.cue.isOpen = true →
      ∃ t : State, exec .showClose s = .next t ∧ t.port.owed = some (plain .ok) ∧
        t = { s with
          cue := t.cue, clock := t.clock, clicks := t.clicks, due := [], patch := t.patch, links := t.links,
          overlay := t.overlay, faults := t.faults, stop := t.stop, port := t.port } ∧
        t.cue = { CueEngine.initial with
          lastFired := s.cue.lastFired, completion := s.cue.completion, ignoredPad := s.cue.ignoredPad,
          ignoredChair := s.cue.ignoredChair } ∧
        t.clock = { s.clock with
          state := .parked, pos := none, next := none, ending := none, override := none, adjust := none,
          tapOnset := none, taps := [], vamp := none, holdDue := false, countIn := none } ∧
        s.handsOver t (fun _ => true) [] ∧
        (∀ c : Chair, t.patch[c] = { s.patch[c] with waiting := none, adhoc := [] } ∧
          t.links[c] = { s.links[c] with
            clickQueue := t.links[c].clickQueue
            stopMark :=
              if s.links[c].state = .locked ∧ s.stop.state ≠ .clear then some false else s.links[c].stopMark }) ∧
        t.stop = { s.stop with state := .clear, held := SourceSet.empty } ∧
        t.overlay = { s.overlay with
          standby := none, position := none, beat := none, stopCard := none, countCard := none } ∧
        t.faults = { s.faults with armed := false, armExp := none, raised := false, sources := t.faults.sources } ∧
        (∀ i : Source, t.faults.sources[i] = { s.faults.sources[i] with live := false }) ∧
        t.port.flags = s.port.flags |||
          (if s.clock.state = .parked then 0#10 else EventFlag.clockChange.bit) |||
          (if s.stop.state = .clear then 0#10 else EventFlag.stopChange.bit))

/-- R30, steps 1 to 4 and 6: a GO with the show closed is NOT_OPEN; in STOPPED and COUNT_IN, with the guard running,
with nothing to fire, or of a kind that the standby cue does not allow, it is answered STOPPED, INVALID, NO_STANDBY
and INVALID in that order, flags GO_IGNORED, and changes nothing else. -/
def Obligations.GoIsIgnoredByItsSteps : Prop :=
  ∀ s : State, s.accepts →
    (s.cue.isOpen = false → exec .go s = .next (owing (plain .notOpen) s.taking)) ∧
    (s.cue.isOpen = true →
      (s.stop.state ≠ .clear → exec .go s = .next (owing (plain .stopped) (flag .goIgnored s.taking))) ∧
      (s.stop.state = .clear →
        (s.cue.guard ≠ none → exec .go s = .next (owing (plain .invalid) (flag .goIgnored s.taking))) ∧
        (s.cue.guard = none → s.cue.held = none →
          (s.cue.standby = none → exec .go s = .next (owing (plain .noStandby) (flag .goIgnored s.taking))) ∧
          ∀ (n : CueNumber) (c : Cue), s.cue.standby = some n → s.book.cue? n = some c → c.mask.control = false →
            exec .go s = .next (owing (plain .invalid) (flag .goIgnored s.taking)))))

/-- R30, R32, R37: a GO fires the standby cue, here one that names no patch and hands nothing to the clock, and
answers its number. The cue is COMPLETE at once (R35); the PENDING GO cues before it are PASSED, and the standby moves
to the first PENDING GO cue after it; the guard starts with the settings' time, or stays idle for 0 (R31). Every other
cue keeps its run state. R48: a GO fires the held follow cue before any standby, whatever its mask: the hold ends and
the guard starts, and the standby and every other cue stay as they are, also, by the model's choice, where a write has
amended the held cue to a GO cue (log 23). -/
def Obligations.GoFiresTheStandbyCue : Prop :=
  (∀ (n : CueNumber) (c : Cue) (s : State), s.accepts → s.stop.state = .clear → s.cue.guard = none →
    s.cue.held = none → s.cue.standby = some n → s.firesPlainly n c → c.trigger = .go → c.mask.control = true →
    s.book.cues.Pairwise (fun x y => x.number ≠ y.number) →
    (∀ d ∈ s.book.cues, (s.cue.entry? d.number).isSome = true) →
    ∃ t : State, exec .go s = .next t ∧ t.port.owed = some { status := .ok, data := .cue n } ∧
      s.firedPlainly t n c ∧
      t.cue = { s.cue with
        runs := t.cue.runs, standby := t.cue.standby, holdCandidate := none, timers := t.cue.timers
        guard := t.cue.guard, lastFired := some n, completion := t.cue.completion } ∧
      t.cue.standby = (s.pendingGo.filter fun m => n.before m).head? ∧
      t.overlay = { s.overlay with lastCue := some (n, c.text), standby := t.cue.standby } ∧
      t.cue.guard = (if s.book.settings.goGuard = 0 then none
        else some (s.time.tick + BitVec.ofNat 32 (48 * s.book.settings.goGuard))) ∧
      ∀ d ∈ s.book.cues, d.number ≠ n →
        t.runState d.number =
          if d.trigger = .go ∧ d.number.before n = true ∧
              (s.runState d.number = .pending ∨ s.runState d.number = .standby) then .passed
          else if t.cue.standby = some d.number then .standby
          else s.runState d.number) ∧
  ∀ (n : CueNumber) (c : Cue) (s : State), s.accepts → s.stop.state = .clear → s.cue.guard = none →
    s.cue.held = some n → s.firesPlainly n c →
    ∃ t : State, exec .go s = .next t ∧ t.port.owed = some { status := .ok, data := .cue n } ∧
      s.firedPlainly t n c ∧
      t.cue = { s.cue with
        runs := t.cue.runs, held := none, holdCandidate := none, lastFired := some n
        completion := t.cue.completion
        guard := if s.book.settings.goGuard = 0 then none
          else some (s.time.tick + BitVec.ofNat 32 (48 * s.book.settings.goGuard)) } ∧
      t.overlay = { s.overlay with lastCue := some (n, c.text), standby := s.cue.standby } ∧
      ∀ m : CueNumber, m ≠ n → t.runState m = s.runState m

/-- R33, R35, R94, R95: a GO of a cue whose one station action names a present patch, for an enabled chair that is
LOCKED and idle and does not hold it, sends it at once: the tag rises, the PATCH message carries the list of the
variant, the acknowledgement is due in 1920 ticks, and the cue is FIRING. The variant is that of the song's key role
where the patch has a list for it, and the base otherwise, as for a cue of no song and for a song with no key role. No
other chair is touched. -/
def Obligations.GoSendsThePatchOfItsCue : Prop :=
  ∀ (n : CueNumber) (c : Cue) (a : StationAction) (p : Patch) (s : State), s.accepts → s.cue.isOpen = true →
    s.stop.state = .clear → s.cue.guard = none → s.cue.held = none → s.cue.standby = some n →
    s.book.cue? n = some c → (s.cue.entry? n).isSome = true → c.trigger = .go → c.mask.control = true →
    c.tempo = none → c.vamp = none → c.actions = [a] → a.patch = some p.number → a.click = .unchanged →
    s.book.patch? a.chair p.number = some p → s.book.chairs[a.chair].enabled = true →
    s.links[a.chair].state = .locked → s.patch[a.chair].flight = none → s.patch[a.chair].waiting = none →
    s.patch[a.chair].confirmed ≠ .patch { number := p.number, variant := s.variantFor c a.chair p.number } →
    (∀ d : Cue, s.cueAfter n = some d → d.isFollow = false) →
    ∃ (t : State) (v : Variant), exec .go s = .next t ∧
      t.port.owed = some { status := .ok, data := .cue n } ∧
      t.port.flags = s.port.flags ||| EventFlag.cueFired.bit ∧
      t.patch[a.chair] = { s.patch[a.chair] with
        flight := some { req := .cue n false { number := p.number, variant := v }, tag := s.patch[a.chair].tag + 1#8,
                         expiry := s.time.tick + 1920#32, retired := false }
        target := some { number := p.number, variant := v }
        tag := s.patch[a.chair].tag + 1#8
        counts := { s.patch[a.chair].counts with sent := bump s.patch[a.chair].counts.sent } } ∧
      t.links[a.chair] = { s.links[a.chair] with
        patchMsg := some { tag := s.patch[a.chair].tag + 1#8, entries := p.list v } } ∧
      (∀ d : Chair, d ≠ a.chair → t.patch[d] = s.patch[d] ∧ t.links[d] = s.links[d]) ∧
      t.runState n = .firing ∧ t.cue.lastFired = some n ∧ t.cue.completion = s.cue.completion ∧
      t = { s with cue := t.cue, overlay := t.overlay, patch := t.patch, links := t.links, port := t.port } ∧
      (∀ (song role : Nat) (r : Song) (i : Fin 32), c.song = some song → s.book.song? song = some r →
        r.keyRole = some role → role = i.val + 1 →
        v = if p.hasList s.book.roles[i] then s.book.roles[i] else .base) ∧
      (∀ (song : Nat) (r : Song), c.song = some song → s.book.song? song = some r → r.keyRole = none → v = .base) ∧
      (c.song = none → v = .base)

/-- R38: STANDBY SET is checked in order, and moves the standby to a PENDING GO cue: the old standby becomes PENDING,
the named cue STANDBY, and no follow cue is held. The standby is in STANDBY, and each cue of the open show has its run
state. That the standby's own STANDBY SET leaves a cue waiting to be held is the model's choice (log 36). R39: STANDBY
NEXT goes to the first PENDING GO cue after the standby, or with none after the last fired cue or first of all;
STANDBY BACK to the last before the standby, or last of all. The old standby becomes PENDING, the held follow cue
stays, and with no cue in that direction nothing moves. Both answer the standby, and are NOT_OPEN with the show
closed. -/
def Obligations.StandbyIsSetAndStepped : Prop :=
  (∀ (major minor : Nat) (s : State), s.accepts →
    (s.cue.isOpen = false → exec (.standbySet major minor) s = .next (owing (plain .notOpen) s.taking)) ∧
    (s.cue.isOpen = true →
      (major < 1 ∨ 999 < major ∨ 9 < minor →
        exec (.standbySet major minor) s = .next (owing (plain .outOfRange) s.taking)) ∧
      (1 ≤ major → major ≤ 999 → minor ≤ 9 →
        (s.book.cue? { major := major, minor := minor } = none →
          exec (.standbySet major minor) s = .next (owing (plain .notFound) s.taking)) ∧
        ∀ (n : CueNumber) (c : Cue), n = { major := major, minor := minor } → s.book.cue? n = some c →
          (s.cue.standby = some n →
            exec (.standbySet major minor) s =
              .next (owing { status := .ok, data := .standby (some n) } s.taking)) ∧
          (s.cue.standby ≠ some n → ¬(c.trigger = .go ∧ s.runState n = .pending) →
            exec (.standbySet major minor) s = .next (owing (plain .invalid) s.taking)) ∧
          (s.cue.standby ≠ some n → c.trigger = .go → s.runState n = .pending →
            (s.cue.entry? n).isSome = true → (∀ m : CueNumber, s.cue.standby = some m → s.runState m = .standby) →
            ∃ t : State, exec (.standbySet major minor) s = .next t ∧
              t = owing { status := .ok, data := .standby (some n) }
                { s.taking with cue := t.cue, overlay := { s.overlay with standby := some n } } ∧
              t.cue = { s.cue with runs := t.cue.runs, standby := some n, held := none, holdCandidate := none } ∧
              t.runState n = .standby ∧ (∀ m : CueNumber, s.cue.standby = some m → t.runState m = .pending) ∧
              ∀ m : CueNumber, m ≠ n → s.cue.standby ≠ some m → t.runState m = s.runState m)))) ∧
  ∀ (i : Instr) (target : Option CueNumber) (s : State), s.accepts →
    (i = .standbyNext ∧ target =
        (match s.cue.standby, s.cue.lastFired with
         | some n, _ => (s.pendingGo.filter fun m => n.before m).head?
         | none, some n => (s.pendingGo.filter fun m => n.before m).head?
         | none, none => s.pendingGo.head?)) ∨
      (i = .standbyBack ∧ target =
        (match s.cue.standby with
         | some n => (s.pendingGo.filter fun m => m.before n).getLast?
         | none => s.pendingGo.getLast?)) →
    (s.cue.isOpen = false → exec i s = .next (owing (plain .notOpen) s.taking)) ∧
    (s.cue.isOpen = true →
      (target = none → exec i s = .next (owing { status := .ok, data := .standby s.cue.standby } s.taking)) ∧
      ∀ n : CueNumber, target = some n → s.cue.held ≠ some n → (s.cue.entry? n).isSome = true →
        (∀ m : CueNumber, s.cue.standby = some m → s.runState m = .standby) →
        ∃ t : State, exec i s = .next t ∧
          t = owing { status := .ok, data := .standby (some n) }
            { s.taking with cue := t.cue, overlay := { s.overlay with standby := s.cue.held.or (some n) } } ∧
          t.cue = { s.cue with runs := t.cue.runs, standby := some n } ∧
          t.runState n = .standby ∧ (∀ m : CueNumber, s.cue.standby = some m → t.runState m = .pending) ∧
          ∀ m : CueNumber, m ≠ n → s.cue.standby ≠ some m → t.runState m = s.runState m)

/-- R41, R44, R45: the first held BAR trigger and the first follow timer leave their lists when they are reached and
fire their cue, here one that hands nothing on, if it is still PENDING; a timer does nothing while the show is
STOPPED. Such a fire moves neither the standby nor the guard (R31, R37). R31: the GO guard becomes idle when its
expiry is reached. None of these does anything before its tick. R43: where the cue that stands next after a fired cue
is a PENDING FOLLOW cue, a timer of its delay is started for it, in the place of one that it has, also, by the model's
choice, in a full list (log 37); with delay 0, or with a full list of 8 and none of its own, it fires at once instead,
here as one that hands nothing on; a timer that a cue of delay 0 has then stays in the list, by the model's choice
(log 37). -/
def Obligations.TimersFireTheirCues : Prop :=
  (∀ (x : BarTrigger) (rest : List BarTrigger) (s : State), s.resetHeld = false → s.cue.triggers = x :: rest →
    (tickReached s.time.tick x.tick = false → exec .barTrigger s = .next s) ∧
    (tickReached s.time.tick x.tick = true →
      (s.runState x.cue ≠ .pending ∨ s.currentSong ≠ some x.pos.song →
        exec .barTrigger s = .next { s with cue := { s.cue with triggers := rest } }) ∧
      ∀ (c : Cue) (lead : Nat), s.firesPlainly x.cue c → s.runState x.cue = .pending → s.cue.held ≠ some x.cue →
        s.currentSong = some x.pos.song → c.song = some x.pos.song →
        c.trigger = .bar x.pos.bar x.pos.beat lead →
        ∃ t : State, exec .barTrigger s = .next t ∧ s.firedPlainly t x.cue c ∧
          t.cue = { s.cue with
            runs := t.cue.runs, triggers := rest, holdCandidate := none, lastFired := some x.cue
            completion := t.cue.completion } ∧
          t.overlay = { s.overlay with lastCue := some (x.cue, c.text) } ∧
          t.port = { s.port with flags := t.port.flags } ∧
          ∀ m : CueNumber, m ≠ x.cue → t.runState m = s.runState m)) ∧
  (∀ (x : FollowTimer) (rest : List FollowTimer) (s : State), s.resetHeld = false → s.cue.timers = x :: rest →
    (tickReached s.time.tick x.expiry = false ∨ s.stop.state = .stopped →
      exec .followTimerExpiry s = .next s) ∧
    (tickReached s.time.tick x.expiry = true → s.stop.state ≠ .stopped →
      (s.runState x.cue ≠ .pending →
        exec .followTimerExpiry s = .next { s with cue := { s.cue with timers := rest } }) ∧
      ∀ (c : Cue) (delay : Nat), s.firesPlainly x.cue c → s.runState x.cue = .pending → s.cue.held ≠ some x.cue →
        c.trigger = .follow delay →
        ∃ t : State, exec .followTimerExpiry s = .next t ∧ s.firedPlainly t x.cue c ∧
          t.cue = { s.cue with
            runs := t.cue.runs, timers := rest, holdCandidate := none, lastFired := some x.cue
            completion := t.cue.completion } ∧
          t.overlay = { s.overlay with lastCue := some (x.cue, c.text) } ∧
          t.port = { s.port with flags := t.port.flags } ∧
          ∀ m : CueNumber, m ≠ x.cue → t.runState m = s.runState m)) ∧
  (∀ (expiry : Tick) (s : State), s.resetHeld = false → s.cue.guard = some expiry →
    exec .goGuardExpiry s =
      if tickReached s.time.tick expiry then .next { s with cue := { s.cue with guard := none } } else .next s) ∧
  ∀ (i : Instr) (n : CueNumber) (c d : Cue) (delay : Nat) (s : State), s.resetHeld = false → s.firesBy i n c →
    s.firesNoPatch n c → c.tempo = none → c.vamp = none → s.cueAfter n = some d → d.trigger = .follow delay →
    s.runState d.number = .pending → s.book.cues.Pairwise (fun x y => x.number ≠ y.number) →
    (∀ x ∈ s.cue.timers, ∀ e ∈ s.book.cues, e.number = x.cue → e.trigger ≠ .go) →
    (0 < delay → ((s.otherTimers i).length < 8 ∨ ∃ x ∈ s.otherTimers i, x.cue = d.number) →
      ∃ t : State, exec i s = .next t ∧ s.fired t n c ∧ t.runState d.number = .pending ∧
        ∀ x : FollowTimer, x ∈ t.cue.timers ↔
          (x ∈ s.otherTimers i ∧ x.cue ≠ d.number) ∨
            x = { cue := d.number, expiry := s.time.tick + BitVec.ofNat 32 (48 * delay) }) ∧
    (delay = 0 ∨ (8 ≤ (s.otherTimers i).length ∧ ∀ x ∈ s.otherTimers i, x.cue ≠ d.number) →
      s.firesPlainly d.number d →
      ∃ t : State, exec i s = .next t ∧ t.runState n = .complete ∧ t.runState d.number = .complete ∧
        t.cue.lastFired = some d.number ∧
        t.cue.completion = some { cue := d.number, requests := 0, failed := 0 } ∧
        t.overlay.lastCue = some (d.number, d.text) ∧
        t.port.flags = s.port.flags ||| EventFlag.cueDone.bit ||| EventFlag.cueFired.bit ∧
        (∀ x : FollowTimer, x ∈ t.cue.timers ↔ x ∈ s.otherTimers i) ∧
        ∀ chair : Chair, t.clicks[chair] = { s.clicks[chair] with
          enable := ((d.clickFor chair).or (c.clickFor chair)).getD s.clicks[chair].enable })

/-! ## The Tempo Clock and the clicks (R49 to R90) -/

/-- R55, R56, R68, R70: in PLAYING and VAMPING the announced beat when reached becomes the position, with its sub-tick
position kept in P and the tempo that R61 gives it; a beat that crosses into another segment drops the override and
the follow adjustment (R64), judged by the model's choice on the book as it stands (log 11). The next beat is fixed
Q(t) after it at the position that follows, or the song's end is set there (R57), and a region that is left leaves the
clock PLAYING, but for one left as the song ends, which stays with the clock VAMPING until the song's end, by the
model's choice (log 14). With hold due the clock is HELD on the beat instead and no beat follows. R58, R77, R80: the
next beat and the sub-clicks of the beat produced join the due list, each chair's part with its send tick, and a part
that is late is decided at once; no click leaves the list. R40: the announcement of the next beat makes the trigger of
each PENDING BAR cue that falls on it, here one that is not reached yet, and none in a later pass of the region. -/
def Obligations.BeatIsProducedInItsTurn : Prop :=
  ∀ (b : NextBeat) (s : State), s.resetHeld = false → s.cue.isOpen = true →
    s.clock.state = .playing ∨ s.clock.state = .vamping → s.clock.next = some b →
    (tickReached s.time.tick (tickOfSub b.sub) = false → exec .beatProduction s = .next s) ∧
    ∀ (tempo : Nat) (sub : SubTick), tickReached s.time.tick (tickOfSub b.sub) = true → s.timesBeat b tempo sub →
      (s.clock.holdDue = true →
        exec .beatProduction s = .next { s with
          clock := { s.producing b tempo with state := .held, holdDue := false, tapOnset := none, taps := [] }
          overlay := { s.overlay with
            position := some b.pos, beat := some { tick := tickOfSub b.sub, downbeat := decide (b.pos.beat = 1) } }
          port := { s.port with flags := s.port.flags ||| EventFlag.clockChange.bit } }) ∧
      ∀ (onward : Option SongPos) (v : Option Vamp), s.clock.holdDue = false →
        s.book.Follows b.pos (s.producing b tempo).vamp onward v →
        (∀ (pos : SongPos) (d : Cue) (x : BarTrigger), onward = some pos → s.announces v pos (tickOfSub sub) d x →
          tickReached s.time.tick x.tick = false) →
        ∃ t : State, exec .beatProduction s = .next t ∧
          t = { s with
            clock := t.clock, due := t.due, links := t.links, cue := { s.cue with triggers := t.cue.triggers }
            port := { s.port with flags := t.port.flags }
            overlay := { s.overlay with
              position := some b.pos
              beat := some { tick := tickOfSub b.sub, downbeat := decide (b.pos.beat = 1) } } } ∧
          (∀ c : Chair, t.links[c] = { s.links[c] with clickQueue := t.links[c].clickQueue }) ∧
          t.clock = { s.producing b tempo with
            vamp := v
            state := if s.clock.vamp.isSome && v.isNone then .playing else s.clock.state
            next := onward.map fun pos => { pos := pos, sub := sub }
            ending := if onward.isNone then some (tickOfSub sub) else s.clock.ending } ∧
          s.handsOver t (fun _ => false) (s.book.clicksAfter b tempo sub onward) ∧
          t.port.flags = s.port.flags |||
            (if s.clock.state = .vamping ∧ s.clock.vamp.isSome = true ∧ v = none then EventFlag.clockChange.bit
             else 0#10) ∧
          ∀ x : BarTrigger, x ∈ t.cue.triggers ↔
            x ∈ s.cue.triggers ∨
              ∃ (pos : SongPos) (d : Cue), onward = some pos ∧ s.announces v pos (tickOfSub sub) d x

/-- R69: VAMP RELEASE is NOT_OPEN with the show closed, STOPPED in FROZEN and COUNTING, and INVALID where there is no
vamp region with its exit still to be set, in VAMPING or HELD; otherwise the exit pass becomes this pass, or the next
one once the last bar's downbeat has been produced (at the count's top as log 14 says). R68: at the last beat of the
region's last bar the clock turns back to the first bar with the next pass number, or, in the exit pass, leaves the
region and plays on. The beat's tempo is that of R61, with a segment boundary judged as log 11 says. R77: the next
beat and the sub-clicks join the due list. R40: the beat that begins a later pass triggers no cue, and the one after
the region triggers each BAR cue that falls on it, here one that is not reached yet. -/
def Obligations.VampTurnsUntilItsExit : Prop :=
  (∀ s : State, s.accepts →
    (s.cue.isOpen = false → exec .vampRelease s = .next (owing (plain .notOpen) s.taking)) ∧
    (s.cue.isOpen = true →
      (s.clock.state = .frozen ∨ s.clock.state = .counting →
        exec .vampRelease s = .next (owing (plain .stopped) s.taking)) ∧
      (s.clock.state = .parked ∨ s.clock.state = .playing →
        exec .vampRelease s = .next (owing (plain .invalid) s.taking)) ∧
      (s.clock.state = .vamping ∨ s.clock.state = .held →
        ((∀ v : Vamp, s.clock.vamp = some v → v.exit ≠ none) →
          exec .vampRelease s = .next (owing (plain .invalid) s.taking)) ∧
        ∀ v : Vamp, s.clock.vamp = some v → v.exit = none →
          exec .vampRelease s = .next (owing (plain .ok) { s.taking with clock := { s.clock with
            vamp := some { v with exit := some (if v.mark then v.pass + 1 else v.pass) } } })))) ∧
  ∀ (b : NextBeat) (v : Vamp) (tempo : Nat) (sub : SubTick) (s : State), s.resetHeld = false →
    s.clock.state = .vamping → s.clock.vamp = some v → s.clock.next = some b → s.clock.holdDue = false →
    tickReached s.time.tick (tickOfSub b.sub) = true → s.timesBeat b tempo sub →
    v.last = b.pos.bar → s.book.beatsIn b.pos.song b.pos.bar ≤ b.pos.beat →
    (v.exit ≠ some v.pass → 1 ≤ v.pass → v.first ≤ v.last →
      ∃ t : State, exec .beatProduction s = .next t ∧ t.clock.pos = some b.pos ∧ t.clock.state = .vamping ∧
        t.clock.vamp = some { v with pass := bump v.pass, mark := false } ∧
        t.clock.next = some { pos := { b.pos with bar := v.first, beat := 1 }, sub := sub } ∧
        s.handsOver t (fun _ => false)
          (s.book.clicksAfter b tempo sub (some { b.pos with bar := v.first, beat := 1 })) ∧
        t.port.flags = s.port.flags ∧ t.cue = s.cue) ∧
    ∀ (r : Song) (after : SongPos), v.exit = some v.pass → s.book.song? b.pos.song = some r →
      b.pos.bar < r.lastBar → after = { b.pos with bar := b.pos.bar + 1, beat := 1 } → s.cue.isOpen = true →
      (∀ (d : Cue) (x : BarTrigger), s.announces none after (tickOfSub sub) d x →
        tickReached s.time.tick x.tick = false) →
      ∃ t : State, exec .beatProduction s = .next t ∧ t.clock.pos = some b.pos ∧ t.clock.state = .playing ∧
        t.clock.vamp = none ∧ t.clock.next = some { pos := after, sub := sub } ∧
        s.handsOver t (fun _ => false) (s.book.clicksAfter b tempo sub (some after)) ∧
        t.port.flags = s.port.flags ||| EventFlag.clockChange.bit ∧
        ∀ x : BarTrigger, x ∈ t.cue.triggers ↔
          x ∈ s.cue.triggers ∨ ∃ d : Cue, s.announces none after (tickOfSub sub) d x

/-- R34, R53, R60, R66, R67, R69, R70: the tempo action and then the vamp action of a cue that fires, here one that
hands no patch, reach the clock in the state it is in. HOLD sets hold due in PLAYING, VAMPING and COUNTING; SET TEMPO
sets the clamped override and drops the follow adjustment and the tap series in a song that is not FROZEN; PARK in
PLAYING, VAMPING and HELD leaves the song and parks the clock, which passes the song's PENDING BAR cues (R42), drops
the held triggers (R41), withdraws the abandoned beats' clicks (R78; log 21) and lets each chair's basis and trim take
their values (R87, R88). VAMP and VAMP EXIT act where they apply. An action that does not apply is dropped, and the
cue completes all the same. -/
def Obligations.FiredCueActsOnTheClock : Prop :=
  ∀ (i : Instr) (n : CueNumber) (c : Cue) (s : State), s.resetHeld = false → s.firesBy i n c → s.firesNoPatch n c →
    (∀ d : Cue, s.cueAfter n = some d → d.isFollow = false) →
    (c.tempo = none ∨ c.tempo = some .hold ∨ (∃ v : Nat, c.tempo = some (.setTempo v)) ∨ c.tempo = some .park) →
    ∃ (t : State) (k : Clock), exec i s = .next t ∧ s.fired t n c ∧ k.takesVamp s.book c.vamp t.clock ∧
      (c.tempo = none → k = s.clock) ∧
      (c.tempo = some .hold →
        k = { s.clock with
          holdDue := s.clock.holdDue || decide (s.clock.state = .playing) || decide (s.clock.state = .vamping) ||
            decide (s.clock.state = .counting) }) ∧
      (∀ v : Nat, c.tempo = some (.setTempo v) →
        k = if s.clock.state = .parked ∨ s.clock.state = .frozen then s.clock
          else { s.clock with override := some (clampNat 2000 30000 v), adjust := none, tapOnset := none, taps := [] }) ∧
      (c.tempo ≠ some .park ∨ s.clock.state = .parked ∨ s.clock.state = .frozen ∨ s.clock.state = .counting →
        (c.tempo = some .park → k = s.clock) ∧ t.due = s.due ∧ t.links = s.links ∧
        t.cue.triggers = s.otherTriggers i ∧
        (∀ chair : Chair, t.clicks[chair] = { s.clicks[chair] with enable := t.clicks[chair].enable }) ∧
        t.port.flags = s.port.flags ||| EventFlag.cueDone.bit ||| EventFlag.cueFired.bit |||
          (if t.clock.state = s.clock.state then 0#10 else EventFlag.clockChange.bit)) ∧
      (c.tempo = some .park →
        s.clock.state = .playing ∨ s.clock.state = .vamping ∨ s.clock.state = .held →
        k = { s.clock with
          state := .parked, pos := none, next := none, ending := none, countIn := none, vamp := none, holdDue := false,
          override := none, adjust := none, tapOnset := none, taps := [] } ∧
        s.handsOver t s.abandons [] ∧
        t.cue.triggers = [] ∧ t.overlay.position = none ∧ t.overlay.beat = none ∧
        t.port.flags = s.port.flags ||| EventFlag.cueDone.bit ||| EventFlag.cueFired.bit |||
          EventFlag.clockChange.bit ∧
        (∀ chair : Chair, t.clicks[chair].trim = s.book.chairs[chair].trim ∧
          t.clicks[chair].basis = s.clicks[chair].filtered.getD s.clicks[chair].basis) ∧
        ∀ pos : SongPos, s.clock.pos = some pos →
          ∀ d ∈ s.book.cues, d.isBar = true → d.song = some pos.song → d.number ≠ n →
            (s.cue.entry? d.number).isSome = true → s.runState d.number = .pending →
            t.runState d.number = .passed)

/-- R34, R65: START, of a song that is not CUT and has a segment at its first bar, leaves the song under way and
starts the new one PLAYING at its bar, beat 1, in every state but FROZEN and COUNTING: with a lead of 0 the first beat
is fixed 480 ticks ahead, and with a lead it is produced at the fire and the beat after it fixed. R71: RELEASE in HELD
fixes the beat after the held one 480 ticks ahead and plays on, in VAMPING with a region set, or sets the song's end
there, again at a second RELEASE (log 15) and with a region in its exit pass kept until the song's end (log 14), both
by the model's choice; in every other state it is dropped. R42: a song that is left has its PENDING BAR cues PASSED.
R40: each PENDING BAR cue that falls on the fixed beat has its trigger, here one that is not reached yet. R77, R78:
the click of the first beat joins the due list, with those that its production hands over, and a START takes out the
abandoned beats' clicks first (log 21). A vamp action of the same cue comes after (R67, R69). The cue list has each
number once, with a run entry. -/
def Obligations.StartAndReleaseFixTheFirstBeat : Prop :=
  ∀ (i : Instr) (n : CueNumber) (c : Cue) (s : State), s.resetHeld = false → s.firesBy i n c → s.firesNoPatch n c →
    (∀ d : Cue, s.cueAfter n = some d → d.isFollow = false) →
    s.book.cues.Pairwise (fun x y => x.number ≠ y.number) →
    (∀ d ∈ s.book.cues, (s.cue.entry? d.number).isSome = true) →
    (∀ song bar : Nat, c.tempo = some (.start song bar) →
      (s.clock.state = .frozen ∨ s.clock.state = .counting ∨
          (∀ r : Song, s.book.song? song = some r → r.running = .cut ∨ s.book.segment? song r.firstBar = none) →
        ∃ t : State, exec i s = .next t ∧ s.fired t n c ∧ s.clock.takesVamp s.book c.vamp t.clock ∧
          t.due = s.due ∧ t.links = s.links ∧ t.cue.triggers = s.otherTriggers i) ∧
      ∀ (r : Song) (first : SongPos), s.clock.state ≠ .frozen → s.clock.state ≠ .counting →
        s.book.song? song = some r → r.running ≠ .cut → s.book.segment? song r.firstBar ≠ none →
        first = { song := song, bar := bar, beat := 1 } →
        ∀ (now next : SubTick) (onward : Option SongPos), now = subOfTick s.time.tick →
          ((∀ bar beat lead : Nat, c.trigger = .bar bar beat lead → lead = 0) →
            next = subOfTick (s.time.tick + 480#32) ∧ onward = some first) →
          (∀ bar beat lead : Nat, c.trigger = .bar bar beat lead → lead ≠ 0 →
            (∀ (d : Cue) (x : BarTrigger), d.number ≠ n → s.currentSong ≠ some song →
              ¬s.announces none first s.time.tick d x) ∧
            s.book.Follows first none onward none ∧
            next = now + BitVec.ofNat 40
              ((73728000000 + s.book.mappedTempo none first / 2) / s.book.mappedTempo none first)) →
          (∀ (pos : SongPos) (d : Cue) (x : BarTrigger), onward = some pos → d.number ≠ n →
            s.currentSong ≠ some song → s.announces none pos (tickOfSub next) d x →
            tickReached s.time.tick x.tick = false) →
          ∃ (t : State) (k : Clock), exec i s = .next t ∧ s.fired t n c ∧ k.takesVamp s.book c.vamp t.clock ∧
            k = { s.clock with
              state := .playing, pos := some first, tempo := s.book.mappedTempo none first
              p := if onward = some first then next else now
              next := onward.map fun pos => { pos := pos, sub := next }
              ending := if onward.isNone then some (tickOfSub next) else none
              override := none, adjust := none, tapOnset := none, taps := [], vamp := none, holdDue := false,
              countIn := none } ∧
            t.port.flags = s.port.flags ||| EventFlag.cueDone.bit ||| EventFlag.cueFired.bit |||
              EventFlag.clockChange.bit ∧
            (∀ chair : Chair, t.links[chair] = { s.links[chair] with clickQueue := t.links[chair].clickQueue }) ∧
            s.handsOver t (fun k => decide (s.clock.state ≠ .parked) && s.abandons k)
              (if onward = some first then
                [songBeatClick first (tickOfSub next) (s.book.mappedTempo none first)]
              else songBeatClick first s.time.tick (s.book.mappedTempo none first) ::
                s.book.clicksAfter { pos := first, sub := now } (s.book.mappedTempo none first) next onward) ∧
            (∀ x : BarTrigger, x ∈ t.cue.triggers ↔
              (s.clock.state = .parked ∧ x ∈ s.otherTriggers i) ∨
                ∃ (pos : SongPos) (d : Cue), onward = some pos ∧ d.number ≠ n ∧ s.currentSong ≠ some song ∧
                  s.announces none pos (tickOfSub next) d x) ∧
            ∀ left : Nat, s.currentSong = some left →
              ∀ d ∈ s.book.cues, d.isBar = true → d.song = some left → d.number ≠ n →
                s.runState d.number = .pending → t.runState d.number = .passed) ∧
    (c.tempo = some .release →
      (s.clock.state ≠ .held ∨ s.clock.pos = none →
        ∃ t : State, exec i s = .next t ∧ s.fired t n c ∧ s.clock.takesVamp s.book c.vamp t.clock ∧
          t.due = s.due ∧ t.links = s.links ∧ t.cue.triggers = s.otherTriggers i) ∧
      ∀ (held : SongPos) (next : SubTick) (onward : Option SongPos) (v : Option Vamp), s.clock.state = .held →
        s.clock.pos = some held → next = subOfTick (s.time.tick + 480#32) →
        s.book.Follows held s.clock.vamp onward v →
        (∀ (pos : SongPos) (d : Cue) (x : BarTrigger), onward = some pos → d.number ≠ n →
          s.announces v pos (tickOfSub next) d x → tickReached s.time.tick x.tick = false) →
        ∃ (t : State) (k : Clock), exec i s = .next t ∧ s.fired t n c ∧ k.takesVamp s.book c.vamp t.clock ∧
          (∀ pos : SongPos, onward = some pos → k = { s.clock with
            state := if v.isSome then .vamping else .playing
            p := next, vamp := v, tempo := s.book.mappedTempo s.clock.override pos
            next := some { pos := pos, sub := next } } ∧
            t.port.flags = s.port.flags ||| EventFlag.cueDone.bit ||| EventFlag.cueFired.bit |||
              EventFlag.clockChange.bit) ∧
          (onward = none → k = { s.clock with p := next, ending := some (s.time.tick + 480#32) } ∧
            t.port.flags = s.port.flags ||| EventFlag.cueDone.bit ||| EventFlag.cueFired.bit) ∧
          (∀ chair : Chair, t.links[chair] = { s.links[chair] with clickQueue := t.links[chair].clickQueue }) ∧
          s.handsOver t (fun _ => false)
            (onward.toList.map fun pos =>
              songBeatClick pos (tickOfSub next) (s.book.mappedTempo s.clock.override pos)) ∧
          ∀ x : BarTrigger, x ∈ t.cue.triggers ↔
            x ∈ s.otherTriggers i ∨
              ∃ (pos : SongPos) (d : Cue), onward = some pos ∧ d.number ≠ n ∧
                s.announces v pos (tickOfSub next) d x)

/-- R57, R42, R87, R88: at the song's end the clock parks with no position, announced beat, vamp, override or
adjustment; the PENDING BAR cues of the song are PASSED and no trigger is held; each chair's basis takes its filtered
value and its trim the record's; the abandoned beats' clicks are withdrawn (R78; log 21); the overlay's position and
beat go (R146). Before its tick nothing happens. -/
def Obligations.SongEndParksTheClock : Prop :=
  ∀ (ending : Tick) (pos : SongPos) (s : State), s.resetHeld = false → s.clock.ending = some ending →
    s.clock.pos = some pos → s.clock.state ≠ .parked →
    (tickReached s.time.tick ending = false → exec .songEnd s = .next s) ∧
    (tickReached s.time.tick ending = true →
      s.book.cues.Pairwise (fun x y => x.number ≠ y.number) →
      (∀ d ∈ s.book.cues, s.cue.isOpen = true ∧ (s.cue.entry? d.number).isSome = true) →
      ∃ t : State, exec .songEnd s = .next t ∧
        t = { s with
          clock := t.clock, cue := t.cue, clicks := t.clicks, due := t.due, links := t.links, overlay := t.overlay
          port := { s.port with flags := s.port.flags ||| EventFlag.clockChange.bit } } ∧
        t.clock = { s.clock with
          state := .parked, pos := none, next := none, ending := none, countIn := none, vamp := none,
          holdDue := false, override := none, adjust := none, tapOnset := none, taps := [] } ∧
        s.handsOver t s.abandons [] ∧
        (∀ c : Chair, t.links[c] = { s.links[c] with clickQueue := t.links[c].clickQueue }) ∧
        t.overlay.position = none ∧ t.overlay.beat = none ∧ t.cue.triggers = [] ∧
        t.cue.standby = s.cue.standby ∧ t.cue.guard = s.cue.guard ∧ t.cue.lastFired = s.cue.lastFired ∧
        (∀ d ∈ s.book.cues, t.runState d.number =
          if d.isBar = true ∧ d.song = some pos.song ∧ s.runState d.number = .pending then .passed
          else s.runState d.number) ∧
        ∀ c : Chair, t.clicks[c].trim = s.book.chairs[c].trim ∧
          t.clicks[c].basis = s.clicks[c].filtered.getD s.clicks[c].basis ∧
          t.clicks[c].advance = advanceOf t.clicks[c].basis t.clicks[c].trim ∧
          t.clicks[c].enable = s.clicks[c].enable ∧ t.clicks[c].filter = s.clicks[c].filter)

/-- R74, R75, R175: a count-in beat that is reached shows its count on the card and gives the next one to the Click
Scheduler, whose item joins the due list. At the first song beat the clock leaves COUNTING with the beat produced, its
tempo that of R61 (a segment boundary as log 11 says), for PLAYING, for VAMPING with a region set (R67), or for HELD
with hold due (R70); a region in its exit pass that ends with the song stays set (log 14); the stop state becomes
CLEAR and the COUNT-IN card goes. R40: the announcement of the beat after it, whose click joins the due list with the
sub-clicks (R58, R77), makes the trigger of each PENDING BAR cue that falls on it, here one that is not reached yet.
Neither does anything before its tick. -/
def Obligations.CountInLeadsIntoTheSong : Prop :=
  (∀ (k : CountIn) (s : State), s.resetHeld = false → s.clock.state = .counting → s.clock.countIn = some k →
    (k.total ≤ k.reached ∨
        tickReached s.time.tick (tickOfSub (k.first + BitVec.ofNat 40 (k.reached * k.interval))) = false →
      exec .countInBeat s = .next s) ∧
    (k.reached < k.total →
      tickReached s.time.tick (tickOfSub (k.first + BitVec.ofNat 40 (k.reached * k.interval))) = true →
      ∃ t : State, exec .countInBeat s = .next t ∧
        t = { s with
          due := t.due, links := t.links
          clock := { s.clock with countIn := some { k with
            reached := k.reached + 1, given := if k.given < k.total then k.given + 1 else k.given } }
          overlay := { s.overlay with countCard := s.overlay.countCard.map fun _ => some (k.total - k.reached) } } ∧
        (∀ c : Chair, t.links[c] = { s.links[c] with clickQueue := t.links[c].clickQueue }) ∧
        s.handsOver t (fun _ => false) (if k.given < k.total then [k.click s.clock.tempo k.given] else []))) ∧
  ∀ (b : NextBeat) (s : State), s.resetHeld = false → s.clock.state = .counting → s.clock.next = some b →
    (tickReached s.time.tick (tickOfSub b.sub) = false → exec .countInEnd s = .next s) ∧
    ∀ (tempo : Nat) (sub : SubTick) (onward : Option SongPos) (v : Option Vamp),
      tickReached s.time.tick (tickOfSub b.sub) = true → s.cue.isOpen = true → s.stop.state = .countIn →
      s.timesBeat b tempo sub → s.book.Follows b.pos (s.producing b tempo).vamp onward v →
      (∀ (pos : SongPos) (d : Cue) (x : BarTrigger), s.clock.holdDue = false → onward = some pos →
        s.announces v pos (tickOfSub sub) d x → tickReached s.time.tick x.tick = false) →
      ∃ t : State, exec .countInEnd s = .next t ∧
        t = { s with
          clock := t.clock, due := t.due, links := t.links, stop := { s.stop with state := .clear }
          cue := { s.cue with triggers := t.cue.triggers }
          overlay := { s.overlay with
            position := some b.pos, beat := some { tick := tickOfSub b.sub, downbeat := decide (b.pos.beat = 1) }
            countCard := none }
          port := { s.port with
            flags := s.port.flags ||| EventFlag.clockChange.bit ||| EventFlag.stopChange.bit } } ∧
        (s.clock.holdDue = true →
          t.clock = { s.producing b tempo with
            state := .held, countIn := none, holdDue := false, tapOnset := none, taps := [] } ∧
          t.cue.triggers = s.cue.triggers ∧ t.due = s.due ∧ t.links = s.links) ∧
        (s.clock.holdDue = false →
          t.clock = { s.producing b tempo with
            state := if v.isSome then .vamping else .playing
            countIn := none, vamp := v, next := onward.map fun pos => { pos := pos, sub := sub }
            ending := if onward.isNone then some (tickOfSub sub) else s.clock.ending } ∧
          (∀ c : Chair, t.links[c] = { s.links[c] with clickQueue := t.links[c].clickQueue }) ∧
          s.handsOver t (fun _ => false) (s.book.clicksAfter b tempo sub onward) ∧
          ∀ x : BarTrigger, x ∈ t.cue.triggers ↔
            x ∈ s.cue.triggers ∨
              ∃ (pos : SongPos) (d : Cue), onward = some pos ∧ s.announces v pos (tickOfSub sub) d x)

/-- R79, R77: at its send tick a chair's part of a click is handed to the downlink exactly if the show is open and not
STOPPED, the chair enabled and LOCKED, its clicks enabled and, for a sub-click, its sub-clicks on; otherwise the part
is DONE, and the item leaves when no other part is left. The first part due in the list is the one decided, and with
none due nothing happens. -/
def Obligations.ClickIsSentAtItsSendTick : Prop :=
  (∀ (c : Chair) (s : State), s.resetHeld = false →
    (∀ i ∈ s.due, i.parts[c].state = .waiting → tickReached s.time.tick i.parts[c].send = false) →
    exec (.clickSend c) s = .next s) ∧
  ∀ (c : Chair) (before after : List DueItem) (i : DueItem) (s : State), s.resetHeld = false →
    s.due = before ++ i :: after → i.parts[c].state = .waiting → tickReached s.time.tick i.parts[c].send = true →
    (∀ j ∈ before, j.parts[c].state = .waiting → tickReached s.time.tick j.parts[c].send = false) →
    (∀ j ∈ before ++ after, ∃ d : Chair, j.parts[d].state ≠ .done) →
    (s.cue.isOpen = true ∧ s.stop.state ≠ .stopped ∧ s.book.chairs[c].enabled = true ∧
        s.links[c].state = .locked ∧ s.clicks[c].enable = true ∧
        (i.click.cls = .sub → s.book.chairs[c].subClicks = true) →
      ∃ (t : State) (j : DueItem), exec (.clickSend c) s = .next t ∧
        t = { s with due := before ++ j :: after, links := t.links } ∧ j.click = i.click ∧
        (∀ d : Chair, j.parts[d] = if d = c then { i.parts[d] with state := .handed } else i.parts[d]) ∧
        ∀ d : Chair, t.links[d] =
          if d = c then { s.links[d] with clickQueue := s.links[d].clickQueue ++ [i.click] } else s.links[d]) ∧
    (¬(s.cue.isOpen = true ∧ s.stop.state ≠ .stopped ∧ s.book.chairs[c].enabled = true ∧
        s.links[c].state = .locked ∧ s.clicks[c].enable = true ∧
        (i.click.cls = .sub → s.book.chairs[c].subClicks = true)) →
      ((∀ d : Chair, d ≠ c → i.parts[d].state = .done) →
        exec (.clickSend c) s = .next { s with due := before ++ after }) ∧
      ((∃ d : Chair, d ≠ c ∧ i.parts[d].state ≠ .done) →
        ∃ j : DueItem, exec (.clickSend c) s = .next { s with due := before ++ j :: after } ∧
          j.click = i.click ∧
          ∀ d : Chair, j.parts[d] = if d = c then { i.parts[d] with state := .done } else i.parts[d]))

/-! ## Show stops (R164 to R176) -/

/-- R176, R166, R167: STOP is NOT_OPEN with the show closed. In CLEAR it makes a new record and raises the stop count,
hands each LOCKED chair a STOP MARK, empties the due list, taking back what the links hold of it (R81), and freezes a
running clock (R72), which leaves the run states as they are. In STOPPED it joins the sources, and in COUNT_IN it
abandons the count-in and keeps the record; both keep the count. STOP RECORD READ answers the stop state, the held
sources, the line level, the count and the record, and changes nothing. -/
def Obligations.StopFreezesTheShow : Prop :=
  ∀ s : State, s.accepts →
    (s.cue.isOpen = false → exec .stop s = .next (owing (plain .notOpen) s.taking)) ∧
    (s.cue.isOpen = true → s.stop.state = .stopped →
      exec .stop s = .next (owing { status := .ok, data := .stopState .stopped } { s.taking with
        stop := { s.stop with
          held := { s.stop.held with host := true }
          record := s.stop.record.map fun r => { r with sources := { r.sources with host := true } } } })) ∧
    (s.cue.isOpen = true → s.stop.state ≠ .stopped →
      ∃ t : State, exec .stop s = .next t ∧
        t.port.owed = some { status := .ok, data := .stopState .stopped } ∧
        t = { s with
          cue := { s.cue with triggers := t.cue.triggers }, clock := t.clock, clicks := t.clicks, due := [],
          links := t.links, overlay := t.overlay, stop := t.stop, port := t.port } ∧
        s.handsOver t (fun _ => true) [] ∧
        (∀ c : Chair, t.links[c] = { s.links[c] with
          clickQueue := t.links[c].clickQueue
          stopMark := if s.links[c].state = .locked then some true else s.links[c].stopMark }) ∧
        (s.stop.state = .clear →
          t.stop = { s.stop with
            state := .stopped, held := { s.stop.held with host := true }, count := bump s.stop.count
            record := some { sources := { host := true, pad := false, line := false, fault := false }, first := .host,
                             tick := s.time.tick, lastFired := s.cue.lastFired, number := bump s.stop.count
                             pos := if s.clock.state = .parked then none else s.clock.pos } }) ∧
        (s.stop.state = .countIn →
          t.stop = { s.stop with
            state := .stopped, held := { s.stop.held with host := true }
            record := s.stop.record.map fun r => { r with sources := { r.sources with host := true } } }) ∧
        t.overlay = { s.overlay with
          stopCard := t.stop.record.map fun r => ({ first := r.first, pos := r.pos } : StopCard), countCard := none } ∧
        (s.clock.state = .parked ∨ s.clock.state = .frozen →
          t.clock = s.clock ∧ t.clicks = s.clicks ∧ t.port.flags = s.port.flags ||| EventFlag.stopChange.bit) ∧
        (s.clock.state ≠ .parked → s.clock.state ≠ .frozen →
          t.clock = { s.clock with
            state := .frozen, next := none, ending := none, countIn := none, holdDue := false, override := none,
            adjust := none, tapOnset := none, taps := [] } ∧
          t.cue.triggers = [] ∧
          t.port.flags = s.port.flags ||| EventFlag.stopChange.bit ||| EventFlag.clockChange.bit)) ∧
    ∃ r : StopReport,
      exec .stopRecordRead s = .next (owing { status := .ok, data := .stopReport r } s.taking) ∧
      r.state = s.stop.state ∧ r.held = s.stop.held ∧ r.line = s.stop.line ∧ r.count = s.stop.count ∧
      r.record = s.stop.record

/-- R169: the checks of a RESUME come in order: OUT_OF_RANGE, NOT_OPEN, INVALID outside STOPPED, STOP_ACTIVE while
LINE or FAULT holds, NOT_FOUND, INVALID for a cue of a CUT song and for a BAR cue whose bar no segment governs; each
changes nothing. R170, R47, R171 to R173: a RESUME at a GO or FOLLOW cue clears the stop with the HOST and PAD sources
released, parks the clock with no position, and rewrites the run states about the cue: cues of a CUT song are PASSED,
cues before it COMPLETE if they were and PASSED otherwise, the others PENDING, but for FIRING cues, which are marked
to return so; the first such GO cue is the standby. Timers, triggers and guard are gone; a FOLLOW resume cue is held,
or waits to be held while it is FIRING. Each enabled chair's click enable is that of the last cue before that sets it,
or ON, and its patch is reconstructed. No request of a cue waits in a pending slot. -/
def Obligations.ResumeIsCheckedAndRewritesTheRun : Prop :=
  (∀ (major minor bars : Nat) (s : State), s.accepts →
    (major < 1 ∨ 999 < major ∨ 9 < minor ∨ 4 < bars →
      exec (.resume major minor bars) s = .next (owing (plain .outOfRange) s.taking)) ∧
    (1 ≤ major → major ≤ 999 → minor ≤ 9 → bars ≤ 4 →
      (s.cue.isOpen = false → exec (.resume major minor bars) s = .next (owing (plain .notOpen) s.taking)) ∧
      (s.cue.isOpen = true →
        (s.stop.state ≠ .stopped →
          exec (.resume major minor bars) s = .next (owing (plain .invalid) s.taking)) ∧
        (s.stop.state = .stopped →
          (s.stop.held.line = true ∨ s.stop.held.fault = true →
            exec (.resume major minor bars) s = .next (owing (plain .stopActive) s.taking)) ∧
          (s.stop.held.line = false → s.stop.held.fault = false →
            (s.book.cue? { major := major, minor := minor } = none →
              exec (.resume major minor bars) s = .next (owing (plain .notFound) s.taking)) ∧
            ∀ c : Cue, s.book.cue? { major := major, minor := minor } = some c →
              ((∃ (n : Nat) (r : Song), c.song = some n ∧ s.book.song? n = some r ∧ r.running = .cut) →
                exec (.resume major minor bars) s = .next (owing (plain .invalid) s.taking)) ∧
              ∀ bar beat lead : Nat, c.trigger = .bar bar beat lead →
                (∀ n : Nat, c.song = some n → s.book.governing? n bar = none) →
                exec (.resume major minor bars) s = .next (owing (plain .invalid) s.taking)))))) ∧
  ∀ (n : CueNumber) (c : Cue) (bars : Nat) (s : State), s.resumes n c bars → c.isBar = false →
    ∃ t : State, exec (.resume n.major n.minor bars) s = .next t ∧ t.port.owed = some (plain .ok) ∧
      s.rewritten t n ∧ (∀ chair : Chair, s.restored t n chair) ∧
      t = { s with
        cue := t.cue, clock := t.clock, clicks := t.clicks, patch := t.patch, links := t.links, overlay := t.overlay,
        stop := t.stop, port := t.port } ∧
      t.stop = { s.stop with state := .clear, held := SourceSet.empty } ∧
      t.clock = { s.clock with
        state := if s.clock.state = .frozen then .parked else s.clock.state
        pos := none, vamp := none, countIn := none } ∧
      t.cue = { s.cue with
        runs := t.cue.runs, standby := t.cue.standby, timers := [], triggers := [], guard := none
        lastFired := t.cue.lastFired
        held := if c.isFollow = true ∧ s.runState n ≠ .firing then some n else none
        holdCandidate := if c.isFollow = true ∧ s.runState n = .firing then some n else none } ∧
      (∀ chair : Chair, t.links[chair] = { s.links[chair] with
        patchMsg := t.links[chair].patchMsg
        stopMark := if s.links[chair].state = .locked then some false else s.links[chair].stopMark }) ∧
      t.overlay.stopCard = none ∧ t.overlay.standby = t.cue.held.or t.cue.standby ∧
      t.port.flags = s.port.flags ||| EventFlag.stopChange.bit |||
        (if s.clock.state = .frozen then EventFlag.clockChange.bit else 0#10)

/-- R170, R174, R74, R40: a RESUME at a BAR cue, whose bar a segment governs, rewrites the run states and reconstructs
the chairs likewise, and counts in: the clock is COUNTING at the cue's bar, beat 1, with its mapped tempo, the
count-in beats of `bars` bars start 480 ticks ahead, and the first song beat follows them and is announced, here with
no trigger that is reached already. The stop state is COUNT_IN with the HOST and PAD sources released, and the
COUNT-IN card shows with no count. R77, R80: the first count-in beat, where there is one, and the first song beat join
the due list; a chair that receives clicks and whose advance is 480 ticks or more is handed the first click late, at
once, since the stop state is COUNT_IN by then (log 33). -/
def Obligations.ResumeAtABarCueCountsIn : Prop :=
  ∀ (n : CueNumber) (c : Cue) (bars bar beat lead song tempo total interval : Nat) (g : Segment) (first : SongPos)
      (start next : SubTick) (s : State), s.resumes n c bars → c.trigger = .bar bar beat lead → c.song = some song →
    s.book.governing? song bar = some g → first = { song := song, bar := bar, beat := 1 } →
    tempo = s.book.mappedTempo none first → total = bars * g.beatsPerBar →
    interval = (73728000000 + tempo / 2) / tempo → start = subOfTick (s.time.tick + 480#32) →
    next = start + BitVec.ofNat 40 (total * interval) →
    (∀ d ∈ s.book.cues, ∀ beat lead : Nat, d.trigger = .bar bar beat lead → d.song = some song →
      d.number.before n = false → s.runState d.number ≠ .firing → (beat = 1 ∨ g.beatsPerBar ≤ 1) →
      tickReached s.time.tick (tickOfSub next - BitVec.ofNat 32 (48 * lead)) = false) →
    ∃ t : State, exec (.resume n.major n.minor bars) s = .next t ∧ t.port.owed = some (plain .ok) ∧
      s.rewritten t n ∧ (∀ chair : Chair, s.restored t n chair) ∧
      t = { s with
        cue := t.cue, clock := t.clock, clicks := t.clicks, due := t.due, patch := t.patch, links := t.links
        overlay := t.overlay, stop := t.stop, port := t.port } ∧
      t.stop = { s.stop with state := .countIn, held := SourceSet.empty } ∧
      t.clock = { s.clock with
        state := .counting, pos := some first, tempo := tempo, next := some { pos := first, sub := next }
        ending := none, vamp := none, holdDue := false, override := none, adjust := none, tapOnset := none, taps := []
        countIn := some { total := total, given := if total = 0 then 0 else 1, reached := 0, interval := interval
                          first := start, perBar := g.beatsPerBar } } ∧
      t.cue.held = none ∧ t.cue.holdCandidate = none ∧
      (∀ x : BarTrigger, x ∈ t.cue.triggers ↔ ∃ d : Cue, t.announces none first (tickOfSub next) d x) ∧
      t.overlay.stopCard = none ∧ t.overlay.countCard = some none ∧ t.overlay.standby = t.cue.standby ∧
      t.port.flags = s.port.flags ||| EventFlag.stopChange.bit |||
        (if s.clock.state = .counting then 0#10 else EventFlag.clockChange.bit) ∧
      (∀ chair : Chair, t.links[chair] = { s.links[chair] with
        patchMsg := t.links[chair].patchMsg, clickQueue := t.links[chair].clickQueue
        stopMark := if s.links[chair].state = .locked then some false else s.links[chair].stopMark }) ∧
      s.handsOver t (fun _ => false)
        ((if total = 0 then [] else t.clock.countIn.toList.map fun k => k.click tempo 0) ++
          [songBeatClick first (tickOfSub next) tempo])

/-- R165: a change of the raw stop input starts the 20 ms debounce afresh, and a level that is no change is no event;
at its expiry the line level takes the raw level. A line that becomes ACTIVE is a stop request of LINE, here in CLEAR
with the clock PARKED; one that becomes inactive releases LINE (R168); with the show closed the request is ignored. -/
def Obligations.StopLineIsDebounced : Prop :=
  (∀ (active : Bool) (s : State), s.resetHeld = false →
    (s.stop.raw = active → exec (.stopInChange active) s = .next s) ∧
    (s.stop.raw ≠ active → exec (.stopInChange active) s =
      .next { s with stop := { s.stop with raw := active, debounce := some (s.time.tick + 960#32) } })) ∧
  ∀ (expiry : Tick) (s : State), s.resetHeld = false → s.stop.debounce = some expiry →
    (tickReached s.time.tick expiry = false → exec .stopLineDebounce s = .next s) ∧
    (tickReached s.time.tick expiry = true →
      (s.stop.line = s.stop.raw ∨ (s.stop.raw = true ∧ s.cue.isOpen = false) →
        exec .stopLineDebounce s = .next { s with stop := { s.stop with line := s.stop.raw, debounce := none } }) ∧
      (s.stop.line = true → s.stop.raw = false →
        exec .stopLineDebounce s = .next { s with stop := { s.stop with
          line := false, debounce := none, held := { s.stop.held with line := false } } }) ∧
      (s.stop.line = false → s.stop.raw = true → s.cue.isOpen = true → s.stop.state = .clear →
        s.clock.state = .parked →
        ∃ t : State, exec .stopLineDebounce s = .next t ∧ t.clock = s.clock ∧ t.cue = s.cue ∧ t.due = [] ∧
          t.port.flags = s.port.flags ||| EventFlag.stopChange.bit ∧
          t.stop = { s.stop with
            state := .stopped, line := true, debounce := none, held := { s.stop.held with line := true }
            count := bump s.stop.count
            record := some { sources := { host := false, pad := false, line := true, fault := false }, first := .line,
                             tick := s.time.tick, pos := none, lastFired := s.cue.lastFired
                             number := bump s.stop.count } }))

/-! ## The chairs: patches, probes, links and the downlink (R83 to R122) -/

/-- R102, R93, R95: RIG WRITE is OUT_OF_RANGE for a chair outside 1..16 or entries outside their ranges, and INVALID
for a disabled chair. Taken, it is sent at once to an idle LOCKED chair, whose buffer empties; it waits with its
entries in the buffer where a request is in flight or the link is not LOCKED; and it supersedes a request that waits.
-/
def Obligations.RigWriteIsSentOrWaits : Prop :=
  ∀ (chair : Nat) (entries : List Entry) (s : State), s.accepts →
    (chair < 1 ∨ 16 < chair ∨ entriesOk entries = false →
      exec (.rigWrite chair entries) s = .next (owing (plain .outOfRange) s.taking)) ∧
    ∀ c : Chair, chair = chairNumber c → entriesOk entries = true →
      (s.book.chairs[c].enabled = false →
        exec (.rigWrite chair entries) s = .next (owing (plain .invalid) s.taking)) ∧
      (s.book.chairs[c].enabled = true →
        ∃ t : State, exec (.rigWrite chair entries) s = .next t ∧ t.port.owed = some (plain .ok) ∧
          t = { s with cue := t.cue, overlay := t.overlay, patch := t.patch, links := t.links, port := t.port } ∧
          (∀ d : Chair, d ≠ c → t.patch[d] = s.patch[d] ∧ t.links[d] = s.links[d]) ∧
          (s.patch[c].flight = none → s.patch[c].waiting = none → s.links[c].state = .locked →
            t.patch[c] = { s.patch[c] with
              flight := some { req := .adHoc, tag := s.patch[c].tag + 1#8, expiry := s.time.tick + 1920#32,
                               retired := false }
              tag := s.patch[c].tag + 1#8, adhoc := []
              counts := { s.patch[c].counts with sent := bump s.patch[c].counts.sent } } ∧
            t.links[c] = { s.links[c] with
              patchMsg := some { tag := s.patch[c].tag + 1#8, entries := entries } } ∧ t.cue = s.cue) ∧
          (s.patch[c].waiting = none → s.patch[c].flight ≠ none ∨ s.links[c].state ≠ .locked →
            t.patch[c] = { s.patch[c] with waiting := some .adHoc, adhoc := entries } ∧ t.links = s.links ∧
            t.cue = s.cue) ∧
          ∀ q : PatchReq, s.patch[c].waiting = some q →
            t.patch[c] = { s.patch[c] with
              waiting := some .adHoc, adhoc := entries, last := some (q.kind, .superseded)
              counts := { s.patch[c].counts with superseded := bump s.patch[c].counts.superseded } } ∧
            t.links = s.links)

/-- R96, R97, R98: the PATCH ACK that matches the request in flight empties the slot: with result OK the confirmed
patch is the one sent, MODIFIED after an AD_HOC request, or UNKNOWN if the patch has been retired, also, by the
model's choice, where one of its number was written since (log 25); with result REJECTED, and at the timeout, it is
UNKNOWN and the outcome counted. R46: the resolution of a FIRING cue's last request completes the cue, with a failure
counted. A request that waits is promoted and sent when the one in flight is resolved, here one of no cue, and one
whose patch is absent is then REJECTED (R104). R99: an acknowledgement that matches no request in flight is a sequence
error and resolves nothing. -/
def Obligations.PatchOutcomesSetTheConfirmedPatch : Prop :=
  (∀ (c : Chair) (seq tag result : Byte) (f : Flight) (s : State), s.resetHeld = false →
    s.links[c].state = .locked → s.links[c].seq = some seq → s.patch[c].flight = some f → f.tag = tag →
    s.patch[c].waiting = none → result.toNat ≤ 1 →
    ∃ t : State, exec (.patchAck c seq tag result) s = .next t ∧
      t = { s with cue := t.cue, overlay := t.overlay, patch := t.patch, links := t.links, port := t.port } ∧
      (∀ d : Chair, d ≠ c → t.patch[d] = s.patch[d] ∧ t.links[d] = s.links[d]) ∧
      t.links[c] = { s.links[c] with
        activity := some s.time.micros, silence := some (s.time.micros + 50000), seq := some (seq + 1#8) } ∧
      (result = 0#8 →
        t.patch[c] = { s.patch[c] with
          flight := none, last := some (f.req.kind, .ok), confirmed := t.patch[c].confirmed } ∧
        (f.req = .adHoc → t.patch[c].confirmed = .modified) ∧
        ∀ sel : PatchSel, f.req.sel? = some sel →
          t.patch[c].confirmed =
            if f.retired = true ∨ s.book.patch? c sel.number = none then .unknown else .patch sel) ∧
      (result = 1#8 →
        t.patch[c] = { s.patch[c] with
          flight := none, last := some (f.req.kind, .rejected), confirmed := .unknown
          counts := { s.patch[c].counts with rejected := bump s.patch[c].counts.rejected } }) ∧
      ((∀ n : CueNumber, f.req.isOf n = false) →
        t.cue = s.cue ∧ t.overlay = s.overlay ∧ t.port = s.port) ∧
      ∀ (n : CueNumber) (sel : PatchSel) (k : Cue) (e : RunEntry), f.req = .cue n false sel → s.cue.isOpen = true →
        s.book.cue? n = some k → s.cue.entry? n = some e → e.state = .firing → e.mark = none →
        (∀ d : Chair, d ≠ c → s.patch[d].holds n = false) →
        t.runState n = .complete ∧ t.port.flags = s.port.flags ||| EventFlag.cueDone.bit ∧
        t.cue.completion = some { cue := n, requests := k.patchActions, failed := e.failed + result.toNat }) ∧
  (∀ (c : Chair) (seq tag result : Byte) (f : Flight) (r : PatchReq) (s : State), s.resetHeld = false →
    s.links[c].state = .locked → s.links[c].seq = some seq → s.patch[c].flight = some f → f.tag = tag →
    s.patch[c].waiting = some r → result.toNat ≤ 1 → (∀ n : CueNumber, f.req.isOf n = false) →
    ∃ (t : State) (landed : Dispatch), exec (.patchAck c seq tag result) s = .next t ∧
      landed = { s.patch[c] with
        flight := none, waiting := none, last := some (f.req.kind, if result = 0#8 then .ok else .rejected)
        counts := if result = 0#8 then s.patch[c].counts
          else { s.patch[c].counts with rejected := bump s.patch[c].counts.rejected }
        confirmed := if result ≠ 0#8 then .unknown else
          match f.req.sel? with
          | none => .modified
          | some sel => if f.retired = true ∨ s.book.patch? c sel.number = none then .unknown else .patch sel } ∧
      (∀ entries : List Entry,
        (r = .adHoc ∧ entries = s.patch[c].adhoc) ∨ (∃ (sel : PatchSel) (p : Patch), r.sel? = some sel ∧
          s.book.patch? c sel.number = some p ∧ entries = p.list sel.variant) →
        t = { s with patch := t.patch, links := t.links } ∧
        (∀ d : Chair, d ≠ c → t.patch[d] = s.patch[d] ∧ t.links[d] = s.links[d]) ∧
        t.links[c].patchMsg = some { tag := s.patch[c].tag + 1#8, entries := entries } ∧
        t.patch[c] = { landed with
          flight := some { req := r, tag := s.patch[c].tag + 1#8, expiry := s.time.tick + 1920#32, retired := false }
          tag := s.patch[c].tag + 1#8, adhoc := if r = .adHoc then [] else s.patch[c].adhoc
          counts := { landed.counts with sent := bump s.patch[c].counts.sent } }) ∧
      ∀ sel : PatchSel, r = .restore sel → s.book.patch? c sel.number = none →
        t = { s with patch := t.patch, links := t.links } ∧ t.links[c].patchMsg = s.links[c].patchMsg ∧
        t.patch[c] = { landed with
          last := some (.restore, .rejected)
          counts := { landed.counts with rejected := bump landed.counts.rejected } }) ∧
  (∀ (c : Chair) (seq tag result : Byte) (s : State), s.resetHeld = false → s.links[c].state = .locked →
    s.links[c].seq = some seq → result.toNat ≤ 1 → (∀ f : Flight, s.patch[c].flight = some f → f.tag ≠ tag) →
    ∃ t : State, exec (.patchAck c seq tag result) s = .next t ∧ t = { s with links := t.links } ∧
      ∀ d : Chair, t.links[d] = if d = c then
        { s.links[d] with
          activity := some s.time.micros, silence := some (s.time.micros + 50000), seq := some (seq + 1#8)
          mark := true
          counts := { s.links[d].counts with sequence := bump s.links[d].counts.sequence } }
      else s.links[d]) ∧
  ∀ (c : Chair) (f : Flight) (s : State), s.resetHeld = false → s.patch[c].flight = some f →
    (tickReached s.time.tick f.expiry = false → exec (.patchTimeout c) s = .next s) ∧
    (tickReached s.time.tick f.expiry = true → s.patch[c].waiting = none → (∀ n : CueNumber, f.req.isOf n = false) →
      ∃ t : State, exec (.patchTimeout c) s = .next t ∧ t = { s with patch := t.patch } ∧
        (∀ d : Chair, d ≠ c → t.patch[d] = s.patch[d]) ∧
        t.patch[c] = { s.patch[c] with
          flight := none, last := some (f.req.kind, .timeout), confirmed := .unknown
          counts := { s.patch[c].counts with timedOut := bump s.patch[c].counts.timedOut } })

/-- R86: REALIGN is OUT_OF_RANGE for a chair outside 1..16, and is otherwise taken whatever the state of the show, the
stop, the clock and the chair: the echo filter is emptied, so the filtered value is none; the outstanding probe
becomes none, and an ECHO that arrives later is discarded; on a LOCKED link a PROBE is made at once and the 500 ms run
on from it. The basis, the trim and the advance stay. -/
def Obligations.RealignStartsAFreshFilter : Prop :=
  ∀ (chair : Nat) (s : State), s.accepts →
    (chair < 1 ∨ 16 < chair → exec (.realign chair) s = .next (owing (plain .outOfRange) s.taking)) ∧
    ∀ c : Chair, chair = chairNumber c →
      ∃ t : State, exec (.realign chair) s = .next t ∧
        t = owing (plain .ok) { s.taking with clicks := t.clicks, links := t.links } ∧
        t.clicks[c] = { s.clicks[c] with filter := [] } ∧ t.clicks[c].filtered = none ∧
        (∀ d : Chair, d ≠ c → t.clicks[d] = s.clicks[d] ∧ t.links[d] = s.links[d]) ∧
        t.links[c] =
          (if s.links[c].state = .locked then
            { s.links[c] with
              outstanding := none, probeMsg := some s.links[c].nextProbe, nextProbe := s.links[c].nextProbe + 1#8
              probeDue := some (s.time.tick + 24000#32) }
          else { s.links[c] with outstanding := none }) ∧
        ∀ (seq id : Byte) (turnaround : BitVec 16), ∃ u : State,
          exec (.echo c seq id turnaround) t = .next u ∧ u.clicks = t.clicks

/-- R83, R84, R85, R87: a LOCKED link makes its PROBE each 500 ms; the outstanding probe is lost after 20 ms with no
echo; an ECHO of the outstanding id within 20 ms gives the sample floor((R - T) / 2) + L, which joins the filter of
four and, with the clock PARKED or FROZEN, makes the new mean the basis. An ECHO of another id, or too late, gives no
sample. At exactly 20 ms an ECHO still counts and the probe may as well be lost, whichever is taken first, by the
model's choice (log 28). -/
def Obligations.ProbesMeasureTheChair : Prop :=
  (∀ (c : Chair) (due : Tick) (s : State), s.resetHeld = false → s.links[c].probeDue = some due →
    (s.links[c].state ≠ .locked ∨ tickReached s.time.tick due = false → exec (.probePeriod c) s = .next s) ∧
    (s.links[c].state = .locked → tickReached s.time.tick due = true →
      ∃ t : State, exec (.probePeriod c) s = .next t ∧ t = { s with links := t.links } ∧
        ∀ d : Chair, t.links[d] =
          if d = c then
            { s.links[d] with
              probeMsg := some s.links[d].nextProbe, nextProbe := s.links[d].nextProbe + 1#8
              probeDue := some (s.time.tick + 24000#32) }
          else s.links[d])) ∧
  (∀ (c : Chair) (p : Probe) (s : State), s.resetHeld = false → s.links[c].outstanding = some p →
    (s.time.micros < p.start + 20000 → exec (.probeLost c) s = .next s) ∧
    (p.start + 20000 ≤ s.time.micros →
      ∃ t : State, exec (.probeLost c) s = .next t ∧ t = { s with links := t.links } ∧
        ∀ d : Chair, t.links[d] = if d = c then { s.links[d] with outstanding := none } else s.links[d])) ∧
  ∀ (c : Chair) (seq id : Byte) (turnaround : BitVec 16) (p : Probe) (s : State), s.resetHeld = false →
    s.links[c].state = .locked → s.links[c].seq = some seq → s.links[c].outstanding = some p →
    p.start ≤ s.time.micros →
    ∃ t : State, exec (.echo c seq id turnaround) s = .next t ∧
      t = { s with clicks := t.clicks, links := t.links } ∧
      (∀ d : Chair, d ≠ c → t.clicks[d] = s.clicks[d] ∧ t.links[d] = s.links[d]) ∧
      (p.id ≠ id ∨ p.start + 20000 < s.time.micros →
        t.clicks = s.clicks ∧ t.links[c].outstanding = some p) ∧
      (p.id = id → s.time.micros ≤ p.start + 20000 →
        t.links[c] = { s.links[c] with
          activity := some s.time.micros, silence := some (s.time.micros + 50000), seq := some (seq + 1#8)
          outstanding := none } ∧
        (s.time.micros - p.start < turnaround.toNat → t.clicks = s.clicks) ∧
        (turnaround.toNat ≤ s.time.micros - p.start →
          t.clicks[c].filter = (s.clicks[c].filter ++
            [(s.time.micros - p.start - turnaround.toNat) / 2 + s.links[c].latency]).drop
              (s.clicks[c].filter.length + 1 - 4) ∧
          t.clicks[c].enable = s.clicks[c].enable ∧ t.clicks[c].trim = s.clicks[c].trim ∧
          (s.clock.state = .parked ∨ s.clock.state = .frozen →
            t.clicks[c].basis = t.clicks[c].filter.sum / t.clicks[c].filter.length ∧
            t.clicks[c].advance = advanceOf t.clicks[c].basis s.clicks[c].trim) ∧
          (s.clock.state ≠ .parked → s.clock.state ≠ .frozen →
            t.clicks[c].basis = s.clicks[c].basis ∧ t.clicks[c].advance = s.clicks[c].advance)))

/-- R109, R110: a DOWN link whose hold-off is idle enters TRAINING at line activity, and one whose hold-off ends does
so if a transition was seen within the last 1 ms. A link in TRAINING sends its chair number each 1 ms, and fails after
500 ms into a hold-off of 100 ms. Each change of the link state is flagged. -/
def Obligations.LineActivityLeadsToTraining : Prop :=
  ∀ (c : Chair) (s : State), s.resetHeld = false →
    (∀ i : Instr, i = .lineActivity c ∨ i = .holdOffExpiry c ∨ i = .trainFrame c ∨ i = .trainingTimeout c →
      ∃ t : State, exec i s = .next t ∧
        t = { s with links := t.links, port := { s.port with flags := t.port.flags } } ∧
        (∀ d : Chair, d ≠ c → t.links[d] = s.links[d]) ∧
        t.port.flags = if t.links[c].state = s.links[c].state then s.port.flags
          else s.port.flags ||| EventFlag.chairChange.bit) ∧
    (∃ t : State, exec (.lineActivity c) s = .next t ∧ t.links[c] =
      if s.links[c].state = .down ∧ s.links[c].holdOff = none then
        { s.links[c] with
          state := .training, activity := some s.time.micros, training := some (s.time.micros + 500000)
          trainDue := some s.time.micros, bucket := 0, seq := none, holdOff := none }
      else { s.links[c] with activity := some s.time.micros }) ∧
    (∀ limit : Nat, s.links[c].state = .down → s.links[c].holdOff = some limit →
      (s.time.micros < limit → exec (.holdOffExpiry c) s = .next s) ∧
      (limit ≤ s.time.micros → ∃ t : State, exec (.holdOffExpiry c) s = .next t ∧
        ((∃ seen : Nat, s.links[c].activity = some seen ∧ s.time.micros ≤ seen + 1000) →
          t.links[c].state = .training ∧ t.links[c].training = some (s.time.micros + 500000)) ∧
        ((∀ seen : Nat, s.links[c].activity = some seen → seen + 1000 < s.time.micros) →
          t.links[c] = { s.links[c] with holdOff := none }))) ∧
    (∀ due : Nat, s.links[c].state = .training → s.links[c].trainDue = some due → due ≤ s.time.micros →
      ∃ t : State, exec (.trainFrame c) s = .next t ∧
        t.links[c] = { s.links[c] with trainDue := some (due + 1000), sent := some (.train (c.val + 1)) }) ∧
    ∀ limit : Nat, s.links[c].state = .training → s.links[c].training = some limit →
      (s.time.micros < limit → exec (.trainingTimeout c) s = .next s) ∧
      (limit ≤ s.time.micros → ∃ t : State, exec (.trainingTimeout c) s = .next t ∧
        t.links[c] = { s.links[c] with
          state := .down, holdOff := some (s.time.micros + 100000), training := none, trainDue := none
          counts := { s.links[c].counts with
            trainingFailures := bump s.links[c].counts.trainingFailures } })

/-- R111, R83, R101: a valid HELLO locks a link in TRAINING, which is then handed a STOP MARK with the stop state and
a first PROBE, and a chair with a target that it does not hold has it restored; one outside its values is a format
error (R114). R112, R100: after 50 ms of silence the link is DOWN with a 100 ms hold-off, its messages are discarded,
its request in flight is LINK_LOST with the confirmed patch UNKNOWN, and its picture is composed no more. R113: a
valid HELLO on a LOCKED link, here one with no CLICK queued, loses it likewise, with no hold-off and no loss counted,
and locks it afresh. A request that waits is promoted at a lock (R101), here one of no cue. -/
def Obligations.HelloLocksAndSilenceLoses : Prop :=
  (∀ (c : Chair) (seq version flags : Byte) (latency : BitVec 16) (s : State), s.resetHeld = false →
    s.links[c].state = .training → s.patch[c].waiting = none → s.patch[c].flight = none → s.links[c].bucket < 7 →
    ∃ t : State, exec (.hello c seq version latency flags) s = .next t ∧
      (∀ d : Chair, d ≠ c → t.links[d] = s.links[d] ∧ t.patch[d] = s.patch[d] ∧ t.clicks[d] = s.clicks[d]) ∧
      (version ≠ 1#8 ∨ 5000 < latency.toNat ∨ 1 < flags.toNat →
        t = { s with links := t.links } ∧
        t.links[c] = { s.links[c] with
          activity := some s.time.micros, mark := true, bucket := s.links[c].bucket + 1
          counts := { s.links[c].counts with format := bump s.links[c].counts.format } }) ∧
      (version = 1#8 → latency.toNat ≤ 5000 → flags.toNat ≤ 1 →
        t = { s with
          links := t.links, patch := t.patch, clicks := t.clicks
          port := { s.port with flags := s.port.flags ||| EventFlag.chairChange.bit } } ∧
        t.clicks[c] = { s.clicks[c] with filter := [] } ∧
        t.links[c] = { s.links[c] with
          state := .locked, latency := latency.toNat, monitor := decide (flags = 1#8), seq := some (seq + 1#8)
          training := none, trainDue := none, activity := some s.time.micros
          silence := some (s.time.micros + 50000), stopMark := some (decide (s.stop.state = .stopped))
          outstanding := none, probeMsg := some s.links[c].nextProbe, nextProbe := s.links[c].nextProbe + 1#8
          probeDue := some (s.time.tick + 24000#32), patchMsg := t.links[c].patchMsg
          counts := { s.links[c].counts with locks := bump s.links[c].counts.locks } } ∧
        ((s.patch[c].target = none ∨ s.book.chairs[c].enabled = false ∨
            ∃ sel : PatchSel, s.patch[c].target = some sel ∧ s.patch[c].confirmed = .patch sel) →
          t.patch = s.patch ∧ t.links[c].patchMsg = s.links[c].patchMsg) ∧
        ∀ (sel : PatchSel) (p : Patch), s.patch[c].target = some sel → s.book.chairs[c].enabled = true →
          s.patch[c].confirmed ≠ .patch sel → s.book.patch? c sel.number = some p →
          t.patch[c].flight = some { req := .restore sel, tag := s.patch[c].tag + 1#8,
                                     expiry := s.time.tick + 1920#32, retired := false } ∧
          t.links[c].patchMsg = some { tag := s.patch[c].tag + 1#8, entries := p.list sel.variant })) ∧
  (∀ (c : Chair) (seq flags : Byte) (latency : BitVec 16) (r : PatchReq) (entries : List Entry) (s : State),
    s.resetHeld = false → s.links[c].state = .training → s.patch[c].flight = none → s.patch[c].waiting = some r →
    latency.toNat ≤ 5000 → flags.toNat ≤ 1 →
    (r = .adHoc ∧ entries = s.patch[c].adhoc) ∨ (∃ (sel : PatchSel) (p : Patch), r.sel? = some sel ∧
      s.book.patch? c sel.number = some p ∧ entries = p.list sel.variant) →
    ∃ t : State, exec (.hello c seq 1#8 latency flags) s = .next t ∧ t.links[c].state = .locked ∧ t.cue = s.cue ∧
      t.links[c].patchMsg = some { tag := s.patch[c].tag + 1#8, entries := entries } ∧
      t.patch[c] = { s.patch[c] with
        waiting := none, tag := s.patch[c].tag + 1#8, adhoc := if r = .adHoc then [] else s.patch[c].adhoc
        flight := some { req := r, tag := s.patch[c].tag + 1#8, expiry := s.time.tick + 1920#32, retired := false }
        counts := { s.patch[c].counts with sent := bump s.patch[c].counts.sent } }) ∧
  (∀ (c : Chair) (seq flags : Byte) (latency : BitVec 16) (s : State), s.resetHeld = false →
    s.links[c].state = .locked → s.links[c].clickQueue = [] → s.patch[c].waiting = none →
    (∀ n : CueNumber, s.patch[c].flight.any (fun f => f.req.isOf n) = false) →
    latency.toNat ≤ 5000 → flags.toNat ≤ 1 →
    ∃ (t : State) (lost : Dispatch), exec (.hello c seq 1#8 latency flags) s = .next t ∧
      t = { s with
        links := t.links, patch := t.patch, clicks := t.clicks, overlay := t.overlay
        port := { s.port with flags := s.port.flags ||| EventFlag.chairChange.bit } } ∧
      (∀ d : Chair, d ≠ c → t.links[d] = s.links[d] ∧ t.patch[d] = s.patch[d] ∧ t.clicks[d] = s.clicks[d] ∧
        t.overlay.views[d] = s.overlay.views[d]) ∧
      t.clicks[c] = { s.clicks[c] with filter := [] } ∧
      t.overlay.views[c] = { s.overlay.views[c] with composing := false } ∧
      t.links[c] = { s.links[c] with
        latency := latency.toNat, monitor := decide (flags = 1#8), seq := some (seq + 1#8)
        holdOff := none, training := none, trainDue := none, activity := some s.time.micros
        silence := some (s.time.micros + 50000), stopMark := some (decide (s.stop.state = .stopped))
        outstanding := none, probeMsg := some s.links[c].nextProbe, nextProbe := s.links[c].nextProbe + 1#8
        probeDue := some (s.time.tick + 24000#32), patchMsg := t.links[c].patchMsg
        counts := { s.links[c].counts with locks := bump s.links[c].counts.locks } } ∧
      (s.patch[c].flight = none → lost = s.patch[c]) ∧
      (∀ f : Flight, s.patch[c].flight = some f → lost = { s.patch[c] with
        flight := none, confirmed := .unknown, last := some (f.req.kind, .linkLost)
        counts := { s.patch[c].counts with linkLost := bump s.patch[c].counts.linkLost } }) ∧
      ((s.patch[c].target = none ∨ s.book.chairs[c].enabled = false ∨
          ∃ sel : PatchSel, s.patch[c].target = some sel ∧ lost.confirmed = .patch sel) →
        t.patch[c] = lost ∧ t.links[c].patchMsg = none) ∧
      ∀ (sel : PatchSel) (p : Patch), s.patch[c].target = some sel → s.book.chairs[c].enabled = true →
        lost.confirmed ≠ .patch sel → s.book.patch? c sel.number = some p →
        t.patch[c] = { lost with
          flight := some { req := .restore sel, tag := s.patch[c].tag + 1#8, expiry := s.time.tick + 1920#32
                           retired := false }
          tag := s.patch[c].tag + 1#8
          counts := { lost.counts with sent := bump s.patch[c].counts.sent } } ∧
        t.links[c].patchMsg = some { tag := s.patch[c].tag + 1#8, entries := p.list sel.variant }) ∧
  ∀ (c : Chair) (limit : Nat) (s : State), s.resetHeld = false → s.links[c].state = .locked →
    s.links[c].silence = some limit →
    (s.time.micros < limit → exec (.silenceTimeout c) s = .next s) ∧
    (limit ≤ s.time.micros → (∀ n : CueNumber, s.patch[c].flight.any (fun f => f.req.isOf n) = false) →
      ∃ t : State, exec (.silenceTimeout c) s = .next t ∧
        t = { s with
          links := t.links, patch := t.patch, overlay := t.overlay, due := t.due
          port := { s.port with flags := s.port.flags ||| EventFlag.chairChange.bit } } ∧
        (∀ d : Chair, d ≠ c → t.links[d] = s.links[d] ∧ t.patch[d] = s.patch[d] ∧
          t.overlay.views[d] = s.overlay.views[d]) ∧
        t.overlay.views[c] = { s.overlay.views[c] with composing := false } ∧
        t.links[c] = { s.links[c] with
          state := .down, silence := none, holdOff := some (s.time.micros + 100000), seq := none, clickQueue := [],
          stopMark := none, patchMsg := none, probeMsg := none, outstanding := none, probeDue := none
          counts := { s.links[c].counts with lostSilence := bump s.links[c].counts.lostSilence } } ∧
        (s.links[c].clickQueue = [] → t.due = s.due) ∧
        (s.patch[c].flight = none → t.patch[c] = s.patch[c]) ∧
        ∀ f : Flight, s.patch[c].flight = some f →
          t.patch[c] = { s.patch[c] with
            flight := none, confirmed := .unknown, last := some (f.req.kind, .linkLost)
            counts := { s.patch[c].counts with linkLost := bump s.patch[c].counts.linkLost } })

/-- R114 to R118: a message with a wrong CRC is counted, marks an error and fills the bucket; at 8 a LOCKED link is
DOWN. A message on a LOCKED link restarts the silence timer, and one out of sequence is counted and marked. The
buckets leak by one each 125 ms. A GO PRESS is counted as ignored without enabled GO rights; with them it is a GO of
kind CHAIR (R29, R30): it does nothing with the show closed, is counted and flagged as ignored in a stop and with the
guard running, and fires the standby cue, here one that hands nothing on, where its mask allows. R29: with the clock
VAMPING, no exit due and a standby cue that allows CHAIR, it is handed on as a vamp release instead. -/
def Obligations.LinksCheckTheirMessages : Prop :=
  (∀ (c : Chair) (bytes : List Byte) (s : State), s.resetHeld = false → s.links[c].state = .locked →
    bytes.length < 2 ∨ bytes.drop (bytes.length - 2) ≠ bigEndian 2 (crc16 (bytes.take (bytes.length - 2))).toNat →
    ∃ t : State, exec (.uplinkDamaged c bytes) s = .next t ∧
      (∀ d : Chair, d ≠ c → t.links[d] = s.links[d]) ∧
      t.links[c].counts.crc = bump s.links[c].counts.crc ∧ t.links[c].mark = true ∧
      (s.links[c].bucket < 7 → t = { s with links := t.links } ∧ t.links[c].state = .locked ∧
        t.links[c].bucket = s.links[c].bucket + 1) ∧
      (7 ≤ s.links[c].bucket → t.links[c].state = .down ∧ t.links[c].bucket = 8 ∧
        t.links[c].counts.lostErrors = bump s.links[c].counts.lostErrors ∧
        t.links[c].holdOff = some (s.time.micros + 100000))) ∧
  (∀ (c : Chair) (seq : Byte) (s : State), s.resetHeld = false → s.links[c].state = .locked →
    ∃ t : State, exec (.idle c seq) s = .next t ∧ t = { s with links := t.links } ∧
      (∀ d : Chair, d ≠ c → t.links[d] = s.links[d]) ∧
      t.links[c] = { s.links[c] with
        activity := some s.time.micros, silence := some (s.time.micros + 50000), seq := some (seq + 1#8)
        mark := s.links[c].mark || decide (s.links[c].seq ≠ some seq)
        counts := { s.links[c].counts with
          sequence := if s.links[c].seq = some seq then s.links[c].counts.sequence
            else bump s.links[c].counts.sequence } }) ∧
  (∀ s : State, s.resetHeld = false →
    (s.time.micros < s.leakDue → exec .leakStep s = .next s) ∧
    (s.leakDue ≤ s.time.micros → ∃ t : State, exec .leakStep s = .next t ∧
      t = { s with leakDue := s.leakDue + 125000, links := t.links } ∧
      ∀ c : Chair, t.links[c] = { s.links[c] with bucket := s.links[c].bucket - 1 })) ∧
  ∀ (c : Chair) (seq : Byte) (s : State), s.resetHeld = false → s.links[c].state = .locked →
    s.links[c].seq = some seq →
    ∃ t : State, exec (.goPress c seq) s = .next t ∧ (∀ d : Chair, d ≠ c → t.links[d] = s.links[d]) ∧
      (s.book.chairs[c].enabled = false ∨ s.book.chairs[c].goRights = false →
        t = { s with links := t.links } ∧
        t.links[c].counts = { s.links[c].counts with ignoredGo := bump s.links[c].counts.ignoredGo }) ∧
      (s.book.chairs[c].enabled = true → s.book.chairs[c].goRights = true →
        ∀ (v : Vamp) (n : CueNumber) (k : Cue), s.clock.state = .vamping → s.clock.vamp = some v → v.exit = none →
          s.cue.standby = some n → s.book.cue? n = some k → k.mask.chair = true →
          t = { s with
            links := t.links
            clock := { s.clock with
              vamp := some { v with exit := some (if v.mark then v.pass + 1 else v.pass) } } }) ∧
      (s.book.chairs[c].enabled = true → s.book.chairs[c].goRights = true →
        (s.clock.state ≠ .vamping ∨ (∀ v : Vamp, s.clock.vamp = some v → v.exit ≠ none) ∨
          ∀ (n : CueNumber) (k : Cue), s.cue.standby = some n → s.book.cue? n = some k → k.mask.chair = false) →
        t.links[c] = { s.links[c] with
          activity := some s.time.micros, silence := some (s.time.micros + 50000), seq := some (seq + 1#8) } ∧
        (s.cue.isOpen = false → t = { s with links := t.links }) ∧
        (s.cue.isOpen = true → s.stop.state ≠ .clear ∨ s.cue.guard ≠ none →
          t = { s with
            links := t.links, cue := { s.cue with ignoredChair := bump s.cue.ignoredChair }
            port := { s.port with flags := s.port.flags ||| EventFlag.goIgnored.bit } }) ∧
        ∀ (n : CueNumber) (k : Cue), s.cue.isOpen = true → s.stop.state = .clear → s.cue.guard = none →
          s.cue.held = none → s.cue.standby = some n → s.firesPlainly n k → k.mask.chair = true →
          ∃ u : State, u = { s with links := t.links } ∧ u.firedPlainly t n k)

/-- R120, R119: the arbiter grants a LOCKED link's free downlink to the first kind that waits, of CLICK, STOP MARK,
PATCH, PROBE and a picture line; a PROBE that begins is outstanding from now, and the view's cursor passes the line.
R79, R77: with a CLICK the chair's part of the first item that holds it handed is DONE, that item leaves when no other
part is left, and every other item stays, one of an equal click too. A link that is not LOCKED, or has nothing
waiting, is granted nothing. That the command comes when the downlink is free is the sender's part (log 22). -/
def Obligations.DownlinkIsGrantedInOrder : Prop :=
  ∀ (c : Chair) (s : State), s.resetHeld = false →
    (s.links[c].state ≠ .locked → exec (.downlinkGrant c) s = .next s) ∧
    (s.links[c].state = .locked →
      (∀ (k : Click) (rest : List Click), s.links[c].clickQueue = k :: rest →
        ∃ t : State, exec (.downlinkGrant c) s = .next t ∧ t = { s with links := t.links, due := t.due } ∧
          (∀ d : Chair, t.links[d] =
            if d = c then { s.links[d] with clickQueue := rest, sent := some (.click k) } else s.links[d]) ∧
          ((∀ i ∈ s.due, ∃ d : Chair, i.parts[d].state ≠ .done) →
            ((∀ i ∈ s.due, i.click = k → i.parts[c].state ≠ .handed) → t.due = s.due) ∧
            ∀ (before after : List DueItem) (i : DueItem), s.due = before ++ i :: after → i.click = k →
              i.parts[c].state = .handed → (∀ j ∈ before, j.click = k → j.parts[c].state ≠ .handed) →
              ((∀ d : Chair, d ≠ c → i.parts[d].state = .done) → t.due = before ++ after) ∧
              ((∃ d : Chair, d ≠ c ∧ i.parts[d].state ≠ .done) →
                ∃ j : DueItem, t.due = before ++ j :: after ∧ j.click = k ∧
                  ∀ d : Chair, j.parts[d] = if d = c then { i.parts[d] with state := .done } else i.parts[d]))) ∧
      (s.links[c].clickQueue = [] →
        ∃ (t : State) (views : Vector View 16), exec (.downlinkGrant c) s = .next t ∧
          t = { s with links := t.links, overlay := { s.overlay with views := views } } ∧
          (∀ d : Chair, d ≠ c → t.links[d] = s.links[d] ∧ views[d] = s.overlay.views[d]) ∧
          (∀ on : Bool, s.links[c].stopMark = some on → views = s.overlay.views ∧
            t.links[c] = { s.links[c] with stopMark := none, sent := some (.stopMark on) }) ∧
          (s.links[c].stopMark = none →
            (∀ m : PatchMsg, s.links[c].patchMsg = some m → views = s.overlay.views ∧
              t.links[c] = { s.links[c] with patchMsg := none, sent := some (.patch m) }) ∧
            (s.links[c].patchMsg = none →
              (∀ id : Byte, s.links[c].probeMsg = some id → views = s.overlay.views ∧
                t.links[c] = { s.links[c] with
                  probeMsg := none, outstanding := some { id := id, start := s.time.micros }
                  sent := some (.probe id) }) ∧
              (s.links[c].probeMsg = none →
                (∀ p : Picture, s.overlay.views[c].composing = true → s.links[c].monitor = true →
                  s.overlay.views[c].picture = some p → s.overlay.views[c].cursor < p.height →
                  t.links[c] = { s.links[c] with sent := some (.video s.overlay.views[c].cursor p) } ∧
                  views[c] = { s.overlay.views[c] with cursor := s.overlay.views[c].cursor + 1 }) ∧
                (s.overlay.views[c].composing = false ∨ s.links[c].monitor = false ∨
                    s.overlay.views[c].picture = none → t = s))))))

/-! ## The cue pad (R123 to R135) -/

/-- R123: a pad frame that is not eleven bytes from A5h is counted as discarded and changes nothing else. R134: a
whole frame in SEEDING or LOST seeds every electrode from its count; a RUNNING pad whose watch expires is LOST. R125,
R126: in RUNNING with no touch, a sample below every touch threshold moves each baseline by a sixteenth of the
difference. R130, R131: the hold point spends a contact on Z3 and hands a vamp release on; the stop point spends the
contact on a stop request of source PAD, here taken in CLEAR. -/
def Obligations.PadSamplesLossAndPoints : Prop :=
  (∀ (bytes : List Byte) (s : State), s.resetHeld = false →
    bytes.length ≠ 11 ∨ bytes.head? ≠ some 0xA5#8 →
    exec (.padSample bytes) s = .next { s with pad := { s.pad with
      counts := { s.pad.counts with discarded := bump s.pad.counts.discarded } } }) ∧
  (∀ (bytes : List Byte) (counts : Vector Nat 5) (s : State), s.resetHeld = false →
    padCounts bytes = some counts →
    ∃ t : State, exec (.padSample bytes) s = .next t ∧
      (s.pad.state ≠ .running →
        t = { s with pad := { s.pad with
          state := .running, lastTick := some s.time.tick, lastCounts := some counts, blocking := false,
          watch := some (s.time.tick + 1920#32), electrodes := t.pad.electrodes } } ∧
        ∀ z : Zone, t.pad.electrodes[z] = { b16 := 16 * counts[z], level := .idle, onset := none, void := false }) ∧
      (s.pad.state = .running → s.pad.contact = none → s.pad.blocking = false →
        (∀ z : Zone, s.pad.electrodes[z].level = .idle ∧ s.pad.electrodes[z].onset = none ∧
          s.pad.electrodes[z].void = false ∧
          counts[z] < s.pad.electrodes[z].b16 / 16 +
            max 1 (s.pad.electrodes[z].b16 / 16 * s.book.settings.touch / 256)) →
        t = { s with pad := { s.pad with
          lastTick := some s.time.tick, lastCounts := some counts, watch := some (s.time.tick + 1920#32),
          electrodes := t.pad.electrodes } } ∧
        ∀ z : Zone, t.pad.electrodes[z] = { s.pad.electrodes[z] with
          b16 := ((s.pad.electrodes[z].b16 : Int) +
            ((16 * counts[z] : Int) - s.pad.electrodes[z].b16).tdiv 16).toNat })) ∧
  (∀ (watch : Tick) (s : State), s.resetHeld = false → s.pad.state ≠ .lost → s.pad.watch = some watch →
    (tickReached s.time.tick watch = false → exec .padLoss s = .next s) ∧
    (tickReached s.time.tick watch = true → s.pad.contact = none →
      ∃ t : State, exec .padLoss s = .next t ∧
        t = { s with pad := { s.pad with
          state := .lost, watch := none, blocking := false, electrodes := t.pad.electrodes } } ∧
        ∀ z : Zone, t.pad.electrodes[z] =
          { b16 := s.pad.electrodes[z].b16, level := .idle, onset := none, void := false })) ∧
  (∀ (point : Tick) (k : Contact) (v : Visit) (s : State), s.resetHeld = false → s.pad.holdPoint = some point →
    s.pad.contact = some k → k.visits = [v] → v.zone = 3 → k.spent = false →
    (tickReached s.time.tick point = false → exec .holdPoint s = .next s) ∧
    (tickReached s.time.tick point = true →
      ∃ t : State, exec .holdPoint s = .next t ∧
        t = { s with
          clock := { s.clock with vamp := t.clock.vamp }
          pad := { s.pad with
            contact := some { k with spent := true, outcome := some .hold }, holdPoint := none
            counts := { s.pad.counts with holds := bump s.pad.counts.holds } } } ∧
        (s.clock.state ≠ .vamping → s.clock.state ≠ .held → t.clock.vamp = s.clock.vamp) ∧
        ∀ r : Vamp, s.clock.state = .vamping ∨ s.clock.state = .held → s.clock.vamp = some r → r.exit = none →
          t.clock.vamp = some { r with exit := some (if r.mark then r.pass + 1 else r.pass) })) ∧
  ∀ (point : Tick) (k : Contact) (s : State), s.resetHeld = false → s.pad.stopPoint = some point →
    s.pad.contact = some k →
    (tickReached s.time.tick point = false → exec .stopPoint s = .next s) ∧
    (tickReached s.time.tick point = true →
      ∃ t : State, exec .stopPoint s = .next t ∧
        t.pad = { s.pad with
          contact := some { k with spent := true, stopGiven := true, outcome := some .stop }, stopPoint := none
          counts := { s.pad.counts with stopPresses := bump s.pad.counts.stopPresses } } ∧
        (s.cue.isOpen = false → t = { s with pad := t.pad }) ∧
        (s.cue.isOpen = true → s.stop.state = .clear →
          t.stop.state = .stopped ∧ t.stop.held = { s.stop.held with pad := true } ∧ t.due = [] ∧
          ∃ r : StopRecord, t.stop.record = some r ∧ r.first = .pad ∧ r.tick = s.time.tick))

/-- R126, R128: in RUNNING with the ring idle, a touch that begins alone on the row begins a contact, with its hold
point on Z3 and its stop point on a DEEP Z4 (R130, R131); with a contact in progress it is its next visit, or its
overflow past eight. R128, R129, R132: the contact ends when every touch has lifted, and its gesture is handed on: a
GO tap (R30), a tempo tap (R62, R63), a swipe that moves the standby unless the show is closed or STOPPED (R39), or
none; a contact that gave a hold or a stop gives nothing more. R127: a touch of the ring blocks the row, cancels the
contact and makes every touch of the row void, and one that remains as the ring is released stays void. R133: a touch
of more than 20 s is reseeded, which cancels its contact. -/
def Obligations.TouchesMakeContactsAndGestures : Prop :=
  ∀ (bytes : List Byte) (counts : Vector Nat 5) (set : Settings) (tick : Tick) (s : State), s.resetHeld = false →
    s.pad.state = .running → padCounts bytes = some counts → set = s.book.settings → tick = s.time.tick →
    ∃ t u : State, exec (.padSample bytes) s = .next t ∧ u = { s with pad := t.pad } ∧
      u.pad = { s.pad with
        lastTick := some tick, lastCounts := some counts, watch := some (tick + 1920#32), electrodes := u.pad.electrodes
        blocking := u.pad.blocking, contact := u.pad.contact, holdPoint := u.pad.holdPoint
        stopPoint := u.pad.stopPoint, last := u.pad.last, counts := u.pad.counts } ∧
      (∀ z : Zone, z ≠ 0 → s.pad.blocking = false → s.pad.electrodes[(0 : Zone)].rests set counts[0] →
        s.pad.electrodes[z].begins set counts[z] →
        (s.pad.contact = none →
          (∀ y : Zone, y ≠ 0 → y ≠ z → s.pad.electrodes[y].rests set counts[y]) →
          ∃ k : Contact, t = u ∧ u.pad.contact = some k ∧
            k = { visits := [{ zone := z, onset := tick }], overflow := false, onset := tick, deepest := k.deepest
                  release := none, duration := 0, spent := false, stopGiven := false, outcome := none } ∧
            (s.pad.electrodes[z].reaches set.deep counts[z] → k.deepest = .deep) ∧
            (¬s.pad.electrodes[z].reaches set.deep counts[z] → k.deepest = .touch) ∧
            u.pad.electrodes[z] = { s.pad.electrodes[z] with level := k.deepest, onset := some tick, void := false } ∧
            u.pad.holdPoint = (if z = 3 then some (tick + 28800#32) else none) ∧
            (z = 4 → k.deepest = .deep → s.pad.stopPoint = none → u.pad.stopPoint = some (tick + 72000#32)) ∧
            (z ≠ 4 ∨ k.deepest = .touch → u.pad.stopPoint = none) ∧
            u.pad.blocking = false ∧ u.pad.last = s.pad.last ∧ u.pad.counts = s.pad.counts) ∧
        ∀ k : Contact, s.pad.contact = some k →
          (∀ y : Zone, y ≠ 0 → y ≠ z → s.pad.electrodes[y].rests set counts[y] ∨
            s.pad.electrodes[y].lasts set tick counts[y] ∨ s.pad.electrodes[y].lifts set tick counts[y]) →
          ∃ k' : Contact, t = u ∧ u.pad.contact = some k' ∧ u.pad.holdPoint = none ∧
            (k.visits.length < 8 →
              k' = { k with visits := k.visits ++ [{ zone := z, onset := tick }], deepest := k'.deepest }) ∧
            (8 ≤ k.visits.length → k' = { k with overflow := true, deepest := k'.deepest }) ∧
            (s.pad.electrodes[z].reaches set.deep counts[z] → k'.deepest = .deep) ∧
            u.pad.blocking = false ∧ u.pad.last = s.pad.last ∧ u.pad.counts = s.pad.counts) ∧
      (∀ (k : Contact) (o : ContactOutcome), s.pad.contact = some k → s.pad.blocking = false →
        s.pad.electrodes[(0 : Zone)].rests set counts[0] →
        (∀ z : Zone, z ≠ 0 → s.pad.electrodes[z].rests set counts[z] ∨
          s.pad.electrodes[z].lifts set tick counts[z]) →
        (k.spent = true ∧ k.outcome = some o) ∨ (k.spent = false ∧ k.Gives tick o) →
        u.pad = { s.pad with
          lastTick := some tick, lastCounts := some counts, watch := some (tick + 1920#32)
          electrodes := u.pad.electrodes, contact := none, holdPoint := none, stopPoint := none
          last := some { k with release := some tick, duration := (tick - k.onset).toNat, outcome := some o }
          counts := u.pad.counts } ∧
        (∀ z : Zone, z ≠ 0 → u.pad.electrodes[z].level = .idle ∧ u.pad.electrodes[z].onset = none ∧
          u.pad.electrodes[z].void = false) ∧
        (k.spent = true ∨ o = .none ∨ o = .tap → t = u ∧ u.pad.counts = s.pad.counts) ∧
        (k.spent = false →
          (o = .go → u.padGo t ∧ u.pad.counts = { s.pad.counts with goTaps := bump s.pad.counts.goTaps }) ∧
          (o = .tempoTap → u.tapped t k.onset ∧
            u.pad.counts = { s.pad.counts with tempoTaps := bump s.pad.counts.tempoTaps }) ∧
          (o = .next → u.pad.counts = { s.pad.counts with swipesNext := bump s.pad.counts.swipesNext }) ∧
          (o = .back → u.pad.counts = { s.pad.counts with swipesBack := bump s.pad.counts.swipesBack }) ∧
          ∀ target : Option CueNumber,
            (o = .next ∧ target =
              (match s.cue.standby, s.cue.lastFired with
               | some n, _ => (s.pendingGo.filter fun m => n.before m).head?
               | none, some n => (s.pendingGo.filter fun m => n.before m).head?
               | none, none => s.pendingGo.head?)) ∨
            (o = .back ∧ target =
              (match s.cue.standby with
               | some n => (s.pendingGo.filter fun m => m.before n).getLast?
               | none => s.pendingGo.getLast?)) →
            (s.cue.isOpen = false ∨ s.stop.state = .stopped ∨ target = none → t = u) ∧
            ∀ n : CueNumber, target = some n → s.cue.isOpen = true → s.stop.state ≠ .stopped → s.cue.held ≠ some n →
              (s.cue.entry? n).isSome = true → (∀ m : CueNumber, s.cue.standby = some m → s.runState m = .standby) →
              t = { u with cue := t.cue, overlay := { s.overlay with standby := s.cue.held.or (some n) } } ∧
              t.cue = { s.cue with runs := t.cue.runs, standby := some n } ∧ t.runState n = .standby ∧
              (∀ m : CueNumber, s.cue.standby = some m → t.runState m = .pending) ∧
              ∀ m : CueNumber, m ≠ n → s.cue.standby ≠ some m → t.runState m = s.runState m)) ∧
      (s.pad.blocking = false → s.pad.electrodes[(0 : Zone)].begins set counts[0] →
        (∀ z : Zone, z ≠ 0 → ¬s.pad.electrodes[z].overstays tick) →
        t = u ∧ u.pad.blocking = true ∧ u.pad.contact = none ∧
        (∀ z : Zone, z ≠ 0 → u.pad.electrodes[z].b16 = s.pad.electrodes[z].b16 ∧
          (u.pad.electrodes[z].level ≠ .idle → u.pad.electrodes[z].void = true)) ∧
        (s.pad.contact = none → u.pad.last = s.pad.last ∧ u.pad.counts = s.pad.counts) ∧
        ∀ k : Contact, s.pad.contact = some k → u.pad.holdPoint = none ∧ u.pad.stopPoint = none ∧
          u.pad.last = some (k.cancelledAt tick) ∧
          u.pad.counts = { s.pad.counts with cancelled := bump s.pad.counts.cancelled }) ∧
      (s.pad.blocking = true → s.pad.electrodes[(0 : Zone)].lifts set tick counts[0] → s.pad.contact = none →
        (∀ z : Zone, z ≠ 0 → s.pad.electrodes[z].rests set counts[z] ∨ s.pad.electrodes[z].lifts set tick counts[z] ∨
          (s.pad.electrodes[z].lasts set tick counts[z] ∧ s.pad.electrodes[z].void = true)) →
        t = u ∧ u.pad.blocking = false ∧ u.pad.contact = none ∧ u.pad.counts = s.pad.counts ∧
        ∀ z : Zone, z ≠ 0 → u.pad.electrodes[z].level ≠ .idle → u.pad.electrodes[z].void = true) ∧
      ∀ (z : Zone) (k : Contact), z ≠ 0 → s.pad.blocking = false → s.pad.electrodes[(0 : Zone)].rests set counts[0] →
        s.pad.electrodes[z].overstays tick → s.pad.electrodes[z].void = false → s.pad.contact = some k →
        (∀ y : Zone, y ≠ 0 → y ≠ z → s.pad.electrodes[y].rests set counts[y] ∨
          s.pad.electrodes[y].lasts set tick counts[y] ∨ s.pad.electrodes[y].lifts set tick counts[y]) →
        t = u ∧ u.pad.electrodes[z] = { b16 := 16 * counts[z], level := .idle, onset := none, void := false } ∧
        (∀ y : Zone, y ≠ 0 → u.pad.electrodes[y].level ≠ .idle → u.pad.electrodes[y].void = true) ∧
        u.pad.contact = none ∧ u.pad.holdPoint = none ∧ u.pad.stopPoint = none ∧
        u.pad.last = some (k.cancelledAt tick) ∧
        u.pad.counts = { s.pad.counts with
          cancelled := bump s.pad.counts.cancelled, stuckReseeds := bump s.pad.counts.stuckReseeds }

/-- R135: PAD RESEED is answered OK in every state. In RUNNING every electrode takes 16 times its last count as B16,
is IDLE with no onset and no void mark, blocking goes off, and a contact in progress is cancelled; in SEEDING and LOST
nothing changes. -/
def Obligations.PadReseedTakesTheLastCounts : Prop :=
  ∀ s : State, s.accepts →
    (s.pad.state ≠ .running → exec .padReseed s = .next (owing (plain .ok) s.taking)) ∧
    ∀ counts : Vector Nat 5, s.pad.state = .running → s.pad.lastCounts = some counts →
      ∃ t : State, exec .padReseed s = .next t ∧ t = owing (plain .ok) { s.taking with pad := t.pad } ∧
        t.pad.state = .running ∧ t.pad.blocking = false ∧ t.pad.contact = none ∧
        (∀ z : Zone, t.pad.electrodes[z] = { b16 := 16 * counts[z], level := .idle, onset := none, void := false }) ∧
        (s.pad.contact = none →
          t.pad = { s.pad with electrodes := t.pad.electrodes, blocking := false, contact := none }) ∧
        ∀ k : Contact, s.pad.contact = some k →
          t.pad = { s.pad with
            electrodes := t.pad.electrodes, blocking := false, contact := none, holdPoint := none, stopPoint := none
            last := some { k with
              release := some s.time.tick, duration := (s.time.tick - k.onset).toNat, outcome := some .cancelled }
            counts := { s.pad.counts with cancelled := bump s.pad.counts.cancelled } }

/-! ## Video and overlay (R136 to R151) -/

/-- R137: a camera's frame with NO SIGNAL starts ACQUIRING; two equal regular frames then give LOCKED at the expected
size and MISMATCH at another; a frame unlike the one before leaves either for ACQUIRING, which starts the failover
time of an active camera (R140); 50 ms without a frame is NO SIGNAL. R144: a frame of the active LOCKED camera fills a
FREE buffer, the lowest-numbered one by the model's choice (log 29), which is COMPLETE when a regular frame has
arrived with the camera still LOCKED, and FREE otherwise; a frame COMPLETE and not yet shown is then dropped, which is
counted with its tick in the rate window. R142: the revert expiry follows camera A's lock. -/
def Obligations.CamerasLockAndFillTheStore : Prop :=
  ∀ (cam : Camera) (s : State), s.resetHeld = false →
    (s.video.active ≠ some cam ∨ (s.video.cam cam).state ≠ .locked → exec (.cameraFrameStart cam) s = .next s) ∧
    (∀ i : Fin 3, s.video.active = some cam → (s.video.cam cam).state = .locked →
      (∀ (j : Fin 3) (k : Camera), s.video.buffers[j] ≠ .filling k) → s.video.buffers[i] = .free →
      (∀ j : Fin 3, j < i → s.video.buffers[j] ≠ .free) →
      ∃ t : State, exec (.cameraFrameStart cam) s = .next t ∧
        t = { s with video := { s.video with buffers := t.video.buffers } } ∧
        ∀ j : Fin 3, t.video.buffers[j] = if j = i then .filling cam else s.video.buffers[j]) ∧
    (∀ (widths : List Nat) (image : Nat) (size : Option Size),
      (∀ n w : Nat, widths = List.replicate (n + 1) w → size = some { width := w, height := n + 1 }) →
      ((∀ n w : Nat, widths ≠ List.replicate (n + 1) w) → size = none) →
      ∃ t : State, exec (.cameraFrameArrival cam widths image) s = .next t ∧ t = { s with video := t.video } ∧
        t.video.mode = s.video.mode ∧ t.video.sel = s.video.sel ∧ t.video.repeats = s.video.repeats ∧
        t.video.cam (otherCamera cam) = s.video.cam (otherCamera cam) ∧
        (t.video.cam cam).previous = size ∧ (t.video.cam cam).watch = some (s.time.tick + 2400#32) ∧
        ((s.video.cam cam).state = .noSignal ∨ size = none ∨ size ≠ (s.video.cam cam).previous →
          (t.video.cam cam).state = .acquiring) ∧
        ((s.video.cam cam).state = .locked → (t.video.cam cam).state = .acquiring → s.video.active = some cam →
          t.video.failover = some (s.time.tick + BitVec.ofNat 32 (48 * s.book.settings.failover))) ∧
        (size ≠ none → size = (s.video.cam cam).previous →
          ((s.video.cam cam).state = .acquiring →
            (size = some s.book.settings.size →
              (t.video.cam cam).state = .locked ∧ (t.video.cam cam).lockTick = some s.time.tick) ∧
            (size ≠ some s.book.settings.size → (t.video.cam cam).state = .mismatch)) ∧
          ((s.video.cam cam).state = .locked ∨ (s.video.cam cam).state = .mismatch →
            (t.video.cam cam).state = (s.video.cam cam).state)) ∧
        s.movesRevert t ∧
        ((s.video.cam cam).state ≠ .locked → (t.video.cam cam).state = .locked → s.video.active = some cam →
          t.video.failover = none) ∧
        (s.video.active ≠ some cam ∨ ((s.video.cam cam).state = .locked ↔ (t.video.cam cam).state = .locked) →
          t.video.failover = s.video.failover) ∧
        ((∀ j : Fin 3, s.video.buffers[j] ≠ .filling cam) → t.video.buffers = s.video.buffers ∧
          t.video.drops = s.video.drops ∧ t.video.window = s.video.window) ∧
        ∀ j : Fin 3, s.video.buffers[j] = .filling cam →
          (∀ z : Size, size = some z → s.video.active = some cam → (t.video.cam cam).state = .locked →
            t.video.buffers[j] = .complete { camera := cam, size := z, image := image } ∧
            (∀ (k : Fin 3) (f : Frame), s.video.buffers[k] = .complete f → t.video.buffers[k] = .free ∧
              t.video.drops = bump s.video.drops ∧ t.video.window = s.video.window ++ [s.time.tick]) ∧
            ((∀ (k : Fin 3) (f : Frame), s.video.buffers[k] ≠ .complete f) →
              t.video.drops = s.video.drops ∧ t.video.window = s.video.window) ∧
            ∀ k : Fin 3, s.video.buffers[k] = .free ∨ (∃ f : Frame, s.video.buffers[k] = .shown f) →
              t.video.buffers[k] = s.video.buffers[k]) ∧
          (size = none ∨ s.video.active ≠ some cam ∨ (t.video.cam cam).state ≠ .locked →
            t.video.buffers[j] = .free ∧ t.video.drops = s.video.drops ∧ t.video.window = s.video.window)) ∧
    ∀ watch : Tick, (s.video.cam cam).watch = some watch →
      (tickReached s.time.tick watch = false → exec (.signalWatchExpiry cam) s = .next s) ∧
      (tickReached s.time.tick watch = true →
        ∃ t : State, exec (.signalWatchExpiry cam) s = .next t ∧ t = { s with video := t.video } ∧
          t.video.sel = s.video.sel ∧ t.video.mode = s.video.mode ∧ t.video.buffers = s.video.buffers ∧
          s.movesRevert t ∧ t.video.repeats = s.video.repeats ∧ t.video.drops = s.video.drops ∧
          t.video.window = s.video.window ∧
          (t.video.failover = if s.video.active = some cam ∧ (s.video.cam cam).state = .locked then
              some (s.time.tick + BitVec.ofNat 32 (48 * s.book.settings.failover))
            else s.video.failover) ∧
          t.video.cam (otherCamera cam) = s.video.cam (otherCamera cam) ∧
          (t.video.cam cam).state = .noSignal ∧ (t.video.cam cam).previous = none ∧
          (t.video.cam cam).watch = none)

/-- R143: VIDEO SELECT names the mode at once (numbered AUTO, A, B: log 8), and the selection waits for the boundary.
R140: the failover expiry sets the due mark, before a boundary that comes at its tick or after. R139 to R143: a
boundary leaves the selection that its failover, hold end, revert, pending VIDEO SELECT and taking back give; where
two are due at once, in the order of log 13. A change of the selection is flagged, clears the failover (by the model's
choice in all cases: log 13), starts the hold time in HOLDING, moves the revert expiry (R142), and frees each buffer
that is not SHOWN (R144); the end of a hold frees every buffer. With no change the expiries run on, but for a failover
that a LOCKED camera abandons. -/
def Obligations.VideoSelectionMovesAtTheBoundary : Prop :=
  (∀ (mode : Nat) (s : State), s.accepts →
    (2 < mode → exec (.videoSelect mode) s = .next (owing (plain .outOfRange) s.taking)) ∧
    (mode ≤ 2 → ∃ t : State, exec (.videoSelect mode) s = .next t ∧
      t = owing (plain .ok) { s.taking with video := { s.video with
        mode := if mode = 0 then .auto else if mode = 1 then .a else .b, revertExp := t.video.revertExp } } ∧
      s.movesRevert t)) ∧
  (∀ (expiry : Tick) (s : State), s.resetHeld = false → s.video.failover = some expiry →
    exec .failoverExpiry s =
      if tickReached s.time.tick expiry then .next { s with video := { s.video with failoverDue := true } }
      else .next s) ∧
  (∀ s : State, s.resetHeld = false → 3 * s.time.micros < s.video.boundaryDue →
    exec .outputFrameBoundary s = .next s) ∧
  ∀ (sel : Selection) (s : State), s.resetHeld = false → s.video.boundaryDue ≤ 3 * s.time.micros → s.Selects sel →
    ∃ t : State, exec .outputFrameBoundary s = .next t ∧
      t = { s with
        video := t.video, overlay := { s.overlay with views := t.overlay.views }
        port := { s.port with flags := if sel = s.video.sel then s.port.flags
          else s.port.flags ||| EventFlag.videoChange.bit } } ∧
      t.video = { s.video with
        sel := sel, boundaryDue := s.video.boundaryDue + framePeriod s.book.settings.rate, failoverDue := false
        failover := t.video.failover, revertExp := t.video.revertExp, buffers := t.video.buffers
        repeats := t.video.repeats, window := t.video.window
        holdExp := if sel = s.video.sel then s.video.holdExp
          else if sel = .holding then some (s.time.tick + 96000#32) else none } ∧
      (sel ≠ s.video.sel ∨ s.failsOver → t.video.failover = none) ∧
      (sel = s.video.sel → ¬s.failsOver → t.video.failover = s.video.failover) ∧
      (sel = s.video.sel → t.video.revertExp = s.video.revertExp) ∧
      (sel ≠ s.video.sel → s.video.sel = .bActive ∨ s.video.revertExp = none → s.movesRevert t) ∧
      (s.holdEnds → ∀ j : Fin 3, t.video.buffers[j] = .free) ∧
      (¬s.holdEnds → sel ≠ s.video.sel → ∀ j : Fin 3,
        (∀ f : Frame, s.video.buffers[j] = .shown f → t.video.buffers[j] = .shown f) ∧
        ((∀ f : Frame, s.video.buffers[j] ≠ .shown f) → t.video.buffers[j] = .free))

/-- R145, R139: once the selection is made, the reader of an active camera shows a COMPLETE frame, and the one SHOWN
before is FREE. With none COMPLETE the SHOWN frame is shown again: a repeat, which is counted, and whose tick joins
the rate window, while the active camera is LOCKED and the frame is its own. In HOLDING and NONE nothing is read or
counted. The window then drops the ticks older than 48,000 before the boundary. The Video Switch is sound
(videoSound). -/
def Obligations.ReaderShowsTheNewestFrame : Prop :=
  ∀ s : State, s.resetHeld = false → s.video.boundaryDue ≤ 3 * s.time.micros →
    s.videoSound →
    ∃ (t : State) (kept : Vector Buffer 3) (counted : Bool), exec .outputFrameBoundary s = .next t ∧
      (t.video.sel = s.video.sel → kept = s.video.buffers) ∧
      (s.holdEnds → ∀ j : Fin 3, kept[j] = .free) ∧
      (¬s.holdEnds → t.video.sel ≠ s.video.sel → ∀ j : Fin 3,
        (∀ f : Frame, s.video.buffers[j] = .shown f → kept[j] = .shown f) ∧
        ((∀ f : Frame, s.video.buffers[j] ≠ .shown f) → kept[j] = .free)) ∧
      (∀ c : Camera, t.video.active = some c →
        ((∃ (j : Fin 3) (f : Frame), kept[j] = .complete f) →
          ∀ j : Fin 3, (∀ f : Frame, kept[j] = .complete f → t.video.buffers[j] = .shown f) ∧
            (∀ f : Frame, kept[j] = .shown f → t.video.buffers[j] = .free) ∧
            (∀ d : Camera, kept[j] = .filling d → t.video.buffers[j] = .filling d) ∧
            (kept[j] = .free → t.video.buffers[j] = .free)) ∧
        ((∀ (j : Fin 3) (f : Frame), kept[j] ≠ .complete f) → t.video.buffers = kept)) ∧
      (t.video.active = none → t.video.buffers = kept) ∧
      (counted = true ↔ ∃ (c : Camera) (k : Fin 3) (f : Frame), t.video.active = some c ∧ s.video.locks c ∧
        (∀ (j : Fin 3) (g : Frame), kept[j] ≠ .complete g) ∧ kept[k] = .shown f ∧ f.camera = c) ∧
      t.video.repeats = (if counted then bump s.video.repeats else s.video.repeats) ∧ t.video.drops = s.video.drops ∧
      t.video.window = (s.video.window ++ if counted then [s.time.tick] else []).filter fun x =>
        decide ((s.time.tick - 48000#32 - x).toInt ≤ 0)

/-- R147 to R151: at a boundary each chair's record is latched with the fields, and its picture shows the first that
applies of the STOP card, NO CONDUCTOR, the COUNT-IN card and the conductor picture: the SHOWN frame of the expected
size or black, with the strip and the lamp over it where the chair's overlay flag is on. The composing mark and the
line cursor follow. R149, R150: a card's pixels are drawn in the chair's view, the strip and lamp rotated with their
rectangles, and the conductor picture is not translated; NO CONDUCTOR is black outside its words. Glyphs and colours
are free (log 12), and so is the ground of a COUNT-IN card, which is all that it shows before its first count. -/
def Obligations.PicturesShowWhatIsLatched : Prop :=
  (∀ s : State, s.resetHeld = false → s.video.boundaryDue ≤ 3 * s.time.micros →
    64 ≤ s.book.settings.width → 64 ≤ s.book.settings.height →
    s.videoSound →
    ∃ t : State, exec .outputFrameBoundary s = .next t ∧ ∀ c : Chair, ∃ p : Picture,
      t.overlay.views[c] = { s.overlay.views[c] with
        orientation := s.book.chairs[c].orientation, placement := s.book.chairs[c].placement
        overlay := s.book.chairs[c].overlay, picture := some p, composing := t.overlay.views[c].composing
        cursor := t.overlay.views[c].cursor, shortFrames := t.overlay.views[c].shortFrames } ∧
      p.width = s.book.settings.width ∧ p.height = s.book.settings.height ∧
      p.orientation = s.book.chairs[c].orientation ∧
      (∀ k : StopCard, s.overlay.stopCard = some k → p.shown = .stopCard k.first k.pos) ∧
      (s.overlay.stopCard = none → t.video.sel = .none → p.shown = .noConductor) ∧
      (s.overlay.stopCard = none → t.video.sel ≠ .none →
        (∀ n : Option Nat, s.overlay.countCard = some n → p.shown = .countIn n) ∧
        (s.overlay.countCard = none → ∃ (image : Option Nat) (strip : Option Strip),
          p.shown = .conductor image strip ∧
          (∀ (j : Fin 3) (f : Frame), t.video.buffers[j] = .shown f → f.size = s.book.settings.size →
            image = some f.image) ∧
          ((∀ (j : Fin 3) (f : Frame), t.video.buffers[j] = .shown f → f.size ≠ s.book.settings.size) → image = none) ∧
          (s.book.chairs[c].overlay = false → strip = none) ∧
          (s.book.chairs[c].overlay = true → ∃ k : Strip, strip = some k ∧ s.drawsStrip c k))) ∧
      (t.overlay.views[c].composing = true ↔
        s.overlay.views[c].composing = true ∨ (s.links[c].state = .locked ∧ s.links[c].monitor = true)) ∧
      (t.overlay.views[c].composing = true → t.overlay.views[c].cursor = 0) ∧
      (t.overlay.views[c].shortFrames = if s.overlay.views[c].composing = true ∧
          (s.overlay.views[c].picture.any fun old => decide (s.overlay.views[c].cursor < old.height)) = true then
        bump s.overlay.views[c].shortFrames else s.overlay.views[c].shortFrames)) ∧
  ∀ (p : Picture) (size view : Size) (line column row across : Nat), size = { width := p.width, height := p.height } →
    view = (if p.orientation = .deg0 ∨ p.orientation = .deg180 then size
      else { width := p.height, height := p.width }) →
    line < p.height → column < p.width →
    putsRect p.orientation size { left := across, top := row, width := 1, height := 1 }
      { left := column, top := line, width := 1, height := 1 } →
    (∀ (first : StopSource) (pos : Option SongPos), p.shown = .stopCard first pos →
      p.pixel line column = Config.stopCardPixel first pos view.width view.height row across) ∧
    (p.shown = .noConductor →
      (Config.noConductorInk view.width view.height row across = none → p.pixel line column = 0#16) ∧
      ∀ ink : BitVec 16, Config.noConductorInk view.width view.height row across = some ink →
        p.pixel line column = ink) ∧
    (p.shown = .countIn none → p.pixel line column = Config.countInGround) ∧
    (∀ n : Nat, p.shown = .countIn (some n) →
      (Config.countInInk n view.width view.height row across = none → p.pixel line column = Config.countInGround) ∧
      ∀ ink : BitVec 16, Config.countInInk n view.width view.height row across = some ink →
        p.pixel line column = ink) ∧
    ∀ (image : Option Nat) (strip : Option Strip) (under : BitVec 16), p.shown = .conductor image strip →
      (image = none → under = 0#16) → (∀ k : Nat, image = some k → under = Config.framePixel k line column) →
      (strip = none → p.pixel line column = under) ∧
      ∀ k : Strip, strip = some k → putsRect p.orientation size k.view k.rect →
        putsRect p.orientation size k.lampView k.lampRect →
        (¬k.view.covers row across → p.pixel line column = under) ∧
        (k.view.covers row across → k.lampView.covers row across →
          p.pixel line column = Config.lampPixel k.lamp (row - k.lampView.top) (across - k.lampView.left) under) ∧
        (k.view.covers row across → ¬k.lampView.covers row across →
          p.pixel line column = Config.stripPixel k.text k.view.width (row - k.view.top) (across - k.view.left) under)

/-! ## Faults (R152 to R163) -/

/-- R159, R160, R163: FAULT SET outside its values is OUT_OF_RANGE, and a class shorter than the source's present one is
WINDOW_LOCKED while ARMED. Taken, it amends one entry of the settings record, whose window keeps its newest samples; a
change to IGNORE clears both flags at once and leaves every other source; a change that involves STOP decides the FAULT
output afresh, and any other leaves the output and the stop as they are. -/
def Obligations.FaultSetAmendsOneSource : Prop :=
  ∀ (source window action : Nat) (s : State), s.accepts → s.busy = false →
    (source < 1 ∨ 70 < source ∨ 3 < window ∨ 2 < action →
      exec (.faultSet source window action) s = .next (owing (plain .outOfRange) s.taking)) ∧
    ∀ (i : Source) (set : FaultSetting), faultSetOf source window action = some (i, set) →
      source = i.val + 1 ∧
      (s.faults.armed = true → set.window.samples < s.book.settings.faults[i].window.samples →
        exec (.faultSet source window action) s = .next (owing (plain .windowLocked) s.taking)) ∧
      (s.faults.armed = false ∨ s.book.settings.faults[i].window.samples ≤ set.window.samples →
        ∃ t : State, exec (.faultSet source window action) s = .next t ∧ t.port.owed = some (plain .ok) ∧
          t.book = { s.book with
            revision := (s.book.revision + 1) % 65536
            settings := { s.book.settings with faults := t.book.settings.faults } } ∧
          (∀ j : Source, t.book.settings.faults[j] = if j = i then set else s.book.settings.faults[j]) ∧
          t.faults = { s.faults with sources := t.faults.sources, raised := t.faults.raised } ∧
          (∀ j : Source, j ≠ i → t.faults.sources[j] = s.faults.sources[j]) ∧
          t.faults.sources[i].window =
            s.faults.sources[i].window.drop (s.faults.sources[i].window.length - set.window.samples) ∧
          (set.action = .ignore → s.book.settings.faults[i].action ≠ .ignore →
            t.faults.sources[i].live = false ∧ t.faults.sources[i].held = false) ∧
          (set.action ≠ .ignore ∨ s.book.settings.faults[i].action = .ignore →
            t.faults.sources[i].live = s.faults.sources[i].live ∧
            t.faults.sources[i].held = s.faults.sources[i].held) ∧
          (s.book.settings.faults[i].action = set.action ∨
              (s.book.settings.faults[i].action ≠ .stop ∧ set.action ≠ .stop) →
            t = { s with book := t.book, faults := t.faults, port := t.port } ∧
            t.faults.raised = s.faults.raised ∧ t.port.flags = s.port.flags) ∧
          (s.book.settings.faults[i].action ≠ set.action →
            s.book.settings.faults[i].action = .stop ∨ set.action = .stop →
            (t.faults.raised = true ↔ s.faults.armed = true ∧
              ∃ j : Source, t.faults.sources[j].live = true ∧ t.book.settings.faults[j].action = .stop)))

/-- R154, R155, R157, R163: at a sample step every source's window takes its raw condition, which R152 gathers; with
the monitor ARMED, a source not on IGNORE goes live at floor(N / 2) + 1 asserted samples, held with it, and is no
longer live at none; the FAULT output is decided after all of them, and a raise stops an open show that is CLEAR
(R166). The error marks are cleared by the reading (R122). R158: the arming expiry arms the monitor. Before its tick
neither does anything. -/
def Obligations.FaultSampleJudgesEverySource : Prop :=
  (∀ s : State, s.resetHeld = false →
    (tickReached s.time.tick s.faults.sampleDue = false → exec .faultSampleStep s = .next s) ∧
    (tickReached s.time.tick s.faults.sampleDue = true →
      ∃ (t : State) (found : Source → Bool), exec .faultSampleStep s = .next t ∧
        (∀ i : Source, found i = true ↔ s.Asserts i) ∧ t.book = s.book ∧ t.patch = s.patch ∧ t.pad = s.pad ∧
        t.video = s.video ∧ t.faults.sampleDue = s.faults.sampleDue + 480#32 ∧ t.faults.armed = s.faults.armed ∧
        t.faults.armExp = s.faults.armExp ∧
        (∀ i : Source,
          (t.faults.sources[i].window = (s.faults.sources[i].window ++ [found i]).drop
            (s.faults.sources[i].window.length + 1 - s.book.settings.faults[i].window.samples)) ∧
          (s.faults.armed = false ∨ s.book.settings.faults[i].action = .ignore →
            t.faults.sources[i].live = s.faults.sources[i].live ∧
            t.faults.sources[i].held = s.faults.sources[i].held) ∧
          (s.faults.armed = true → s.book.settings.faults[i].action ≠ .ignore →
            (t.faults.sources[i].live = true ↔
              if s.faults.sources[i].live then t.faults.sources[i].window.contains true = true
              else s.book.settings.faults[i].window.samples / 2 + 1 ≤ t.faults.sources[i].window.count true) ∧
            (t.faults.sources[i].held = true ↔
              s.faults.sources[i].held = true ∨
                (t.faults.sources[i].live = true ∧ s.faults.sources[i].live = false)))) ∧
        (∀ c : Chair, t.links[c].mark = false ∧ t.links[c].state = s.links[c].state) ∧
        (t.faults.raised = true ↔ s.faults.armed = true ∧
          ∃ i : Source, t.faults.sources[i].live = true ∧ s.book.settings.faults[i].action = .stop) ∧
        (t.faults.raised = s.faults.raised →
          t = { s with faults := t.faults, links := t.links, port := { s.port with flags := t.port.flags } } ∧
          t.port.flags = s.port.flags |||
            (if ∃ i : Source, t.faults.sources[i].live = true ∧ s.faults.sources[i].live = false then
              EventFlag.faultLive.bit else 0#10) |||
            (if ∃ i : Source, t.faults.sources[i].held = true ∧ s.faults.sources[i].held = false then
              EventFlag.faultHeld.bit else 0#10)) ∧
        (s.faults.raised = true → t.faults.raised = false →
          t.stop = { s.stop with held := { s.stop.held with fault := false } }) ∧
        (s.faults.raised = false → t.faults.raised = true → s.cue.isOpen = true → s.stop.state = .clear →
          t.stop.state = .stopped ∧ t.stop.held = { s.stop.held with fault := true } ∧
          t.stop.count = bump s.stop.count))) ∧
  ∀ (expiry : Tick) (s : State), s.resetHeld = false → s.faults.armExp = some expiry →
    exec .armingExpiry s =
      if tickReached s.time.tick expiry then
        .next { s with faults := { s.faults with armed := true, armExp := none } }
      else .next s

/-- R162: FAULT READ of one source answers its class, action, sample count, asserted samples and flags, of source 0
the arming state, the FAULT output and each source's asserted samples and flags in number order, and above 70
OUT_OF_RANGE; it changes nothing. R161: FAULT CLEAR clears the held flag of every source whose live flag is clear,
keeps the others, and answers how many it cleared, in every state of the show, the stop, the arming and the Image
Loader. -/
def Obligations.FaultReadAndClear : Prop :=
  ∀ s : State, s.accepts →
    (∀ source : Nat, 70 < source → exec (.faultRead source) s = .next (owing (plain .outOfRange) s.taking)) ∧
    (∀ i : Source, ∃ r : FaultReport,
      exec (.faultRead (i.val + 1)) s = .next (owing { status := .ok, data := .fault r } s.taking) ∧
      r.setting = s.book.settings.faults[i] ∧ r.samples = s.faults.sources[i].window.length ∧
      r.asserted = s.faults.sources[i].window.count true ∧ r.live = s.faults.sources[i].live ∧
      r.held = s.faults.sources[i].held) ∧
    (∃ lines : List FaultLine,
      exec (.faultRead 0) s =
        .next (owing { status := .ok, data := .faults s.faults.armed s.faults.raised lines } s.taking) ∧
      lines.length = 70 ∧
      ∀ i : Source, ∃ l : FaultLine, lines[i.val]? = some l ∧
        l.asserted = s.faults.sources[i].window.count true ∧ l.live = s.faults.sources[i].live ∧
        l.held = s.faults.sources[i].held) ∧
    ∃ (t : State) (cleared : Nat), exec .faultClear s = .next t ∧
      t = owing { status := .ok, data := .cleared cleared }
        { s.taking with faults := { s.faults with sources := t.faults.sources } } ∧
      (∀ i : Source, t.faults.sources[i] = { s.faults.sources[i] with
        held := s.faults.sources[i].held && s.faults.sources[i].live }) ∧
      cleared = ((List.finRange 70).filter fun i : Source =>
        s.faults.sources[i].held && !s.faults.sources[i].live).length

/-! ## Invariants -/

/-- R155: for every fault source, whenever its live flag is set, its held flag is set; with R158, that a closed show
has a DISARMED monitor and no live source, every step keeps it. R51, R176: so it keeps that the clock of a closed show
is PARKED and its stop state CLEAR. R140 to R145: so it keeps the frame store to one SHOWN, one COMPLETE and one FILLING
buffer at most, and each video expiry to the states in which it runs. -/
def Obligations.EveryStepKeepsFaultsVideoAndTheClosedShow : Prop :=
  ∀ s t : State, step s = .next t →
    (s.faultsSound → t.faultsSound) ∧ (s.closedQuiet → t.closedQuiet) ∧ (s.videoSound → t.videoSound)

/-- R1, R5, R7, R12 to R14: every step keeps a book sound: its keys stand once, its cues are valid records whose names
are in the book, its cue counts and patch references count the cues that name the record, and its tables are within
their capacities. -/
def Obligations.EveryStepKeepsTheBookSound : Prop :=
  ∀ s t : State, s.book.Sound → step s = .next t → t.book.Sound

/-- R25: of an open show, a cue is FIRING exactly while a slot holds its request, and the standby is the one cue in
STANDBY; R20, R36, R48: no PENDING or standby cue is of a CUT song, the standby is a GO cue and the held follow cue is
PENDING. With a sound book every step keeps this, and with it that each cue of the open show, and no other, has a run
entry. -/
def Obligations.EveryStepKeepsTheRunStatesSound : Prop :=
  ∀ s t : State, s.book.Sound → s.runsSound → step s = .next t → t.runsSound

/-- The state after reset meets every invariant, with the show closed, an empty book and every source's flags clear
(R11, R153, R164, R189). -/
def Obligations.ResetMeetsTheInvariants : Prop :=
  State.reset.faultsSound ∧ State.reset.closedQuiet ∧ State.reset.book.Sound ∧ State.reset.runsSound ∧
    State.reset.videoSound ∧ State.reset.cue.isOpen = false ∧ State.reset.book.cues = [] ∧
    ∀ i : Source, State.reset.faults.sources[i].held = false
end

