-- ==== Sys2Proof/Laws/State.lean ====
section
/-! SUPPORT. What the shared record updates leave as it was: one lemma for each field of the state, so that no later proof
unfolds an update; and the part of the state that only other blocks write. -/

namespace Sys2Proof.Laws

open Sys2Proof.Machine

variable (s : State) (a : Answer) (g : EventFlag) (c : Chair) (n : CueNumber) (m : Option CueNumber)
  (k : ClickChair → ClickChair) (l : Link → Link) (d : Dispatch → Dispatch) (r : RunEntry → RunEntry)

/-! ## A request is taken -/

@[simp] theorem taking_pending : s.taking.pending = s.pending := rfl
@[simp] theorem taking_resetHeld : s.taking.resetHeld = s.resetHeld := rfl
@[simp] theorem taking_time : s.taking.time = s.time := rfl
@[simp] theorem taking_book : s.taking.book = s.book := rfl
@[simp] theorem taking_cue : s.taking.cue = s.cue := rfl
@[simp] theorem taking_clock : s.taking.clock = s.clock := rfl
@[simp] theorem taking_clicks : s.taking.clicks = s.clicks := rfl
@[simp] theorem taking_due : s.taking.due = s.due := rfl
@[simp] theorem taking_patch : s.taking.patch = s.patch := rfl
@[simp] theorem taking_links : s.taking.links = s.links := rfl
@[simp] theorem taking_leakDue : s.taking.leakDue = s.leakDue := rfl
@[simp] theorem taking_pad : s.taking.pad = s.pad := rfl
@[simp] theorem taking_video : s.taking.video = s.video := rfl
@[simp] theorem taking_overlay : s.taking.overlay = s.overlay := rfl
@[simp] theorem taking_faults : s.taking.faults = s.faults := rfl
@[simp] theorem taking_stop : s.taking.stop = s.stop := rfl
@[simp] theorem taking_loader : s.taking.loader = s.loader := rfl
@[simp] theorem taking_state : s.taking.port.state = .working := rfl
@[simp] theorem taking_buffer : s.taking.port.buffer = none := rfl
@[simp] theorem taking_port_owed : s.taking.port.owed = s.port.owed := rfl
@[simp] theorem taking_port_overrun : s.taking.port.overrun = s.port.overrun := rfl
@[simp] theorem taking_port_flags : s.taking.port.flags = s.port.flags := rfl
@[simp] theorem taking_port_mask : s.taking.port.mask = s.port.mask := rfl
@[simp] theorem taking_port_miso : s.taking.port.miso = s.port.miso := rfl

/-! ## An answer is owed -/

@[simp] theorem owing_pending : (owing a s).pending = s.pending := rfl
@[simp] theorem owing_resetHeld : (owing a s).resetHeld = s.resetHeld := rfl
@[simp] theorem owing_time : (owing a s).time = s.time := rfl
@[simp] theorem owing_book : (owing a s).book = s.book := rfl
@[simp] theorem owing_cue : (owing a s).cue = s.cue := rfl
@[simp] theorem owing_clock : (owing a s).clock = s.clock := rfl
@[simp] theorem owing_clicks : (owing a s).clicks = s.clicks := rfl
@[simp] theorem owing_due : (owing a s).due = s.due := rfl
@[simp] theorem owing_patch : (owing a s).patch = s.patch := rfl
@[simp] theorem owing_links : (owing a s).links = s.links := rfl
@[simp] theorem owing_leakDue : (owing a s).leakDue = s.leakDue := rfl
@[simp] theorem owing_pad : (owing a s).pad = s.pad := rfl
@[simp] theorem owing_video : (owing a s).video = s.video := rfl
@[simp] theorem owing_overlay : (owing a s).overlay = s.overlay := rfl
@[simp] theorem owing_faults : (owing a s).faults = s.faults := rfl
@[simp] theorem owing_stop : (owing a s).stop = s.stop := rfl
@[simp] theorem owing_loader : (owing a s).loader = s.loader := rfl
@[simp] theorem owing_owed : (owing a s).port.owed = some a := rfl
@[simp] theorem owing_port_state : (owing a s).port.state = s.port.state := rfl
@[simp] theorem owing_port_buffer : (owing a s).port.buffer = s.port.buffer := rfl
@[simp] theorem owing_port_overrun : (owing a s).port.overrun = s.port.overrun := rfl
@[simp] theorem owing_port_flags : (owing a s).port.flags = s.port.flags := rfl
@[simp] theorem owing_port_mask : (owing a s).port.mask = s.port.mask := rfl
@[simp] theorem owing_port_miso : (owing a s).port.miso = s.port.miso := rfl

/-! ## An event flag is set -/

@[simp] theorem flag_pending : (flag g s).pending = s.pending := rfl
@[simp] theorem flag_resetHeld : (flag g s).resetHeld = s.resetHeld := rfl
@[simp] theorem flag_time : (flag g s).time = s.time := rfl
@[simp] theorem flag_book : (flag g s).book = s.book := rfl
@[simp] theorem flag_cue : (flag g s).cue = s.cue := rfl
@[simp] theorem flag_clock : (flag g s).clock = s.clock := rfl
@[simp] theorem flag_clicks : (flag g s).clicks = s.clicks := rfl
@[simp] theorem flag_due : (flag g s).due = s.due := rfl
@[simp] theorem flag_patch : (flag g s).patch = s.patch := rfl
@[simp] theorem flag_links : (flag g s).links = s.links := rfl
@[simp] theorem flag_leakDue : (flag g s).leakDue = s.leakDue := rfl
@[simp] theorem flag_pad : (flag g s).pad = s.pad := rfl
@[simp] theorem flag_video : (flag g s).video = s.video := rfl
@[simp] theorem flag_overlay : (flag g s).overlay = s.overlay := rfl
@[simp] theorem flag_faults : (flag g s).faults = s.faults := rfl
@[simp] theorem flag_stop : (flag g s).stop = s.stop := rfl
@[simp] theorem flag_loader : (flag g s).loader = s.loader := rfl
@[simp] theorem flag_flags : (flag g s).port.flags = s.port.flags ||| g.bit := rfl
@[simp] theorem flag_port_state : (flag g s).port.state = s.port.state := rfl
@[simp] theorem flag_port_owed : (flag g s).port.owed = s.port.owed := rfl
@[simp] theorem flag_port_buffer : (flag g s).port.buffer = s.port.buffer := rfl
@[simp] theorem flag_port_overrun : (flag g s).port.overrun = s.port.overrun := rfl
@[simp] theorem flag_port_mask : (flag g s).port.mask = s.port.mask := rfl
@[simp] theorem flag_port_miso : (flag g s).port.miso = s.port.miso := rfl

/-! ## One chair's click state -/

@[simp] theorem onClicks_pending : (onClicks c k s).pending = s.pending := rfl
@[simp] theorem onClicks_resetHeld : (onClicks c k s).resetHeld = s.resetHeld := rfl
@[simp] theorem onClicks_time : (onClicks c k s).time = s.time := rfl
@[simp] theorem onClicks_book : (onClicks c k s).book = s.book := rfl
@[simp] theorem onClicks_cue : (onClicks c k s).cue = s.cue := rfl
@[simp] theorem onClicks_clock : (onClicks c k s).clock = s.clock := rfl
@[simp] theorem onClicks_due : (onClicks c k s).due = s.due := rfl
@[simp] theorem onClicks_patch : (onClicks c k s).patch = s.patch := rfl
@[simp] theorem onClicks_links : (onClicks c k s).links = s.links := rfl
@[simp] theorem onClicks_leakDue : (onClicks c k s).leakDue = s.leakDue := rfl
@[simp] theorem onClicks_pad : (onClicks c k s).pad = s.pad := rfl
@[simp] theorem onClicks_video : (onClicks c k s).video = s.video := rfl
@[simp] theorem onClicks_overlay : (onClicks c k s).overlay = s.overlay := rfl
@[simp] theorem onClicks_faults : (onClicks c k s).faults = s.faults := rfl
@[simp] theorem onClicks_stop : (onClicks c k s).stop = s.stop := rfl
@[simp] theorem onClicks_loader : (onClicks c k s).loader = s.loader := rfl
@[simp] theorem onClicks_port : (onClicks c k s).port = s.port := rfl
@[simp] theorem onClicks_clicks : (onClicks c k s).clicks = modifyAt s.clicks c k := rfl

/-! ## One chair's link -/

@[simp] theorem onLink_pending : (onLink c l s).pending = s.pending := rfl
@[simp] theorem onLink_resetHeld : (onLink c l s).resetHeld = s.resetHeld := rfl
@[simp] theorem onLink_time : (onLink c l s).time = s.time := rfl
@[simp] theorem onLink_book : (onLink c l s).book = s.book := rfl
@[simp] theorem onLink_cue : (onLink c l s).cue = s.cue := rfl
@[simp] theorem onLink_clock : (onLink c l s).clock = s.clock := rfl
@[simp] theorem onLink_clicks : (onLink c l s).clicks = s.clicks := rfl
@[simp] theorem onLink_due : (onLink c l s).due = s.due := rfl
@[simp] theorem onLink_patch : (onLink c l s).patch = s.patch := rfl
@[simp] theorem onLink_leakDue : (onLink c l s).leakDue = s.leakDue := rfl
@[simp] theorem onLink_pad : (onLink c l s).pad = s.pad := rfl
@[simp] theorem onLink_video : (onLink c l s).video = s.video := rfl
@[simp] theorem onLink_overlay : (onLink c l s).overlay = s.overlay := rfl
@[simp] theorem onLink_faults : (onLink c l s).faults = s.faults := rfl
@[simp] theorem onLink_stop : (onLink c l s).stop = s.stop := rfl
@[simp] theorem onLink_loader : (onLink c l s).loader = s.loader := rfl
@[simp] theorem onLink_port : (onLink c l s).port = s.port := rfl
@[simp] theorem onLink_links : (onLink c l s).links = modifyAt s.links c l := rfl

/-! ## One chair's dispatch state -/

@[simp] theorem onDispatch_pending : (onDispatch c d s).pending = s.pending := rfl
@[simp] theorem onDispatch_resetHeld : (onDispatch c d s).resetHeld = s.resetHeld := rfl
@[simp] theorem onDispatch_time : (onDispatch c d s).time = s.time := rfl
@[simp] theorem onDispatch_book : (onDispatch c d s).book = s.book := rfl
@[simp] theorem onDispatch_cue : (onDispatch c d s).cue = s.cue := rfl
@[simp] theorem onDispatch_clock : (onDispatch c d s).clock = s.clock := rfl
@[simp] theorem onDispatch_clicks : (onDispatch c d s).clicks = s.clicks := rfl
@[simp] theorem onDispatch_due : (onDispatch c d s).due = s.due := rfl
@[simp] theorem onDispatch_links : (onDispatch c d s).links = s.links := rfl
@[simp] theorem onDispatch_leakDue : (onDispatch c d s).leakDue = s.leakDue := rfl
@[simp] theorem onDispatch_pad : (onDispatch c d s).pad = s.pad := rfl
@[simp] theorem onDispatch_video : (onDispatch c d s).video = s.video := rfl
@[simp] theorem onDispatch_overlay : (onDispatch c d s).overlay = s.overlay := rfl
@[simp] theorem onDispatch_faults : (onDispatch c d s).faults = s.faults := rfl
@[simp] theorem onDispatch_stop : (onDispatch c d s).stop = s.stop := rfl
@[simp] theorem onDispatch_loader : (onDispatch c d s).loader = s.loader := rfl
@[simp] theorem onDispatch_port : (onDispatch c d s).port = s.port := rfl
@[simp] theorem onDispatch_patch : (onDispatch c d s).patch = modifyAt s.patch c d := rfl

/-! ## The overlay's standby -/

@[simp] theorem handStandby_pending : (handStandby s).pending = s.pending := rfl
@[simp] theorem handStandby_resetHeld : (handStandby s).resetHeld = s.resetHeld := rfl
@[simp] theorem handStandby_time : (handStandby s).time = s.time := rfl
@[simp] theorem handStandby_book : (handStandby s).book = s.book := rfl
@[simp] theorem handStandby_cue : (handStandby s).cue = s.cue := rfl
@[simp] theorem handStandby_clock : (handStandby s).clock = s.clock := rfl
@[simp] theorem handStandby_clicks : (handStandby s).clicks = s.clicks := rfl
@[simp] theorem handStandby_due : (handStandby s).due = s.due := rfl
@[simp] theorem handStandby_patch : (handStandby s).patch = s.patch := rfl
@[simp] theorem handStandby_links : (handStandby s).links = s.links := rfl
@[simp] theorem handStandby_leakDue : (handStandby s).leakDue = s.leakDue := rfl
@[simp] theorem handStandby_pad : (handStandby s).pad = s.pad := rfl
@[simp] theorem handStandby_video : (handStandby s).video = s.video := rfl
@[simp] theorem handStandby_faults : (handStandby s).faults = s.faults := rfl
@[simp] theorem handStandby_stop : (handStandby s).stop = s.stop := rfl
@[simp] theorem handStandby_loader : (handStandby s).loader = s.loader := rfl
@[simp] theorem handStandby_port : (handStandby s).port = s.port := rfl

/-! ## The held follow cue -/

@[simp] theorem setHeld_pending : (setHeld m s).pending = s.pending := rfl
@[simp] theorem setHeld_resetHeld : (setHeld m s).resetHeld = s.resetHeld := rfl
@[simp] theorem setHeld_time : (setHeld m s).time = s.time := rfl
@[simp] theorem setHeld_book : (setHeld m s).book = s.book := rfl
@[simp] theorem setHeld_clock : (setHeld m s).clock = s.clock := rfl
@[simp] theorem setHeld_clicks : (setHeld m s).clicks = s.clicks := rfl
@[simp] theorem setHeld_due : (setHeld m s).due = s.due := rfl
@[simp] theorem setHeld_patch : (setHeld m s).patch = s.patch := rfl
@[simp] theorem setHeld_links : (setHeld m s).links = s.links := rfl
@[simp] theorem setHeld_leakDue : (setHeld m s).leakDue = s.leakDue := rfl
@[simp] theorem setHeld_pad : (setHeld m s).pad = s.pad := rfl
@[simp] theorem setHeld_video : (setHeld m s).video = s.video := rfl
@[simp] theorem setHeld_faults : (setHeld m s).faults = s.faults := rfl
@[simp] theorem setHeld_stop : (setHeld m s).stop = s.stop := rfl
@[simp] theorem setHeld_loader : (setHeld m s).loader = s.loader := rfl
@[simp] theorem setHeld_port : (setHeld m s).port = s.port := rfl
@[simp] theorem setHeld_isOpen : (setHeld m s).cue.isOpen = s.cue.isOpen := rfl
@[simp] theorem setHeld_runs : (setHeld m s).cue.runs = s.cue.runs := rfl
@[simp] theorem setHeld_standby : (setHeld m s).cue.standby = s.cue.standby := rfl
@[simp] theorem setHeld_timers : (setHeld m s).cue.timers = s.cue.timers := rfl
@[simp] theorem setHeld_triggers : (setHeld m s).cue.triggers = s.cue.triggers := rfl
@[simp] theorem setHeld_guard : (setHeld m s).cue.guard = s.cue.guard := rfl
@[simp] theorem setHeld_lastFired : (setHeld m s).cue.lastFired = s.cue.lastFired := rfl
@[simp] theorem setHeld_completion : (setHeld m s).cue.completion = s.cue.completion := rfl
@[simp] theorem setHeld_holdCandidate : (setHeld m s).cue.holdCandidate = s.cue.holdCandidate := rfl
@[simp] theorem setHeld_held : (setHeld m s).cue.held = m := rfl

/-! ## One cue's run entry -/

@[simp] theorem mapRun_pending : (mapRun n r s).pending = s.pending := rfl
@[simp] theorem mapRun_resetHeld : (mapRun n r s).resetHeld = s.resetHeld := rfl
@[simp] theorem mapRun_time : (mapRun n r s).time = s.time := rfl
@[simp] theorem mapRun_book : (mapRun n r s).book = s.book := rfl
@[simp] theorem mapRun_clock : (mapRun n r s).clock = s.clock := rfl
@[simp] theorem mapRun_clicks : (mapRun n r s).clicks = s.clicks := rfl
@[simp] theorem mapRun_due : (mapRun n r s).due = s.due := rfl
@[simp] theorem mapRun_patch : (mapRun n r s).patch = s.patch := rfl
@[simp] theorem mapRun_links : (mapRun n r s).links = s.links := rfl
@[simp] theorem mapRun_leakDue : (mapRun n r s).leakDue = s.leakDue := rfl
@[simp] theorem mapRun_pad : (mapRun n r s).pad = s.pad := rfl
@[simp] theorem mapRun_video : (mapRun n r s).video = s.video := rfl
@[simp] theorem mapRun_overlay : (mapRun n r s).overlay = s.overlay := rfl
@[simp] theorem mapRun_faults : (mapRun n r s).faults = s.faults := rfl
@[simp] theorem mapRun_stop : (mapRun n r s).stop = s.stop := rfl
@[simp] theorem mapRun_loader : (mapRun n r s).loader = s.loader := rfl
@[simp] theorem mapRun_port : (mapRun n r s).port = s.port := rfl
@[simp] theorem mapRun_isOpen : (mapRun n r s).cue.isOpen = s.cue.isOpen := rfl
@[simp] theorem mapRun_timers : (mapRun n r s).cue.timers = s.cue.timers := rfl
@[simp] theorem mapRun_standby : (mapRun n r s).cue.standby = s.cue.standby := rfl
@[simp] theorem mapRun_held : (mapRun n r s).cue.held = s.cue.held := rfl
@[simp] theorem mapRun_triggers : (mapRun n r s).cue.triggers = s.cue.triggers := rfl
@[simp] theorem mapRun_guard : (mapRun n r s).cue.guard = s.cue.guard := rfl
@[simp] theorem mapRun_lastFired : (mapRun n r s).cue.lastFired = s.cue.lastFired := rfl
@[simp] theorem mapRun_completion : (mapRun n r s).cue.completion = s.cue.completion := rfl
@[simp] theorem mapRun_holdCandidate : (mapRun n r s).cue.holdCandidate = s.cue.holdCandidate := rfl

/-! ## A follow timer is cancelled -/

@[simp] theorem cancelTimer_pending : (cancelTimer n s).pending = s.pending := rfl
@[simp] theorem cancelTimer_resetHeld : (cancelTimer n s).resetHeld = s.resetHeld := rfl
@[simp] theorem cancelTimer_time : (cancelTimer n s).time = s.time := rfl
@[simp] theorem cancelTimer_book : (cancelTimer n s).book = s.book := rfl
@[simp] theorem cancelTimer_clock : (cancelTimer n s).clock = s.clock := rfl
@[simp] theorem cancelTimer_clicks : (cancelTimer n s).clicks = s.clicks := rfl
@[simp] theorem cancelTimer_due : (cancelTimer n s).due = s.due := rfl
@[simp] theorem cancelTimer_patch : (cancelTimer n s).patch = s.patch := rfl
@[simp] theorem cancelTimer_links : (cancelTimer n s).links = s.links := rfl
@[simp] theorem cancelTimer_leakDue : (cancelTimer n s).leakDue = s.leakDue := rfl
@[simp] theorem cancelTimer_pad : (cancelTimer n s).pad = s.pad := rfl
@[simp] theorem cancelTimer_video : (cancelTimer n s).video = s.video := rfl
@[simp] theorem cancelTimer_overlay : (cancelTimer n s).overlay = s.overlay := rfl
@[simp] theorem cancelTimer_faults : (cancelTimer n s).faults = s.faults := rfl
@[simp] theorem cancelTimer_stop : (cancelTimer n s).stop = s.stop := rfl
@[simp] theorem cancelTimer_loader : (cancelTimer n s).loader = s.loader := rfl
@[simp] theorem cancelTimer_port : (cancelTimer n s).port = s.port := rfl
@[simp] theorem cancelTimer_isOpen : (cancelTimer n s).cue.isOpen = s.cue.isOpen := rfl
@[simp] theorem cancelTimer_runs : (cancelTimer n s).cue.runs = s.cue.runs := rfl
@[simp] theorem cancelTimer_standby : (cancelTimer n s).cue.standby = s.cue.standby := rfl
@[simp] theorem cancelTimer_held : (cancelTimer n s).cue.held = s.cue.held := rfl
@[simp] theorem cancelTimer_triggers : (cancelTimer n s).cue.triggers = s.cue.triggers := rfl
@[simp] theorem cancelTimer_guard : (cancelTimer n s).cue.guard = s.cue.guard := rfl
@[simp] theorem cancelTimer_lastFired : (cancelTimer n s).cue.lastFired = s.cue.lastFired := rfl
@[simp] theorem cancelTimer_completion : (cancelTimer n s).cue.completion = s.cue.completion := rfl
@[simp] theorem cancelTimer_holdCandidate : (cancelTimer n s).cue.holdCandidate = s.cue.holdCandidate := rfl

end Sys2Proof.Laws
end

