-- ==== Sys2Proof/Laws/Frames.lean ====
section
/-! SUPPORT. Frames of the shared operations: what the cues, the clock, the clicks, the rigs and the links never write. One
lemma for each operation says that it leaves the part of the state outside them as it was. -/

namespace Sys2Proof.Laws

open Sys2Proof.Machine

/-- The part of the state that no operation of the cues, the clock, the clicks, the rigs and the links writes: the queue, the
time, the book, the pad, the video, the faults, the stop, the loader, and whether the show is open. -/
def outside (s : State) : State :=
  { s with
    cue := { CueEngine.initial with isOpen := s.cue.isOpen }, clock := Clock.initial,
    clicks := Vector.replicate 16 ClickChair.initial, due := [], patch := Vector.replicate 16 Dispatch.initial,
    links := Vector.replicate 16 Link.initial, overlay := Overlay.initial, port := Port.initial }

section fields
variable {s t : State} (h : outside t = outside s)
include h
theorem outside_pending : t.pending = s.pending := (congrArg State.pending h :)
theorem outside_resetHeld : t.resetHeld = s.resetHeld := (congrArg State.resetHeld h :)
theorem outside_time : t.time = s.time := (congrArg State.time h :)
theorem outside_book : t.book = s.book := (congrArg State.book h :)
theorem outside_isOpen : t.cue.isOpen = s.cue.isOpen := (congrArg (fun x => x.cue.isOpen) h :)
theorem outside_leakDue : t.leakDue = s.leakDue := (congrArg State.leakDue h :)
theorem outside_pad : t.pad = s.pad := (congrArg State.pad h :)
theorem outside_video : t.video = s.video := (congrArg State.video h :)
theorem outside_faults : t.faults = s.faults := (congrArg State.faults h :)
theorem outside_stop : t.stop = s.stop := (congrArg State.stop h :)
theorem outside_loader : t.loader = s.loader := (congrArg State.loader h :)
end fields

/-- A frame holds of a walk along a list if it holds of each of its steps. -/
theorem outside_foldl {α : Type} (f : State → α → State) (h : ∀ s x, outside (f s x) = outside s) (l : List α)
    (s : State) : outside (l.foldl f s) = outside s := by
  induction l generalizing s with
  | nil => rfl
  | cons x xs ih => exact (ih (f s x)).trans (h s x)

variable (s : State)

theorem outside_clock (k : Clock) : outside { s with clock := k } = outside s := rfl

/-! ## Run states and the standby -/

theorem setRun_outside (n : CueNumber) (st : RunState) : outside (setRun n st s) = outside s := by
  unfold setRun; dsimp only; split <;> rfl

theorem passCue_outside (n : CueNumber) : outside (passCue n s) = outside s := setRun_outside s n .passed

theorem placeStandby_outside (n : Option CueNumber) : outside (placeStandby n s) = outside s := by
  cases n with
  | none => rfl
  | some m => exact setRun_outside { s with cue := { s.cue with standby := some m } } m .standby

theorem releaseStandby_outside : outside (releaseStandby s) = outside s := by
  unfold releaseStandby
  split
  · split
    · exact setRun_outside ..
    · rfl
  · rfl

theorem moveStandby_outside (n : CueNumber) : outside (moveStandby n s) = outside s :=
  (placeStandby_outside ..).trans (releaseStandby_outside s)

theorem standbyAfterFire_outside (n : CueNumber) : outside (standbyAfterFire n s) = outside s :=
  (placeStandby_outside ..).trans (outside_foldl _ (fun s m => passCue_outside s m) _ s)

theorem standbyNext_outside : outside (standbyNext s) = outside s := by
  unfold standbyNext
  split <;> split <;> first | rfl | exact moveStandby_outside ..

theorem standbyBack_outside : outside (standbyBack s) = outside s := by
  unfold standbyBack
  split <;> split <;> first | rfl | exact moveStandby_outside ..

theorem passBarCues_outside (song : Nat) : outside (passBarCues song s) = outside s :=
  outside_foldl _ (fun s m => passCue_outside s m) _ s

theorem returnPending_outside (c : Cue) : outside (returnPending c s) = outside s := by
  unfold returnPending
  extract_lets s1
  have h : outside s1 = outside s := setRun_outside s c.number .pending
  split_ifs
  · exact (moveStandby_outside ..).trans h
  · exact h
  · exact h

theorem completeCue_outside (n : CueNumber) : outside (completeCue n s) = outside s := by
  unfold completeCue
  split
  · dsimp only
    split
    · exact setRun_outside ..
    · exact setRun_outside ..
    · exact setRun_outside ..
    · exact returnPending_outside ..
  · rfl

theorem cueResolved_outside (n : CueNumber) (o : ReqOutcome) : outside (cueResolved n o s) = outside s := by
  unfold cueResolved
  extract_lets s1
  split_ifs
  · rfl
  · exact completeCue_outside s1 n
  · rfl

/-! ## Clicks -/

theorem addSample_outside (c : Chair) (x : Nat) : outside (addSample c x s) = outside s := rfl

theorem settleClicks_outside : outside (settleClicks s) = outside s := rfl

theorem finishPart_outside (c : Chair) (which : DueItem → Bool) : outside (finishPart c which s) = outside s := rfl

theorem queueClick_outside (c : Chair) (k : Click) : outside (queueClick c k s) = outside s := rfl

theorem handOffClick_outside (k : Click) : outside (handOffClick k s) = outside s := by
  unfold handOffClick
  dsimp only
  have h : ∀ (p : Vector Part 16),
      outside (allChairs.foldl (fun s c => if p[c].state = .handed then queueClick c k s else s) s) = outside s :=
    fun p => outside_foldl _ (fun s c => by split <;> rfl) _ s
  split
  · exact h _
  · exact h _

theorem sendClick_outside (c : Chair) : outside (sendClick c s) = outside s := by
  unfold sendClick
  split
  · rfl
  · split <;> rfl

theorem withdrawItems_outside (gone : Click → Bool) : outside (withdrawItems gone s) = outside s := rfl

theorem cancelClicks_outside : outside (cancelClicks s) = outside s := rfl

/-! ## Patches -/

theorem resolve_outside (c : Chair) (r : PatchReq) (o : ReqOutcome) : outside (resolve c r o s) = outside s := by
  unfold resolve
  dsimp only
  split
  · exact cueResolved_outside ..
  · rfl

theorem send_outside (c : Chair) (r : PatchReq) : outside (send c r s) = outside s := by
  unfold send
  split
  · exact resolve_outside ..
  · rfl

theorem promote_outside (c : Chair) : outside (promote c s) = outside s := by
  unfold promote
  split
  · split
    · exact send_outside (onDispatch c (fun d => { d with waiting := none }) s) c _
    · rfl
  · rfl

theorem land_outside (c : Chair) (r : PatchReq) (o : ReqOutcome) (k : Confirmed) :
    outside (land c r o k s) = outside s :=
  (promote_outside ..).trans (resolve_outside ..)

theorem enqueue_outside (c : Chair) (r : PatchReq) (l : List Entry) : outside (enqueue c r l s) = outside s := by
  unfold enqueue
  dsimp only
  split
  · exact resolve_outside ..
  · rfl

theorem takeRequest_outside (c : Chair) (r : PatchReq) (l : List Entry) :
    outside (takeRequest c r l s) = outside s := by
  unfold takeRequest
  dsimp only
  split
  · split
    · rfl
    · split
      · exact send_outside ..
      · exact enqueue_outside ..
  · exact enqueue_outside ..

theorem acknowledge_outside (c : Chair) (okay : Bool) : outside (acknowledge c okay s) = outside s := by
  unfold acknowledge
  split
  · rfl
  · split <;> exact land_outside ..

theorem patchTimeout_outside (c : Chair) : outside (patchTimeout c s) = outside s := by
  unfold patchTimeout
  split
  · rfl
  · split
    · exact land_outside ..
    · rfl

theorem linkLost_outside (c : Chair) : outside (linkLost c s) = outside s := by
  unfold linkLost
  split
  · rfl
  · exact land_outside ..

theorem relockRestore_outside (c : Chair) : outside (relockRestore c s) = outside s := by
  unfold relockRestore
  split
  · exact promote_outside ..
  · split
    · split
      · exact takeRequest_outside ..
      · rfl
    · rfl

/-! ## The clock -/

theorem setClockState_outside (st : ClockState) : outside (setClockState st s) = outside s := by
  unfold setClockState
  dsimp only
  split
  · rfl
  · split <;> split <;> rfl

theorem abandonBeats_outside : outside (abandonBeats s) = outside s := rfl

theorem leaveSong_outside : outside (leaveSong s) = outside s := by
  unfold leaveSong
  dsimp only
  split
  · exact passBarCues_outside ..
  · rfl

theorem parkClock_outside : outside (parkClock s) = outside s :=
  (setClockState_outside ..).trans (leaveSong_outside s)

theorem announce_outside (pos : SongPos) (tick : Tick) : outside (announce pos tick s).1 = outside s := by
  unfold announce
  split <;> rfl

theorem fixNext_outside (pos : SongPos) (sub : SubTick) (tempo : Nat) :
    outside (fixNext pos sub tempo s).1 = outside s :=
  (handOffClick_outside ..).trans (announce_outside ..)

theorem nextPosition_outside (pos : SongPos) : outside (nextPosition pos s).1 = outside s := by
  unfold nextPosition
  dsimp only
  split
  · split
    · split
      · split
        · rfl
        · exact setClockState_outside ..
      · rfl
    · rfl
  · rfl

theorem produceBeat_outside (b : NextBeat) : outside (produceBeat b s).1 = outside s := by
  have h1 : ∀ (x : Bool) (y : State), outside (if x then { y with clock := y.clock.dropFollow } else y) = outside y :=
    fun x y => by cases x <;> rfl
  unfold produceBeat
  extract_lets boundary mark k1 s1 s2 tempo k2 s3 field o s4 k3 sub found clicks s5 k4
  have h2 : outside s2 = outside s := (h1 boundary s1).trans rfl
  have h4 : outside s4 = outside s := h2
  have h5 : outside s5 = outside s :=
    (outside_foldl _ (fun s k => handOffClick_outside s k) _ _).trans ((nextPosition_outside ..).trans h4)
  split
  · exact (setClockState_outside ..).trans h4
  · split
    · exact (fixNext_outside ..).trans h5
    · exact h5

theorem startSong_outside (song bar lead : Nat) : outside (startSong song bar lead s).1 = outside s := by
  unfold startSong
  split
  · rfl
  · rfl
  all_goals
    extract_lets s1 pos tick sub tempo k1 s2 s3 fixed produced
    have h1 : outside s1 = outside s := by
      show outside (if s.clock.state = .parked then s else leaveSong s) = outside s
      split <;> first | rfl | exact leaveSong_outside s
    have h3 : outside s3 = outside s := (setClockState_outside ..).trans h1
    split
    · exact (fixNext_outside ..).trans h3
    · exact (produceBeat_outside ..).trans ((fixNext_outside ..).trans h3)

theorem holdAction_outside : outside (holdAction s) = outside s := by
  unfold holdAction
  split <;> rfl

theorem releaseAction_outside : outside (releaseAction s).1 = outside s := by
  unfold releaseAction
  split
  · extract_lets tick sub k1 s1 found
    have h1 : outside found.1 = outside s :=
      (nextPosition_outside s1 _).trans (outside_clock s _)
    split
    · exact (fixNext_outside ..).trans ((outside_clock _ _).trans ((setClockState_outside ..).trans h1))
    · exact (outside_clock found.1 _).trans h1
  · rfl

theorem setTempoAction_outside (v : Nat) : outside (setTempoAction v s) = outside s := by
  unfold setTempoAction
  split <;> rfl

theorem parkAction_outside : outside (parkAction s) = outside s := by
  unfold parkAction
  split <;> first | rfl | exact parkClock_outside s

theorem vampAction_outside (first last : Nat) : outside (vampAction first last s) = outside s := by
  unfold vampAction
  split
  · dsimp only
    split
    · exact setClockState_outside ..
    · rfl
  · rfl

theorem vampRelease_outside : outside (vampRelease s) = outside s := by
  unfold vampRelease
  split <;> rfl

theorem songEnd_outside : outside (songEnd s) = outside s := by
  unfold songEnd
  split
  · exact parkClock_outside s
  · rfl

theorem freezeClock_outside : outside (freezeClock s) = outside s := by
  unfold freezeClock
  split <;> first | rfl | exact setClockState_outside ..

theorem resumePark_outside : outside (resumePark s) = outside s := by
  unfold resumePark
  dsimp only
  split
  · exact setClockState_outside ..
  · rfl

theorem countInCommand_outside (song bar c : Nat) : outside (countInCommand song bar c s).1 = outside s := by
  unfold countInCommand
  split
  · rfl
  · dsimp only
    refine (fixNext_outside ..).trans ?_
    split
    · exact setClockState_outside ..
    · exact (handOffClick_outside ..).trans (setClockState_outside ..)

theorem countInBeat_outside : outside (countInBeat s) = outside s := by
  unfold countInBeat
  split
  · split
    · dsimp only
      split
      · exact handOffClick_outside ..
      · rfl
    · rfl
  · rfl

theorem tempoTap_outside (onset : Tick) : outside (tempoTap onset s) = outside s := by
  unfold tempoTap
  split
  · split
    · rfl
    · dsimp only
      split <;> rfl
  · rfl

/-! ## Fires -/

theorem handPatch_outside (c : Cue) (a : StationAction) : outside (handPatch c s a) = outside s := by
  unfold handPatch
  split
  · rfl
  · split
    · exact takeRequest_outside ..
    · rfl

theorem handClick_outside (a : StationAction) : outside (handClick s a) = outside s := by
  unfold handClick
  split <;> rfl

theorem handTempo_outside (c : Cue) : outside (handTempo c s).1 = outside s := by
  unfold handTempo
  split
  · rfl
  · split
    · rfl
    · exact startSong_outside ..
  · exact holdAction_outside s
  · exact releaseAction_outside s
  · exact setTempoAction_outside ..
  · exact parkAction_outside s

theorem handVamp_outside (c : Cue) : outside (handVamp c s) = outside s := by
  unfold handVamp
  split
  · rfl
  · exact vampAction_outside ..
  · exact vampRelease_outside s

theorem beginFire_outside (n : CueNumber) : outside (beginFire n s) = outside s :=
  setRun_outside { s with cue := { s.cue with holdCandidate := none } } n .firing

theorem startFollow_outside (n : CueNumber) : outside (startFollow n s).1 = outside s := by
  unfold startFollow
  split
  · rfl
  · split
    · dsimp only
      split
      · split
        · rfl
        · split
          · rfl
          · split <;> rfl
      · rfl
    · rfl

theorem fireCue_outside (cause : FireCause) (n : CueNumber) : outside (fireCue cause n s).1 = outside s := by
  unfold fireCue
  split
  · rfl
  · rename_i c _
    dsimp only
    refine (startFollow_outside ..).trans ?_
    have guard : ∀ x : State, outside (if cause = .timed then x else startGuard x) = outside x := by
      intro x; split <;> rfl
    have move : ∀ x : State,
        outside (if cause = .held then x else if c.isGo = true then standbyAfterFire n x else x) = outside x := by
      intro x
      split
      · rfl
      · split
        · exact standbyAfterFire_outside ..
        · rfl
    have complete : ∀ x : State, outside (if x.slotHolds n = true then x else completeCue n x) = outside x := by
      intro x
      split
      · rfl
      · exact completeCue_outside ..
    refine (guard _).trans ((move _).trans ?_)
    refine (handVamp_outside ..).trans ((handTempo_outside ..).trans ?_)
    refine (outside_foldl _ (fun s a => handClick_outside s a) _ _).trans ((complete _).trans ?_)
    exact (outside_foldl _ (fun s a => handPatch_outside s c a) _ _).trans (beginFire_outside ..)

theorem runFires_outside (fuel : Nat) (l : List AtOnce) : outside (runFires fuel l s) = outside s := by
  induction fuel generalizing l s with
  | zero => simp [runFires]
  | succ k ih =>
    cases l with
    | nil => simp [runFires]
    | cons a rest =>
      simp only [runFires]
      split
      · exact (ih ..).trans (fireCue_outside ..)
      · exact ih ..

theorem settleFires_outside (r : State × List AtOnce) : outside (settleFires r) = outside r.1 := runFires_outside ..

theorem fire_outside (cause : FireCause) (n : CueNumber) : outside (fire cause n s) = outside s :=
  (settleFires_outside ..).trans (fireCue_outside ..)

theorem settleBars_outside (r : State × List BarTrigger) : outside (settleBars r) = outside r.1 :=
  settleFires_outside ..

theorem ignoreGo_outside (kind : GoKind) : outside (ignoreGo kind s) = outside s := by
  cases kind <;> rfl

theorem decideGo_outside (kind : GoKind) : outside (decideGo kind s).1 = outside s := by
  unfold decideGo
  split
  · rfl
  · split
    · exact ignoreGo_outside ..
    · split
      · exact ignoreGo_outside ..
      · split
        · exact ignoreGo_outside ..
        · exact fire_outside ..
        · split
          · exact fire_outside ..
          · exact ignoreGo_outside ..

theorem chairGo_outside : outside (chairGo s) = outside s := by
  unfold chairGo
  split
  · exact vampRelease_outside s
  · exact decideGo_outside ..

theorem barTrigger_outside : outside (barTrigger s) = outside s := by
  unfold barTrigger
  split
  · rfl
  · split
    · dsimp only
      split
      · exact fire_outside ..
      · rfl
    · rfl

theorem followExpiry_outside : outside (followExpiry s) = outside s := by
  unfold followExpiry
  split
  · rfl
  · split
    · dsimp only
      split
      · exact fire_outside ..
      · rfl
    · rfl

theorem guardExpiry_outside : outside (guardExpiry s) = outside s := by
  unfold guardExpiry
  split <;> rfl

theorem rewriteRuns_outside (n : CueNumber) : outside (rewriteRuns n s) = outside s := by
  unfold rewriteRuns
  dsimp only
  split
  · split
    · split
      · exact placeStandby_outside ..
      · exact placeStandby_outside ..
    · exact placeStandby_outside ..
  · exact placeStandby_outside ..

theorem beatReached_outside : outside (beatReached s) = outside s := by
  unfold beatReached
  split
  · split
    · exact (settleBars_outside ..).trans (produceBeat_outside ..)
    · rfl
  · split
    · exact (settleBars_outside ..).trans (produceBeat_outside ..)
    · rfl
  · rfl

/-! ## The stop -/

theorem handStopMarks_outside (on : Bool) : outside (handStopMarks on s) = outside s := rfl

theorem reconstructChair_outside (n : CueNumber) (c : Chair) : outside (reconstructChair n s c) = outside s := by
  unfold reconstructChair
  split
  · dsimp only
    split
    · rfl
    · split
      · exact takeRequest_outside ..
      · rfl
  · rfl

/-- A stop request leaves everything outside but the stop: with the stop put back, the frame holds. -/
theorem stopRequest_outside (src : StopSource) :
    { outside (stopRequest src s) with stop := s.stop } = outside s := by
  have fix : ∀ x y : State, outside x = outside y → { outside x with stop := s.stop } = { outside y with stop := s.stop } :=
    fun x y h => by rw [h]
  have set : ∀ (st : StopState) (x : State),
      { outside (setStopState st x) with stop := s.stop } = { outside x with stop := s.stop } := by
    intro st x
    unfold setStopState
    split <;> rfl
  have frozen : { outside (freezeClock (cancelClicks (setStopState .stopped s))) with stop := s.stop } = outside s :=
    (fix _ _ (freezeClock_outside _)).trans (set .stopped s)
  unfold stopRequest
  split
  · rfl
  · split
    · refine Eq.trans ?_ frozen
      unfold enterStop
      extract_lets s1 s2 count record k s3
      rfl
    · rfl
    · refine Eq.trans ?_ frozen
      unfold stopCountIn
      rfl

end Sys2Proof.Laws
end

