-- ==== Sys2Proof/Laws/Ops.lean ====
section
/-! SUPPORT. What the shared operations do: requests and events, one chair's entry of a per-chair state, vectors by entry,
table changes, the parts of the due list, and rectangles. -/

namespace Sys2Proof.Laws

open Sys2Proof.Machine

/-! ## The frames of a command -/

/-- A request that is taken: the owner decides in the state after the taking, and its answer is owed. -/
theorem request_taken {s : State} (h : s.accepts) (d : State → Decision) :
    request d s = .next (owing (d s.taking).2 (d s.taking).1) := by
  obtain ⟨h1, h2⟩ := h
  cases hp : s.port.state <;> simp_all [request, owing, State.taking]

/-- A request that its owner refuses. -/
theorem request_refused {s : State} (h : s.accepts) {d : State → Decision} {st : Status}
    (hd : d s.taking = refuse st s.taking) : request d s = .next (owing (plain st) s.taking) := by
  rw [request_taken h, hd]; rfl

/-- A request whose owner leaves state `t` and answers `a`. -/
theorem request_decided {s t : State} {a : Answer} (h : s.accepts) {d : State → Decision}
    (hd : d s.taking = (t, a)) : request d s = .next (owing a t) := by
  rw [request_taken h, hd]

/-- A request in WORKING sets the overrun mark and nothing else. -/
theorem request_working {s : State} (h : s.resetHeld = false) (hw : s.port.state = .working)
    (d : State → Decision) : request d s = .next { s with port := { s.port with overrun := true } } := by
  simp [request, h, hw]

/-- A request while RESET_N is held low changes nothing. -/
theorem request_held {s : State} (h : s.resetHeld = true) (d : State → Decision) : request d s = .next s := by
  simp [request, h]

/-- A request always gives a next state. -/
theorem request_next (d : State → Decision) (s : State) : ∃ t : State, request d s = .next t := by
  unfold request
  split
  · exact ⟨_, rfl⟩
  · split <;> exact ⟨_, rfl⟩

/-- An event happens unless RESET_N is held low. -/
theorem event_up {s : State} (h : s.resetHeld = false) (f : State → State) : event f s = .next (f s) := by
  simp [event, h]

/-- An event while RESET_N is held low changes nothing. -/
theorem event_held {s : State} (h : s.resetHeld = true) (f : State → State) : event f s = .next s := by
  simp [event, h]

/-! ## Vectors by entry -/

/-- An entry of a vector with one entry changed. -/
theorem modifyAt_getElem {α : Type} {n : Nat} (v : Vector α n) (i j : Fin n) (f : α → α) :
    (modifyAt v i f)[j] = if j = i then f v[j] else v[j] := by
  by_cases h : j = i
  · subst h; simp [modifyAt]
  · have : i.val ≠ j.val := fun e => h (Fin.ext e.symm)
    simp [h, modifyAt, Vector.getElem_set_ne _ _ this]

/-- The same, with the index as a number, the form that `simp` gives an index. -/
@[simp] theorem modifyAt_getElem_val {α : Type} {n : Nat} (v : Vector α n) (i j : Fin n) (f : α → α) :
    (modifyAt v i f)[j.val] = if j = i then f v[j.val] else v[j.val] := modifyAt_getElem v i j f

/-- An entry of a per-chair vector. -/
theorem tabulateChairs_getElem {α : Type} (f : Chair → α) (c : Chair) : (tabulateChairs f)[c] = f c := by
  fin_cases c <;> simp [tabulateChairs, allChairs]

/-- The same, with the index as a number. -/
@[simp] theorem tabulateChairs_getElem_val {α : Type} (f : Chair → α) (c : Chair) :
    (tabulateChairs f)[c.val] = f c := tabulateChairs_getElem f c

/-- An entry of a vector given entry by entry. -/
theorem tabulateFin_getElem {α : Type} {n : Nat} (f : Fin n → α) (i : Fin n) : (tabulateFin f)[i] = f i := by
  simp [tabulateFin]

/-- The same, with the index as a number. -/
@[simp] theorem tabulateFin_getElem_val {α : Type} {n : Nat} (f : Fin n → α) (i : Fin n) :
    (tabulateFin f)[i.val] = f i := tabulateFin_getElem f i

/-- Two vectors with the same entries are the same. -/
theorem vector_ext_fin {α : Type} {n : Nat} {v w : Vector α n} (h : ∀ i : Fin n, v[i] = w[i]) : v = w := by
  ext i hi; exact h ⟨i, hi⟩

/-! ## Lists -/

/-- The record found in a list after one is put before others: the one put in where it is the one looked for. -/
theorem find?_insertBefore_self {α : Type} (before : α → α → Bool) (p : α → Bool) (x : α) (l : List α)
    (hx : p x = true) (hl : ∀ y ∈ l, p y = false) : (insertBefore before x l).find? p = some x := by
  induction l with
  | nil => simp [insertBefore, hx]
  | cons y ys ih =>
    have hy : p y = false := hl y (by simp)
    simp only [insertBefore]
    split
    · simp [hx]
    · simp [hy, ih (fun z hz => hl z (by simp [hz]))]

/-- The record found in a list after another is put in. -/
theorem find?_insertBefore_other {α : Type} (before : α → α → Bool) (p : α → Bool) (x : α) (l : List α)
    (hx : p x = false) : (insertBefore before x l).find? p = l.find? p := by
  induction l with
  | nil => simp [insertBefore, hx]
  | cons y ys ih =>
    simp only [insertBefore]
    split
    · simp [hx]
    · simp [List.find?_cons, ih]

/-- A table change puts the record under its key. -/
theorem find?_upsert_self {α : Type} (same before : α → α → Bool) (p : α → Bool) (x : α) (l : List α)
    (hx : p x = true) (hp : ∀ y, same x y = p y) : (upsert same before x l).find? p = some x := by
  unfold upsert
  split
  · rename_i h
    have hc : (p ∘ fun y => if same x y = true then x else y) = p := by
      funext y
      by_cases hy : p y = true <;> simp [hp, hy, hx]
    rw [List.find?_map, hc]
    obtain ⟨y, hy, hsy⟩ := List.any_eq_true.mp h
    have : (l.find? p).isSome = true := by
      rw [List.find?_isSome]; exact ⟨y, hy, by rw [← hp]; exact hsy⟩
    obtain ⟨z, hz⟩ := Option.isSome_iff_exists.mp this
    have hpz : p z = true := List.find?_some hz
    simp [hz, hp, hpz]
  · rename_i h
    refine find?_insertBefore_self before p x l hx fun y hy => ?_
    simp only [List.any_eq_true, not_exists, not_and] at h
    have := h y hy
    rw [hp] at this
    simpa using this

/-- A table change leaves every record under another key. -/
theorem find?_upsert_other {α : Type} (same before : α → α → Bool) (p : α → Bool) (x : α) (l : List α)
    (hx : p x = false) (hp : ∀ y, same x y = true → p y = false) : (upsert same before x l).find? p = l.find? p := by
  unfold upsert
  split
  · induction l with
    | nil => rfl
    | cons y ys ih =>
      have hrest : (List.map (fun y => if same x y = true then x else y) ys).find? p = ys.find? p := by
        by_cases hys : ys.any (same x) = true
        · exact ih hys
        · have : ys.map (fun y => if same x y = true then x else y) = ys := by
            conv_rhs => rw [← List.map_id ys]
            refine List.map_congr_left fun z hz => ?_
            simp only [List.any_eq_true, not_exists, not_and] at hys
            simp [hys z hz]
          rw [this]
      by_cases hs : same x y = true
      · simp [hs, hx, hp y hs, hrest]
      · simp [hs, List.find?_cons, hrest]
  · exact find?_insertBefore_other before p x l hx

/-- A part takes a state in the first item that is named, and every other item stays (R77, R79). -/
theorem markPart_split (c : Chair) (st : PartState) (which : DueItem → Bool) (before after : List DueItem) (i : DueItem)
    (hi : which i = true) (hb : ∀ j ∈ before, which j = false) :
    markPart c st which (before ++ i :: after) = before ++ i.withPart c st :: after := by
  induction before with
  | nil => simp [markPart, hi]
  | cons j js ih =>
    simp [markPart, hb j (by simp), ih fun k hk => hb k (by simp [hk])]

/-- Where no item is named, the due list stays. -/
theorem markPart_none (c : Chair) (st : PartState) (which : DueItem → Bool) (l : List DueItem)
    (hl : ∀ j ∈ l, which j = false) : markPart c st which l = l := by
  induction l with
  | nil => rfl
  | cons j js ih => simp [markPart, hl j (by simp), ih fun k hk => hl k (by simp [hk])]

/-- A point lies in a rectangle by its line and its column (R150). -/
theorem rect_holds_iff (r : Rect) (line column : Nat) :
    r.holds line column = true ↔
      r.top ≤ line ∧ line < r.top + r.height ∧ r.left ≤ column ∧ column < r.left + r.width := by
  simp [Rect.holds, and_assoc]

/-- A point of the frame lies in the frame rectangle of a view rectangle exactly if the point of the view that it shows lies
in the view rectangle: the content is rotated with its rectangle (R150). -/
theorem frameRect_holds (o : Orientation) (z : Size) (r : Rect) (line column : Nat) (hl : line < z.height)
    (hc : column < z.width) (hw : r.left + r.width ≤ (viewSize o z).width)
    (hh : r.top + r.height ≤ (viewSize o z).height) :
    (frameRect o z r).holds line column =
      r.holds (viewPoint o z line column).1 (viewPoint o z line column).2 := by
  rw [Bool.eq_iff_iff, rect_holds_iff, rect_holds_iff]
  cases o <;> simp only [frameRect, viewPoint, viewSize] at * <;> omega

end Sys2Proof.Laws
end

