-- ==== Sys2Proof/Laws/PerInstr.lean ====
section
/-! SUPPORT. One law for each command: the command code under which a request frame carries it lies in 10h..5Fh, the codes
of section 12.3. -/

namespace Sys2Proof.Laws.RequestCode

/-- A command that a request frame carries has a code in 10h..5Fh (section 12.3). -/
def Statement (i : Instr) : Prop :=
  ∀ (code : Nat) (operands : List Byte), putRequest i = some (code, operands) → 0x10 ≤ code ∧ code ≤ 0x5F

/-- A code in the range is one in the range. -/
theorem of_some {c code : Nat} {l operands : List Byte} (h : some (c, l) = some (code, operands))
    (hc : 0x10 ≤ c ∧ c ≤ 0x5F) : 0x10 ≤ code ∧ code ≤ 0x5F := by
  cases h; exact hc

/-- A code that a condition gives. -/
theorem of_some_if {p : Prop} [Decidable p] {c code : Nat} {l operands : List Byte}
    (h : (if p then some (c, l) else none) = some (code, operands)) (hc : 0x10 ≤ c ∧ c ≤ 0x5F) :
    0x10 ≤ code ∧ code ≤ 0x5F := by
  by_cases hp : p
  · rw [if_pos hp] at h; exact of_some h hc
  · rw [if_neg hp] at h; cases h

/-- A code that a condition withholds. -/
theorem of_none_if {p : Prop} [Decidable p] {c code : Nat} {l operands : List Byte}
    (h : (if p then none else some (c, l)) = some (code, operands)) (hc : 0x10 ≤ c ∧ c ≤ 0x5F) :
    0x10 ≤ code ∧ code ≤ 0x5F := by
  by_cases hp : p
  · rw [if_pos hp] at h; cases h
  · rw [if_neg hp] at h; exact of_some h hc

/-- A command that no frame carries has no code to check. -/
theorem of_none {i : Instr} (h : putRequest i = none) : Statement i := fun code operands e => by
  rw [h] at e; cases e

theorem powerOn (boot : Bool) : Statement (.powerOn boot) := of_none rfl

theorem requestFrame (bytes : List Byte) : Statement (.requestFrame bytes) := of_none rfl

theorem ownerAnswer : Statement .ownerAnswer := of_none rfl

theorem answerRead (count : Nat) : Statement (.answerRead count) := of_none rfl

theorem recordWrite (w : RecordWrite) : Statement (.recordWrite w) := fun _ _ h => of_some h (by decide)

theorem recordRead (k : RecordKey) : Statement (.recordRead k) := fun _ _ h => of_some h (by decide)

theorem recordRetire (k : RecordKey) : Statement (.recordRetire k) := fun _ _ h => of_some h (by decide)

theorem cursorSet (k : RecordKey) : Statement (.cursorSet k) := fun _ _ h => of_some h (by decide)

theorem cursorRead : Statement .cursorRead := fun _ _ h => of_some h (by decide)

theorem bookClear : Statement .bookClear := fun _ _ h => of_some h (by decide)

theorem bookInfo : Statement .bookInfo := fun _ _ h => of_some h (by decide)

theorem bookLoad (slot : Nat) : Statement (.bookLoad slot) := fun _ _ h => of_some h (by decide)

theorem bookSave (slot : Nat) : Statement (.bookSave slot) := fun _ _ h => of_some h (by decide)

theorem castSet (role key : Nat) : Statement (.castSet role key) := fun _ _ h => of_some h (by decide)

theorem songCut (song : Nat) : Statement (.songCut song) := fun _ _ h => of_some h (by decide)

theorem songRestore (song : Nat) : Statement (.songRestore song) := fun _ _ h => of_some h (by decide)

theorem showOpen : Statement .showOpen := fun _ _ h => of_some h (by decide)

theorem showClose : Statement .showClose := fun _ _ h => of_some h (by decide)

theorem go : Statement .go := fun _ _ h => of_some h (by decide)

theorem standbySet (major minor : Nat) : Statement (.standbySet major minor) := fun _ _ h => of_some h (by decide)

theorem standbyNext : Statement .standbyNext := fun _ _ h => of_some h (by decide)

theorem standbyBack : Statement .standbyBack := fun _ _ h => of_some h (by decide)

theorem vampRelease : Statement .vampRelease := fun _ _ h => of_some h (by decide)

theorem stop : Statement .stop := fun _ _ h => of_some h (by decide)

theorem resume (major minor bars : Nat) : Statement (.resume major minor bars) := fun _ _ h => of_some h (by decide)

theorem stationSet (w : ChairWrite) : Statement (.stationSet w) := fun _ _ h => of_some h (by decide)

theorem rigWrite (chair : Nat) (entries : List Entry) : Statement (.rigWrite chair entries) := fun _ _ h => of_some h (by decide)

theorem realign (chair : Nat) : Statement (.realign chair) := fun _ _ h => of_some h (by decide)

theorem videoSelect (mode : Nat) : Statement (.videoSelect mode) := fun _ _ h => of_some h (by decide)

theorem faultSet (source window action : Nat) : Statement (.faultSet source window action) := fun _ _ h => of_some h (by decide)

theorem faultRead (source : Nat) : Statement (.faultRead source) := fun _ _ h => of_some h (by decide)

theorem faultClear : Statement .faultClear := fun _ _ h => of_some h (by decide)

theorem padReseed : Statement .padReseed := fun _ _ h => of_some h (by decide)

theorem statusRead (part : Nat) (chair : Option Nat) : Statement (.statusRead part chair) :=
  match chair with
  | some _ => fun _ _ h => of_some_if h (by decide)
  | none => fun _ _ h => of_none_if h (by decide)

theorem eventMask (mask : BitVec 16) : Statement (.eventMask mask) := fun _ _ h => of_some h (by decide)

theorem stopRecordRead : Statement .stopRecordRead := fun _ _ h => of_some h (by decide)

theorem systemReset : Statement .systemReset := fun _ _ h => of_some h (by decide)

theorem beatProduction : Statement .beatProduction := of_none rfl

theorem songEnd : Statement .songEnd := of_none rfl

theorem barTrigger : Statement .barTrigger := of_none rfl

theorem followTimerExpiry : Statement .followTimerExpiry := of_none rfl

theorem goGuardExpiry : Statement .goGuardExpiry := of_none rfl

theorem countInBeat : Statement .countInBeat := of_none rfl

theorem countInEnd : Statement .countInEnd := of_none rfl

theorem syncLock : Statement .syncLock := of_none rfl

theorem syncUnlock : Statement .syncUnlock := of_none rfl

theorem clickSend (c : Chair) : Statement (.clickSend c) := of_none rfl

theorem patchTimeout (c : Chair) : Statement (.patchTimeout c) := of_none rfl

theorem probePeriod (c : Chair) : Statement (.probePeriod c) := of_none rfl

theorem probeLost (c : Chair) : Statement (.probeLost c) := of_none rfl

theorem lineActivity (c : Chair) : Statement (.lineActivity c) := of_none rfl

theorem holdOffExpiry (c : Chair) : Statement (.holdOffExpiry c) := of_none rfl

theorem trainFrame (c : Chair) : Statement (.trainFrame c) := of_none rfl

theorem trainingTimeout (c : Chair) : Statement (.trainingTimeout c) := of_none rfl

theorem silenceTimeout (c : Chair) : Statement (.silenceTimeout c) := of_none rfl

theorem leakStep : Statement .leakStep := of_none rfl

theorem uplinkDamaged (c : Chair) (bytes : List Byte) : Statement (.uplinkDamaged c bytes) := of_none rfl

theorem hello (c : Chair) (seq version : Byte) (latency : BitVec 16) (flags : Byte) : Statement (.hello c seq version latency flags) := of_none rfl

theorem goPress (c : Chair) (seq : Byte) : Statement (.goPress c seq) := of_none rfl

theorem patchAck (c : Chair) (seq tag result : Byte) : Statement (.patchAck c seq tag result) := of_none rfl

theorem echo (c : Chair) (seq id : Byte) (turnaround : BitVec 16) : Statement (.echo c seq id turnaround) := of_none rfl

theorem idle (c : Chair) (seq : Byte) : Statement (.idle c seq) := of_none rfl

theorem downlinkGrant (c : Chair) : Statement (.downlinkGrant c) := of_none rfl

theorem cameraFrameStart (cam : Camera) : Statement (.cameraFrameStart cam) := of_none rfl

theorem cameraFrameArrival (cam : Camera) (widths : List Nat) (image : Nat) : Statement (.cameraFrameArrival cam widths image) := of_none rfl

theorem signalWatchExpiry (cam : Camera) : Statement (.signalWatchExpiry cam) := of_none rfl

theorem failoverExpiry : Statement .failoverExpiry := of_none rfl

theorem outputFrameBoundary : Statement .outputFrameBoundary := of_none rfl

theorem padSample (bytes : List Byte) : Statement (.padSample bytes) := of_none rfl

theorem padLoss : Statement .padLoss := of_none rfl

theorem holdPoint : Statement .holdPoint := of_none rfl

theorem stopPoint : Statement .stopPoint := of_none rfl

theorem stopInChange (active : Bool) : Statement (.stopInChange active) := of_none rfl

theorem stopLineDebounce : Statement .stopLineDebounce := of_none rfl

theorem faultSampleStep : Statement .faultSampleStep := of_none rfl

theorem armingExpiry : Statement .armingExpiry := of_none rfl

theorem imageHeaderRead (bytes : List Byte) : Statement (.imageHeaderRead bytes) := of_none rfl

theorem imageRecordInstall (code : Byte) (length : BitVec 16) (payload : List Byte) : Statement (.imageRecordInstall code length payload) := of_none rfl

theorem imageBodyEnd : Statement .imageBodyEnd := of_none rfl

theorem slotEraseDone (readBack : List Byte) : Statement (.slotEraseDone readBack) := of_none rfl

theorem eraseTimeout : Statement .eraseTimeout := of_none rfl

theorem imageRecordWrite (readBack : List Byte) : Statement (.imageRecordWrite readBack) := of_none rfl

theorem programTimeout : Statement .programTimeout := of_none rfl

theorem imageHeaderWrite (readBack : List Byte) : Statement (.imageHeaderWrite readBack) := of_none rfl

theorem resetNAsserted : Statement .resetNAsserted := of_none rfl

end Sys2Proof.Laws.RequestCode
end

