-- ==== Sys2Proof/Laws/Pictures.lean ====
section
/-! SUPPORT. What the layout of a picture does: how points and rectangles of the view stand in the frame (R150), and the pixel
that each kind of picture has (R147 to R149). -/

namespace Sys2Proof.Laws

open Sys2Proof.Machine

/-- A point of the frame shows the point of the view whose one-pixel rectangle stands there (R150). -/
theorem viewPoint_of_putsRect (o : Orientation) (z : Size) (line column row across : Nat)
    (h : putsRect o z { left := across, top := row, width := 1, height := 1 }
      { left := column, top := line, width := 1, height := 1 }) :
    viewPoint o z line column = (row, across) := by
  cases o <;> simp [putsRect, viewPoint] at h ⊢ <;> omega

/-- A point of the frame lies in a rectangle of the frame exactly where the point of the view lies in that of the view
(R150). -/
theorem holds_iff_covers (o : Orientation) (z : Size) (view frame : Rect) (line column row across : Nat)
    (hr : putsRect o z view frame)
    (hp : putsRect o z { left := across, top := row, width := 1, height := 1 }
      { left := column, top := line, width := 1, height := 1 }) :
    frame.holds line column = true ↔ view.covers row across := by
  cases o <;> simp [putsRect, Rect.holds, Rect.covers] at hr hp ⊢
  · obtain ⟨rfl, rfl⟩ := hp
    subst hr
    simp [and_assoc]
  · omega
  · omega
  · omega

/-- The frame rectangle of a view rectangle stands where R150's table puts it, where the view has room for it. -/
theorem putsRect_frameRect (o : Orientation) (z : Size) (r : Rect)
    (hw : r.left + r.width ≤ (viewSize o z).width) (hh : r.top + r.height ≤ (viewSize o z).height) :
    putsRect o z r (frameRect o z r) := by
  cases o <;> simp [putsRect, frameRect, viewSize] at hw hh ⊢ <;> omega

end Sys2Proof.Laws
end

