-- ==== Sys2Proof/Tests/Slice0.lean ====
section
/-! SUPPORT. Tests: ill-formed commands that the check refuses, frames and messages written out from the spec's encodings,
the spec's worked numbers, one step of a command on a small state, and for each statement a state that meets its
hypotheses. -/

namespace Sys2Proof.Tests

-- One theorem at a time: many kernel evaluations at once would each hold a thread.
set_option Elab.async false

open Sys2Proof.Machine

/-! ## A small show -/

/-- A cue number of a cue with minor 0. -/
def num (n : Nat) : CueNumber := { major := n, minor := 0 }

/-- The song A of bars 1 to 4. -/
def song1 : Song :=
  { number := 1, title := [0x41#8], firstBar := 1, lastBar := 4, keyRole := none, running := .playing, cueCount := 0 }

/-- The one segment of the song: 4 beats a bar at 120 BPM. -/
def seg1 : Segment :=
  { song := 1, startBar := 1, beatsPerBar := 4, beatUnit := .quarter, startTempo := 12000, endTempo := 12000, ramp := 0,
    subdivision := 1, follow := false }

/-- A one-entry patch of chair 2, number 5. -/
def patch5 : Patch :=
  { chair := 1, number := 5, base := [{ device := 1, code := 2, value := 3 }], v1 := none, v2 := none, v3 := none,
    refs := 1 }

/-- A GO cue of every source that hands nothing on. -/
def goCue (n : Nat) : Cue :=
  { number := num n, song := none, trigger := .go, mask := { pad := true, control := true, chair := true },
    actions := [], tempo := none, vamp := none, text := none }

/-- A GO cue that sends patch 5 to chair 2. -/
def patchCue (n : Nat) : Cue := { goCue n with actions := [{ chair := 1, patch := some 5, click := .unchanged }] }

/-- A BAR cue of song 1 at bar 2, beat 1, 50 ms early. -/
def barCue (n : Nat) : Cue := { goCue n with song := some 1, trigger := .bar 2 1 50 }

/-- A FOLLOW cue of 1000 ms. -/
def followCue (n : Nat) : Cue := { goCue n with trigger := .follow 1000 }

/-- A closed show with these cues. -/
def house (cues : List Cue) : State :=
  { State.reset with book := { Book.empty with songs := [song1], segments := [seg1], patches := [patch5], cues := cues } }

/-- A PENDING cue's run entry. -/
def waits (n : Nat) : RunEntry := { cue := num n, state := .pending, mark := none, failed := 0 }

/-- An open show with these cues, the first of them the standby. -/
def stage (cues : List Cue) : State :=
  { house cues with
    cue := { CueEngine.initial with
      isOpen := true
      standby := cues.head?.map (·.number)
      runs := cues.map fun c => { cue := c.number, mark := none, failed := 0,
                                  state := if cues.head? = some c then .standby else .pending } } }

/-- The clock plays song 1 with a beat at these ticks. -/
def playing (bar beat : Nat) (sub : SubTick) (s : State) : State :=
  { s with clock := { s.clock with
    state := .playing, pos := some { song := 1, bar := 1, beat := 1 }
    next := some { pos := { song := 1, bar := bar, beat := beat }, sub := sub } } }

/-- Chair 2's link changed. -/
def chair2 (f : Link → Link) (s : State) : State := onLink 1 f s

/-- The link of chair 2 is LOCKED and expects sequence number 7. -/
def locked2 (s : State) : State := chair2 (fun l => { l with state := .locked, seq := some 7#8 }) s

/-- A request in flight at chair 2 with tag 1. -/
def inFlight (r : PatchReq) : Flight := { req := r, tag := 1#8, expiry := 1920#32, retired := false }

/-- The next state of a command, or the state itself. -/
def after (i : Instr) (s : State) : State :=
  match exec i s with
  | .next t => t
  | _ => s

/-! ## Ill-formed commands -/

theorem test_wf_transactions :
    wellFormed (.requestFrame []) = false ∧ wellFormed (.answerRead 0) = false ∧
      wellFormed (.requestFrame [0x5A#8]) = true ∧ wellFormed (.answerRead 1) = true := by decide

theorem test_wf_song_number :
    wellFormed (.recordWrite (.song { number := 256, title := [], firstBar := 0, lastBar := 0, keyRole := none })) =
      false := by decide

theorem test_wf_song_title :
    wellFormed (.recordWrite (.song { number := 1, title := List.replicate 256 0x41#8, firstBar := 0, lastBar := 0,
                                      keyRole := none })) = false := by decide +kernel

theorem test_wf_song_key_role :
    wellFormed (.recordWrite (.song { number := 1, title := [], firstBar := 0, lastBar := 0, keyRole := some 256 })) =
      false := by decide

theorem test_wf_segment :
    wellFormed (.recordWrite (.segment { song := 1, startBar := 65536, beatsPerBar := 4, beatUnit := 1,
                                         startTempo := 12000, endTempo := 12000, ramp := 0, subdivision := 1,
                                         follow := 1 })) = false := by decide

theorem test_wf_patch_entry :
    wellFormed (.recordWrite (.patch { chair := 1, number := 1, base := [{ device := 0, code := 0, value := 65536 }],
                                       v1 := none, v2 := none, v3 := none })) = false := by decide

theorem test_wf_patch_list :
    wellFormed (.recordWrite (.patch { chair := 1, number := 1, v1 := none, v2 := none, v3 := none,
                                       base := List.replicate 256 { device := 0, code := 0, value := 0 } })) = false := by
  decide +kernel

/-- A cue write with one field replaced. -/
def cueWrite (trigger : Trigger) (actions : List ActionWrite) (tempo : Option TempoAction) (vamp : Option VampAction) :
    Instr :=
  .recordWrite (.cue { major := 3, minor := 5, song := some 1, trigger := trigger, mask := 3, actions := actions,
                       tempo := tempo, vamp := vamp, text := some [0x44#8] })

theorem test_wf_cue :
    wellFormed (cueWrite (.follow 65536) [] none none) = false ∧ wellFormed (cueWrite (.bar 0 256 0) [] none none) = false ∧
      wellFormed (cueWrite .go [{ chair := 1, patch := some 65536, click := 0 }] none none) = false ∧
      wellFormed (cueWrite .go [] (some (.setTempo 65536)) none) = false ∧
      wellFormed (cueWrite .go [] none (some (.vamp 0 65536))) = false ∧
      wellFormed (cueWrite .go [] none none) = true := by decide

theorem test_wf_chair_trim :
    wellFormed (.stationSet { chair := 1, label := [], enabled := 0, trim := 32768, subClicks := 0, goRights := 0,
                              orientation := 0, placement := 0, overlay := 0 }) = false := by decide

theorem test_wf_settings :
    wellFormed (.recordWrite (.settings { goGuard := 250, deadband := 150, maxStep := 300, band := 80, width := 65536,
                                          height := 720, rate := 4, failover := 200, autoRevert := 0, houseSync := 1,
                                          touch := 24, deep := 64, hysteresis := 6 })) = false := by decide

theorem test_wf_roles_and_keys :
    wellFormed (.recordWrite (.role 256 0)) = false ∧ wellFormed (.castSet 1 256) = false ∧
      wellFormed (.recordRead (.song 256)) = false ∧ wellFormed (.recordRetire (.segment 1 65536)) = false ∧
      wellFormed (.cursorSet (.patch 256 1)) = false ∧ wellFormed (.recordRead (.cue 65536 0)) = false ∧
      wellFormed (.recordRead (.chair 256)) = false ∧ wellFormed (.recordRead (.role 256)) = false := by decide

theorem test_wf_byte_operands :
    wellFormed (.bookLoad 256) = false ∧ wellFormed (.bookSave 256) = false ∧ wellFormed (.songCut 256) = false ∧
      wellFormed (.songRestore 256) = false ∧ wellFormed (.realign 256) = false ∧ wellFormed (.videoSelect 256) = false ∧
      wellFormed (.faultRead 256) = false ∧ wellFormed (.faultSet 1 256 0) = false := by decide

theorem test_wf_cue_operands :
    wellFormed (.standbySet 65536 0) = false ∧ wellFormed (.resume 1 0 256) = false ∧
      wellFormed (.rigWrite 256 []) = false := by decide

theorem test_wf_status_chair :
    wellFormed (.statusRead 3 none) = false ∧ wellFormed (.statusRead 0 (some 1)) = false ∧
      wellFormed (.statusRead 3 (some 1)) = true := by decide

theorem test_wf_damaged_is_damaged :
    wellFormed (.uplinkDamaged 0 [0x05#8, 0x00#8, 0x00#8, 0x27#8, 0x6C#8]) = false ∧
      wellFormed (.uplinkDamaged 0 [0x05#8, 0x00#8, 0x00#8, 0x27#8, 0x6D#8]) = true := by decide +kernel

theorem test_wf_media_and_images :
    wellFormed (.cameraFrameArrival .a [] 0) = false ∧ wellFormed (.padSample []) = false ∧
      wellFormed (.imageHeaderRead []) = false ∧ wellFormed (.imageRecordInstall 1#8 2#16 [0#8]) = false := by decide

/-! ## Bytes (R114, R184, R185) -/

/-- GO: code 22h and no operands. -/
theorem test_frame_go : decodeFrame [0x22#8, 0x00#8, 0x00#8] = .ok .go := by decide +kernel

/-- STANDBY SET of cue 300.5: the major in two bytes, the minor in one. -/
theorem test_frame_standby_set :
    decodeFrame [0x23#8, 0x00#8, 0x03#8, 0x01#8, 0x2C#8, 0x05#8] = .ok (.standbySet 300 5) := by decide +kernel

/-- RECORD WRITE of song 3, title AB, bars 1 to 300, key role 7. -/
theorem test_frame_song_write :
    decodeFrame [0x10#8, 0x00#8, 0x0B#8, 0x01#8, 0x03#8, 0x02#8, 0x41#8, 0x42#8, 0x00#8, 0x01#8, 0x01#8, 0x2C#8,
        0x01#8, 0x07#8] =
      .ok (.recordWrite (.song { number := 3, title := [0x41#8, 0x42#8], firstBar := 1, lastBar := 300,
                                 keyRole := some 7 })) := by decide +kernel

/-- RECORD WRITE of GO cue 12.0 with mask CONTROL, one action OFF at chair 2, a tempo action PARK and no text. -/
theorem test_frame_cue_write :
    decodeFrame [0x10#8, 0x00#8, 0x10#8, 0x04#8, 0x00#8, 0x0C#8, 0x00#8, 0x00#8, 0x00#8, 0x02#8, 0x01#8, 0x02#8, 0x00#8,
        0x01#8, 0x01#8, 0x04#8, 0x00#8, 0x00#8, 0x00#8] = .error .badLength ∧
    decodeFrame [0x10#8, 0x00#8, 0x0F#8, 0x04#8, 0x00#8, 0x0C#8, 0x00#8, 0x00#8, 0x00#8, 0x02#8, 0x01#8, 0x02#8, 0x00#8,
        0x01#8, 0x01#8, 0x04#8, 0x00#8, 0x00#8] =
      .ok (.recordWrite (.cue { major := 12, minor := 0, song := none, trigger := .go, mask := 2,
                                actions := [{ chair := 2, patch := none, click := 1 }], tempo := some .park,
                                vamp := none, text := none })) := by decide +kernel

/-- A trim of -5000 is EC78h in two's complement. -/
theorem test_frame_trim : putSigned (-5000) = [0xEC#8, 0x78#8] := by decide +kernel

/-- A frame that a byte is missing from, or that has one too many, is BAD_LENGTH; 00h is no command. -/
theorem test_frame_errors :
    decodeFrame [0x23#8, 0x00#8, 0x02#8, 0x01#8, 0x2C#8] = .error .badLength ∧
      decodeFrame [0x22#8, 0x00#8, 0x01#8, 0x00#8] = .error .badLength ∧
      decodeFrame [0x00#8, 0x00#8, 0x00#8] = .error .badCommand := by decide +kernel

/-- The CRC-16 of the digits 1 to 9 with preset ones and no inversion (the check value of this CRC, 29B1h). -/
theorem test_crc16 :
    crc16 [0x31#8, 0x32#8, 0x33#8, 0x34#8, 0x35#8, 0x36#8, 0x37#8, 0x38#8, 0x39#8] = 0x29B1#16 := by decide +kernel

/-- The CRC-32 of the digits 1 to 9 (the check value of this CRC, CBF43926h; log 19). -/
theorem test_crc32 :
    crc32Result (crc32Step crc32Start
      [0x31#8, 0x32#8, 0x33#8, 0x34#8, 0x35#8, 0x36#8, 0x37#8, 0x38#8, 0x39#8]) = 0xCBF43926#32 := by decide +kernel

/-- A PATCH ACK of sequence number 0, tag 1 and result OK. -/
theorem test_uplink_patch_ack :
    checkUplink ([0x03#8, 0x00#8, 0x02#8, 0x01#8, 0x00#8] ++
      bigEndian 2 (crc16 [0x03#8, 0x00#8, 0x02#8, 0x01#8, 0x00#8]).toNat) = .passed 0#8 (.patchAck 1#8 true) := by
  decide +kernel

/-- A PROBE of id 9: kind 84h, a two-byte length, the id and the CRC. -/
theorem test_downlink_probe :
    (DownMsg.probe 9#8).bytes.take 4 = [0x84#8, 0x00#8, 0x01#8, 0x09#8] ∧ (DownMsg.probe 9#8).bytes.length = 6 := by
  decide +kernel

/-- An answer's first bytes: not-ready zero, A5h, the OVERRUN flag, the status code. -/
theorem test_answer_bytes : (answerBytes (plain .ok) true).take 4 = [0x00#8, 0xA5#8, 0x01#8, 0x00#8] := by
  decide +kernel

/-! ## The spec's worked numbers -/

/-- R54: Q(t). -/
theorem test_beat_intervals :
    [12000, 11700, 11474, 11400, 10800, 10200, 9750, 9600, 30000, 2000].map beatInterval =
      [6144000, 6301538, 6425658, 6467368, 6826667, 7228235, 7561846, 7680000, 2457600, 36864000] := by decide

/-- R59: a ramp from 12000 to 11990 over four beats. -/
theorem test_ramp :
    [0, 1, 2, 3, 4, 5].map ({ seg1 with endTempo := 11990, ramp := 4 } : Segment).tempoAt =
      [12000, 11997, 11995, 11992, 11990, 11990] := by decide

/-- R89: advances. -/
theorem test_advances :
    advanceOf 1350 2000 = 161 ∧ advanceOf 1350 0 = 65 ∧ advanceOf 0 (-5000) = 0 ∧ advanceOf 15000 5000 = 720 ∧
      advanceOf 1351 2000 = 161 := by decide

/-- R126: the four thresholds of a baseline of 1000. -/
theorem test_thresholds :
    threshold 1000 24 = 93 ∧ threshold 1000 18 = 70 ∧ threshold 1000 64 = 250 ∧ threshold 1000 58 = 226 := by decide

/-- R150: the strip on a 1280 by 720 frame, and the lamp at 90 and BOTTOM. -/
theorem test_strips :
    let z : Size := { width := 1280, height := 720 }
    frameRect .deg0 z (stripView .deg0 .bottom z) = { left := 0, top := 656, width := 1280, height := 64 } ∧
      frameRect .deg90 z (stripView .deg90 .bottom z) = { left := 0, top := 0, width := 64, height := 720 } ∧
      frameRect .deg90 z (stripView .deg90 .top z) = { left := 1216, top := 0, width := 64, height := 720 } ∧
      frameRect .deg180 z (stripView .deg180 .top z) = { left := 0, top := 656, width := 1280, height := 64 } ∧
      frameRect .deg270 z (stripView .deg270 .bottom z) = { left := 1216, top := 0, width := 64, height := 720 } ∧
      frameRect .deg90 z (lampView .deg90 .bottom z) = { left := 0, top := 656, width := 64, height := 64 } := by decide

/-- R152, R155: the live thresholds of the four window classes. -/
theorem test_live_thresholds :
    [WindowClass.w10, .w25, .w100, .w200].map WindowClass.threshold = [6, 13, 51, 101] := by decide

/-- 00 Conventions: a tick comparison across the counter's wrap. -/
theorem test_tick_wrap : tickReached 5#32 0xFFFFFFF0#32 = true ∧ tickReached 0xFFFFFFF0#32 5#32 = false := by decide

/-! ## States that meet the hypotheses of the statements -/

/-- The tick and time moved on. -/
def atTick (tick micros : Nat) (s : State) : State :=
  { s with time := { tick := BitVec.ofNat 32 tick, micros := micros, phase := 0 } }

/-- RESET_N is held low. -/
def held : State := { State.reset with resetHeld := true }

/-- A load of slot 0 is at this point. -/
def loading (st : LoaderState) (s : State) : State :=
  { s with loader := { Loader.initial with report := { Loader.initial.report with
      state := st, op := some .load, slot := some 0, progress := some { done := 0, total := 0 } } } }

/-- The header of an empty book whose body is of this length. -/
def header (length : Nat) : ImageHeader :=
  { songs := 0, segments := 0, cues := 0, patches := 0, entries := 0, settings := 1, chairs := 16, roles := 32,
    bodyLength := length, bodyCrc := 0#32 }

/-- The port is WORKING on a request with this answer owed. -/
def working (a : Answer) : State :=
  { State.reset with port := { Port.initial with state := .working, owed := some a } }

/-- The port is ANSWERED. -/
def answered (a : Answer) (overrun : Bool) : State :=
  { State.reset with port := { Port.initial with state := .answered, buffer := some (a, overrun) } }

theorem witness_StepRunsTheFrontCommand :
    ({ State.reset with pending := [.go, .stop] } : State).pending = .go :: [.stop] := rfl

theorem witness_TimePassesAndHouseSyncLocks :
    State.reset.pending = [] ∧ State.reset.time.phase < 1000 ∧ State.reset.resetHeld = false ∧ held.pending = [] ∧
      held.resetHeld = true ∧ { State.reset.time with phase := 999 }.phase < 1000 ∧
      (Instr.syncLock = .syncLock ∧ true = true) ∧ Instr.syncUnlock = .syncUnlock := by decide

theorem witness_SystemResetKeepsTheBook :
    State.reset.accepts ∧ State.reset.loading = false ∧ (loading .installing State.reset).accepts ∧
      (loading .installing State.reset).loading = true := by decide

theorem witness_ResetInputHoldsThenGivesPowerOnValues :
    held.resetHeld = true ∧ held.busy = false ∧ ∀ boot : Bool, Instr.go ≠ .powerOn boot := by decide

theorem witness_FrameRunsTheRequestItCarries :
    wellFormed (.standbySet 65535 255) = true ∧
      putRequest (.standbySet 65535 255) = some (0x23, [0xFF#8, 0xFF#8, 0xFF#8]) ∧
      [0xFF#8, 0xFF#8, 0xFF#8].length ≤ 1600 := by decide +kernel

/-- No request has command code 00h or 60h. -/
theorem no_request_code (code : Nat) (h : code < 0x10 ∨ 0x5F < code) (i : Instr) (c : Nat) (l : List Byte)
    (hi : putRequest i = some (c, l)) : c ≠ code := by
  have : 0x10 ≤ c ∧ c ≤ 0x5F := by
    have hs : Laws.RequestCode.Statement i := by
      cases i <;> first
        | exact Laws.RequestCode.statusRead _ _
        | exact fun _ _ h => Laws.RequestCode.of_some h (by decide)
        | exact Laws.RequestCode.of_none rfl
    exact hs c l hi
  omega

theorem witness_FrameChecksComeInOrder :
    ((isRequest .systemReset = true ∧ (working (plain .ok)).resetHeld = false ∧
        (working (plain .ok)).port.state = .working) ∧
      State.reset.accepts ∧ ([] : List Byte).length ≠ (0x00#8 : Byte).toNat * 256 + (0x01#8 : Byte).toNat ∧
      1600 < (0x06#8 : Byte).toNat * 256 + (0x41#8 : Byte).toNat ∧ [0x22#8, 0x00#8].length < 3 ∧
      ([] : List Byte).length ≤ 1600 ∧ wellFormed (.standbySet 1 0) = true ∧
      putRequest (.standbySet 1 0) = some (0x23, [0x00#8, 0x01#8, 0x00#8]) ∧
      [0x00#8, 0x01#8, 0x00#8, 0x07#8] = [0x00#8, 0x01#8, 0x00#8] ++ [0x07#8] ∧
      [0x00#8, 0x01#8, 0x00#8] = [0x00#8, 0x01#8] ++ [0x00#8] ∧ (0x97#8 : Byte) ≠ 0x5A#8 ∧ (0x97#8 : Byte) ≠ 0x96#8) ∧
      ∀ (i : Instr) (c : Nat) (l : List Byte), putRequest i = some (c, l) → c ≠ (0x60#8 : Byte).toNat :=
  ⟨by decide, no_request_code 0x60 (by decide)⟩

theorem witness_AnswerIsGivenAndReadOnce :
    (working (plain .ok)).resetHeld = false ∧ (working (plain .ok)).port.state = .working ∧
      (working (plain .ok)).port.owed = some (plain .ok) ∧ (answered (plain .ok) true).resetHeld = false ∧
      (answered (plain .ok) true).port.state = .answered ∧
      (answered (plain .ok) true).port.buffer = some (plain .ok, true) ∧ State.reset.port.state ≠ .answered := by decide

/-- R66, R188: part 2 of STATUS READ ends with the beat accumulator, here that of tick 480. -/
theorem test_status_accumulator :
    let s := State.reset
    (State.clockReport { s with clock := { s.clock with p := subOfTick 480#32 } }).bytes.reverse.take 5 =
      [0x00#8, 0xE0#8, 0x01#8, 0x00#8, 0x00#8] := by decide

theorem witness_StatusReadIsASnapshotAndTheMaskIsReplaced :
    State.reset.accepts ∧ 5 < 6 ∧ (∀ n : Nat, some 17 = some n → n < 1 ∨ 16 < n) ∧
      (∃ n : Nat, some 16 = some n ∧ 1 ≤ n ∧ n ≤ 16) ∧ (0x3FF#16 : BitVec 16).toNat < 1024 ∧
      1024 ≤ (0x400#16 : BitVec 16).toNat :=
  ⟨by decide, by decide, by simp, ⟨16, by simp⟩, by decide, by decide⟩

/-! ### The Book Store -/

/-- Song 1 has this record, and no other song is in the book. -/
def withSong (r : Song) (s : State) : State := { s with book := { s.book with songs := [r] } }

/-- The book's segments are these. -/
def withSegments (l : List Segment) (s : State) : State := { s with book := { s.book with segments := l } }

/-- The book's one patch is this. -/
def withPatch (p : Patch) (s : State) : State := { s with book := { s.book with patches := [p] } }

/-- The Cue Engine's state changed. -/
def cueing (f : CueEngine → CueEngine) (s : State) : State := { s with cue := f s.cue }

/-- The clock changed. -/
def clocked (f : Clock → Clock) (s : State) : State := { s with clock := f s.clock }

/-- Song 1 CUT. -/
def cut : Song := { song1 with running := .cut }

/-- A cue of song 1. -/
def ofSong1 (c : Cue) : Cue := { c with song := some 1 }

/-- A write of song 1 with these bars. -/
def songWrite (first last : Nat) : SongWrite :=
  { number := 1, title := [0x42#8], firstBar := first, lastBar := last, keyRole := none }

/-- A write of the segment of song 1 at this bar. -/
def segmentWrite (bar : Nat) : SegmentWrite :=
  { song := 1, startBar := bar, beatsPerBar := 4, beatUnit := 1, startTempo := 12000, endTempo := 12000, ramp := 0,
    subdivision := 1, follow := 1 }

theorem witness_SongAndSegmentWritesAreChecked_song :
    (house [barCue 1]).accepts ∧ (house [barCue 1]).busy = false ∧ songWriteOk (songWrite 1 2) = true ∧
      (songWrite 1 2).firstBar ≤ (songWrite 1 2).lastBar ∧
      (∀ g ∈ (house [barCue 1]).book.segments, g.song = 1 → 1 ≤ g.startBar ∧ g.startBar ≤ 2) ∧
      (∀ c ∈ (house [barCue 1]).book.cues, c.trigger = .bar 2 1 50 ∧ c.tempo = none) ∧
      (house [barCue 1]).currentSong ≠ some 1 ∧ (songWrite 2 1).lastBar < (songWrite 2 1).firstBar ∧
      songWriteOk (songWrite 2 1) = true ∧ 2 < (songWrite 3 4).firstBar ∧ songWriteOk (songWrite 3 4) = true ∧
      barCue 1 ∈ (house [barCue 1]).book.cues ∧ (barCue 1).song = some (songWrite 3 4).number ∧
      (playing 1 2 0#40 (stage [])).accepts ∧ (playing 1 2 0#40 (stage [])).currentSong = some (songWrite 1 2).number ∧
      (playing 1 2 0#40 (stage [])).book.song? (songWrite 1 2).number = some song1 ∧
      song1.lastBar ≠ (songWrite 1 2).lastBar ∧
      (∀ g ∈ (playing 1 2 0#40 (stage [])).book.segments, g.song = 1 → 1 ≤ g.startBar ∧ g.startBar ≤ 2) ∧
      (playing 1 2 0#40 (stage [])).book.cues = [] := by decide

theorem witness_SongAndSegmentWritesAreChecked_segment :
    ((house []).accepts ∧ (house []).busy = false ∧ segmentOf (segmentWrite 4) = some { seg1 with startBar := 4 } ∧
      State.reset.book.song? 1 = none ∧ (house []).book.song? 1 = some song1 ∧ song1.lastBar < 5 ∧
      segmentOf (segmentWrite 5) = some { seg1 with startBar := 5 } ∧
      (withSong { song1 with firstBar := 2 } (house [])).book.song? 1 = some { song1 with firstBar := 2 } ∧
      seg1.startBar < ({ song1 with firstBar := 2 } : Song).firstBar ∧
      (house []).book.segment? 1 4 = none ∧
      ((house []).book.segments.filter fun x => decide (x.song = 1)).length < 32 ∧
      (house []).book.segments.length < 512 ∧
      (32 ≤ ((withSegments (List.replicate 32 seg1) (house [])).book.segments.filter
        fun x => decide (x.song = 1)).length) ∧
      (withSegments (List.replicate 32 seg1) (house [])).book.segment? 1 4 = none) ∧
      (playing 1 2 0#40 (stage [])).altersTheBeatsUnderWay seg1 ∧
      ¬(house []).altersTheBeatsUnderWay { seg1 with startBar := 4 } :=
  ⟨by decide +kernel,
    ⟨by decide, { song := 1, bar := 1, beat := 1 }, seg1, by decide, by decide, rfl, .inl (by decide)⟩,
    fun h => h.1 (by decide)⟩

/-- A write of patch 5 of chair 2 with this many entries. -/
def patchWrite (entries : Nat) : PatchWrite :=
  { chair := 2, number := 5, base := List.replicate entries { device := 1, code := 2, value := 3 }, v1 := none,
    v2 := none, v3 := none }

/-- Patch 5 with this many entries. -/
def patchOfSize (entries : Nat) : Patch :=
  { patch5 with base := List.replicate entries { device := 1, code := 2, value := 3 }, refs := 0 }

/-- A book whose patches leave this one no room. -/
def fullPool : State :=
  withPatch { patch5 with number := 1, base := List.replicate 16384 { device := 0, code := 0, value := 0 } } (house [])

theorem witness_PatchWriteKeepsThePool :
    (house []).accepts ∧ (house []).busy = false ∧ patchOf (patchWrite 64) = some (patchOfSize 64) ∧
      (house []).book.patches.Pairwise (fun x y => ¬(x.chair = y.chair ∧ x.number = y.number)) ∧
      (house []).book.poolUse + (patchOfSize 64).size - (house []).book.oldSize (patchOfSize 64) ≤ 16384 ∧
      (house []).book.patch? 1 5 ≠ none ∧ fullPool.accepts ∧ fullPool.busy = false ∧
      fullPool.book.patches.Pairwise (fun x y => ¬(x.chair = y.chair ∧ x.number = y.number)) ∧
      fullPool.book.oldSize (patchOfSize 1) < (patchOfSize 1).size ∧
      16384 < fullPool.book.poolUse + (patchOfSize 1).size - fullPool.book.oldSize (patchOfSize 1) := by decide +kernel

/-- The write of cue 1 that sends patch 5 to chair 2. -/
def cueWrite1 : CueWrite :=
  { major := 1, minor := 0, song := some 1, trigger := .bar 2 1 50, mask := 7,
    actions := [{ chair := 2, patch := some 5, click := 2 }], tempo := none, vamp := none, text := none }

/-- The cue that it writes. -/
def cueWritten : Cue := { barCue 1 with actions := [{ chair := 1, patch := some 5, click := .unchanged }] }

/-- Every name of the cue is in a book that has song 1 and patch 5. -/
theorem written_named (b : Book) (hs : b.song? 1 ≠ none) (hp : b.patch? 1 5 ≠ none) : b.holdsNamed cueWritten :=
  { song := fun n h => by cases h; exact hs
    start := fun _ _ h => by cases h
    patches := fun a ha n h => by
      rcases List.mem_singleton.1 ha with rfl
      cases h
      exact hp }

theorem witness_CueWriteMovesTheCounts :
    ((house [goCue 1]).accepts ∧ (house [goCue 1]).busy = false ∧ (house [goCue 1]).cue.isOpen = false ∧
      cueOf cueWrite1 = some cueWritten ∧ (house [goCue 1]).book.cue? (num 1) ≠ none ∧
      (house []).book.cue? (num 1) = none ∧ (house []).book.cues.length < 1024) ∧
      (house [goCue 1]).book.holdsNamed cueWritten ∧ (house [goCue 1]).book.validCue cueWritten ∧
      ¬State.reset.book.holdsNamed cueWritten ∧
      ¬(withSong { song1 with firstBar := 3 } (house [])).book.validCue cueWritten :=
  ⟨by decide +kernel, written_named _ (by decide) (by decide),
    { chairs := by decide
      bar := fun _ _ _ h => by cases h; exact ⟨1, song1, rfl, by decide, by decide, by decide⟩
      start := fun _ _ h => by cases h
      mask := fun h => by cases h
      vamp := fun _ _ h => by cases h },
    fun h => h.song 1 rfl (by decide),
    fun h => by
      obtain ⟨n, r, hn, hr, hf, -⟩ := h.bar 2 1 50 rfl
      cases hn
      rw [show (withSong { song1 with firstBar := 3 } (house [])).book.song? 1 = some { song1 with firstBar := 3 } by
        decide] at hr
      cases hr
      exact absurd hf (by decide)⟩

/-- With the show open: cue 1 in STANDBY is locked to this trigger; cue 2, PENDING or absent, is free; song 1 may be CUT. -/
theorem witness_CueWriteMovesTheCounts_open :
    ((stage [goCue 1, goCue 2]).accepts ∧ (stage [goCue 1, goCue 2]).cue.isOpen = true ∧
      (stage [goCue 1, goCue 2]).book.cue? cueWritten.number ≠ none ∧
      (stage [goCue 1, goCue 2]).runState cueWritten.number = .standby ∧ cueWritten.trigger ≠ .go ∧
      (stage [goCue 2, goCue 1]).runState cueWritten.number = .pending ∧
      ((stage [goCue 2, goCue 1]).cue.entry? cueWritten.number).isSome = true ∧
      (stage []).book.cue? cueWritten.number = none ∧ (stage []).cue.entry? cueWritten.number = none ∧
      (stage []).cue.held ≠ some cueWritten.number ∧ (stage []).cue.lastFired = none ∧
      (cueing (fun e => { e with lastFired := some (num 2) }) (stage [])).cue.lastFired = some (num 2) ∧
      cueWritten.number.before (num 2) = true ∧ (goCue 1).trigger = .go ∧ (stage []).cue.standby = none) ∧
      (withSong cut (stage [])).book.ofCutSong cueWritten ∧ ¬(stage []).book.ofCutSong cueWritten :=
  ⟨by decide, ⟨1, cut, rfl, by decide, rfl⟩, fun ⟨n, r, hn, hr, hc⟩ => by
    cases hn
    rw [show (stage []).book.song? 1 = some song1 by decide] at hr
    cases hr
    cases hc⟩

/-- A write of chair 2's record. -/
def chairWrite (enabled : Nat) (trim : Int) : ChairWrite :=
  { chair := 2, label := [], enabled := enabled, trim := trim, subClicks := 1, goRights := 1, orientation := 0,
    placement := 1, overlay := 0 }

/-- The record that it writes. -/
def chairWritten (enabled : Bool) (trim : Int) : ChairRec :=
  { defaultChair 2 with label := [], enabled := enabled, trim := trim }

/-- A settings write with this failover time. -/
def settingsWrite (failover : Nat) : SettingsWrite :=
  { goGuard := 250, deadband := 150, maxStep := 300, band := 80, width := 1920, height := 1080, rate := 4,
    failover := failover, autoRevert := 0, houseSync := 1, touch := 24, deep := 64, hysteresis := 6 }

/-- Song 1 plays and its key role is 32. -/
def keyed : State := playing 1 2 0#40 (withSong { song1 with keyRole := some 32 } (stage []))

theorem witness_FixedRecordWritesSetOneRecord :
    ((house []).accepts ∧ (house []).busy = false ∧
      chairRecOf (chairWrite 0 6000) = some (1, chairWritten true 5000) ∧
      chairRecOf (chairWrite 1 0) = some (1, chairWritten false 0) ∧
      (house []).book.chairs[(1 : Chair)].enabled = true ∧
      (Dispatch.holdsAdHoc { Dispatch.initial with waiting := some .adHoc }) = true ∧
      (house []).patch[(1 : Chair)].holdsAdHoc = false ∧ roleOf 32 3 = some (31, .v3) ∧ keyed.accepts ∧
      keyed.busy = false ∧ keyed.cue.isOpen = true ∧
      keyed.currentSong.bind keyed.book.song? = some { song1 with keyRole := some 32 } ∧
      settingsOf (settingsWrite 2000) (house []).book.settings.faults =
        some { (house []).book.settings with width := 1920, height := 1080, failover := 1000 }) ∧
      ¬∃ r : Song, (house []).cue.isOpen = true ∧ (house []).currentSong.bind (house []).book.song? = some r ∧
        r.keyRole = some 32 :=
  ⟨by decide +kernel, fun ⟨_, h, _⟩ => by cases h⟩

theorem witness_WritesAreTakenWholeOrNotAtAll :
    (house []).accepts ∧ ∃ w : RecordWrite, Instr.recordWrite (.song (songWrite 1 2)) = .recordWrite w :=
  ⟨by decide, _, rfl⟩

theorem witness_ImageOperationKeepsTheHostOut :
    ((loading .installing State.reset).accepts ∧ (loading .installing State.reset).busy = true ∧
      (loading .installing State.reset).cue.isOpen = false ∧ RecordKey.settings = .settings) ∧
      ∃ w : RecordWrite, Instr.recordWrite (.song (songWrite 1 2)) = .recordWrite w :=
  ⟨by decide, _, rfl⟩

/-- A stage whose first cue is held. -/
def heldFirst (cues : List Cue) : State :=
  cueing (fun e => { e with held := cues.head?.map (·.number), standby := none, runs := cues.map fun c => waits c.number.major })
    (stage cues)

theorem witness_RetiredRecordsAreGone :
    (house [goCue 1]).accepts ∧ (house [goCue 1]).busy = false ∧ (house []).book.song? 1 = some song1 ∧
      (house []).currentSong ≠ some 1 ∧ song1.cueCount = 0 ∧
      ((withSong { song1 with cueCount := 1 } (house [])).book.song? 1).map (·.cueCount) = some 1 ∧
      ((withPatch { patch5 with refs := 0 } (house [])).book.patch? 1 5).map (·.refs) = some 0 ∧
      (house []).book.patch? 1 5 = some patch5 ∧ patch5.refs ≠ 0 ∧
      (house [goCue 1]).cue.isOpen = false ∧ (num 1).inRange = true ∧
      (house [goCue 1]).book.cue? (num 1) = some (goCue 1) ∧
      (house []).book.segment? 1 1 = some seg1 ∧ keyOk (.segment 1 1) = true ∧
      (playing 1 2 0#40 (stage [])).currentSong = some 1 ∧
      (playing 1 2 0#40 (stage [])).clock.pos = some { song := 1, bar := 1, beat := 1 } ∧
      ((playing 1 2 0#40 (stage [])).book.governing? 1 1).map (·.startBar) = some 1 ∧
      (playing 1 2 0#40 (stage [])).book.song? 1 = some song1 ∧ song1.firstBar = 1 ∧
      (stage [goCue 1]).cue.isOpen = true ∧ (stage [goCue 1]).runState (num 1) = .standby ∧
      (heldFirst [followCue 1]).cue.isOpen = true ∧ (heldFirst [followCue 1]).runState (num 1) = .pending ∧
      (heldFirst [followCue 1]).cue.held = some (num 1) := by decide +kernel

theorem witness_CursorWalksTheTableAndClearEmptiesIt :
    (house []).accepts ∧ (house []).busy = false ∧ keyOk (.song 64) = true ∧ keyOk (.song 65) = false ∧
      (house []).record? (.song 1) = some (.song song1) ∧ (house []).record? (.song 64) = none ∧
      (house []).tableRecords (house []).book.cursorTable = [] ++ ((1, 0), .song song1) :: [] ∧
      atOrBefore (house []).book.cursorPos (1, 0) = true ∧
      (∀ x ∈ State.reset.tableRecords State.reset.book.cursorTable,
        atOrBefore State.reset.book.cursorPos x.1 = false) ∧
      (stage []).accepts ∧ (stage []).cue.isOpen = true ∧ (house []).cue.isOpen = false := by decide +kernel

/-- Cue 1 of song 1 is FIRING, marked to return as given. -/
def marked (m : ReturnMark) (s : State) : State :=
  cueing (fun e => { e with
    standby := none, runs := [{ cue := num 1, state := .firing, mark := some m, failed := 0 }] }) s

theorem witness_SongCutPassesItsCues :
    (stage [ofSong1 (goCue 1), goCue 2]).accepts ∧ (stage [ofSong1 (goCue 1), goCue 2]).busy = false ∧
      (stage [ofSong1 (goCue 1), goCue 2]).book.song? 1 = some song1 ∧
      (stage [ofSong1 (goCue 1), goCue 2]).currentSong ≠ some 1 ∧
      (stage [ofSong1 (goCue 1), goCue 2]).cue.isOpen = true ∧ song1.running = .playing ∧
      (stage [ofSong1 (goCue 1), goCue 2]).book.cues.Pairwise (fun x y => x.number ≠ y.number) ∧
      (∀ c ∈ (stage [ofSong1 (goCue 1), goCue 2]).book.cues,
        ((stage [ofSong1 (goCue 1), goCue 2]).cue.entry? c.number).isSome = true) ∧
      (stage [ofSong1 (goCue 1), goCue 2]).cue.standby = some (num 1) ∧
      (stage [ofSong1 (goCue 1), goCue 2]).runState (num 1) = .standby ∧
      (playing 1 2 0#40 (stage [])).currentSong = some 1 ∧ (house []).cue.isOpen = false ∧
      (withSong cut (house [])).book.song? 1 = some cut ∧ cut.running = .cut ∧
      (marked .passed (withSong cut (stage [ofSong1 (goCue 1)]))).cue.entry? (num 1) =
        some { cue := num 1, state := .firing, mark := some .passed, failed := 0 } ∧
      (marked .passed (withSong cut (stage [ofSong1 (goCue 1)]))).cue.isOpen = true ∧
      (marked .passed (withSong cut (stage [ofSong1 (goCue 1)]))).cue.standby = none := by decide +kernel

/-! ### The Image Loader -/

/-- The 30 bytes of the header of an empty book with this version, these fixed counts and this body length. -/
def headerBytes (version settings chairs roles length : Nat) : List Byte :=
  [0x46#8, 0x57#8, 0x42#8, 0x4B#8] ++ bigEndian 2 version ++ bigEndian 2 0 ++ bigEndian 2 0 ++ bigEndian 2 0 ++
    bigEndian 2 0 ++ bigEndian 2 0 ++ bigEndian 2 settings ++ bigEndian 2 chairs ++ bigEndian 2 roles ++
    bigEndian 4 length ++ bigEndian 4 0

theorem witness_LoadStartsFromItsHeader :
    (house []).accepts ∧ 3 < 4 ∧ (stage []).accepts ∧ (stage []).cue.isOpen = true ∧ (house []).cue.isOpen = false ∧
      (house []).busy = false ∧ (loading .readingHeader State.reset).resetHeld = false ∧
      (loading .readingHeader State.reset).cue.isOpen = false ∧
      (loading .readingHeader State.reset).loader.report.state = .readingHeader ∧
      ([] : List Byte).take 4 ≠ [0x46#8, 0x57#8, 0x42#8, 0x4B#8] ∧ 2 < 65536 ∧ 1048547 < 4294967296 ∧
      headerBytes 2 1 16 32 0 = [0x46#8, 0x57#8, 0x42#8, 0x4B#8] ++ bigEndian 2 2 ++ bigEndian 2 0 ++ bigEndian 2 0 ++
        bigEndian 2 0 ++ bigEndian 2 0 ++ bigEndian 2 0 ++ bigEndian 2 1 ++ bigEndian 2 16 ++ bigEndian 2 32 ++
        bigEndian 4 0 ++ bigEndian 4 (0#32 : BitVec 32).toNat := by decide +kernel

/-- R177, R179: the header that a save of an empty book writes passes; a wrong version, a wrong fixed count and a body too
long do not. -/
theorem test_headers :
    Book.empty.headerBytes 0 0#32 = headerBytes 1 1 16 32 0 ∧
      [headerBytes 1 1 16 32 0, headerBytes 2 1 16 32 0, headerBytes 1 2 16 32 0, headerBytes 1 1 15 32 0,
        headerBytes 1 1 16 33 0, headerBytes 1 1 16 32 1048547].map
          (fun l => (after (.imageHeaderRead l) (loading .readingHeader State.reset)).loader.report.result) =
        [none, some .badHeader, some .badHeader, some .badHeader, some .badHeader, some .tooLarge] := by decide +kernel

/-- A load that installs the body of this header. -/
def installing (h : ImageHeader) : State :=
  let s := loading .installing State.reset
  { s with loader := { s.loader with header := some h } }

/-- An idle loader and port on an empty book. -/
def unloaded (h : ImageHeader) : State := { installing h with loader := Loader.initial, port := Port.initial }

/-- A role record of this key breaks no structure of a body of 5 bytes, and one of 4 bytes has no room for it. -/
theorem role_structure (key : Byte) :
    ¬(installing (header 5)).breaksStructure (header 5) .roles 2 [0x01#8, key] ∧
      (installing (header 4)).breaksStructure (header 4) .roles 2 [0x01#8, key] := by
  refine ⟨?_, .inr (.inr (.inl (by decide)))⟩
  rintro (h | h | h | ⟨h, -⟩ | ⟨h, -⟩ | ⟨h, -⟩ | ⟨h, -⟩)
  all_goals exact absurd h (by decide)

theorem witness_RecordsAreInstalledOrEndTheLoad :
    ((installing (header 5)).resetHeld = false ∧ (installing (header 5)).cue.isOpen = false ∧
      (installing (header 5)).loader.report.state = .installing ∧
      (installing (header 5)).loader.header = some (header 5) ∧ (installing (header 5)).loader.bodyPos < 5 ∧
      [0x01#8, 0x00#8].length = (2#16 : BitVec 16).toNat ∧ (6#8 : Byte).toNat = tableCode .roles ∧
      7 < (8#8 : Byte).toNat ∧ wellFormed (.recordWrite (.role 1 0)) = true ∧ Table.roles ≠ .songs ∧
      Table.roles ≠ .settings ∧ writeTable (.role 1 0) = .roles ∧ [0x01#8, 0x00#8] = putFields (.role 1 0) ∧
      (after (.recordWrite (.role 1 0)) (unloaded (header 5))).port.owed = some (plain .ok) ∧
      (after (.recordWrite (.role 1 9)) (unloaded (header 5))).port.owed = some (plain .outOfRange) ∧
      (header 0).bodyLength ≤ (installing (header 0)).loader.bodyPos ∧
      (installing (header 0)).loader.metOf .roles < (header 0).count .roles ∧
      (∀ table ∈ [Table.songs, .segments, .patches, .cues, .chairs, .roles, .settings],
        ({ header 0 with settings := 0, chairs := 0, roles := 0 } : ImageHeader).count table ≤
          (installing (header 0)).loader.metOf table)) ∧
      ¬(installing (header 5)).breaksStructure (header 5) .roles 2 [0x01#8, 0x00#8] ∧
      (installing (header 4)).breaksStructure (header 4) .roles 2 [0x01#8, 0x00#8] ∧
      ∃ u : State, exec (.recordWrite (.role 1 0)) (unloaded (header 5)) = .next u :=
  ⟨by decide +kernel, (role_structure _).1, (role_structure _).2, _, rfl⟩

/-- The header of a body with one song of 14 bytes. -/
def songHeader : ImageHeader := { header 14 with songs := 1 }

theorem witness_RecordsAreInstalledOrEndTheLoad_song :
    (wellFormed (.recordWrite (.song (songWrite 1 2))) = true ∧ (1#8 : Byte).toNat = tableCode .songs ∧
      (putFields (.song (songWrite 1 2)) ++ [1#8]).length = (9#16 : BitVec 16).toNat ∧ (1#8 : Byte).toNat ≤ 1 ∧
      (putFields (.song (songWrite 1 2)) ++ [2#8]).length = (9#16 : BitVec 16).toNat ∧ 1 < (2#8 : Byte).toNat ∧
      (after (.recordWrite (.song (songWrite 1 2))) (unloaded songHeader)).port.owed = some (plain .ok)) ∧
      ∀ flag : Byte,
        ¬(installing songHeader).breaksStructure songHeader .songs 9 (putFields (.song (songWrite 1 2)) ++ [flag]) := by
  refine ⟨by decide +kernel, fun flag => ?_⟩
  rintro (h | h | h | ⟨-, n, rest, -, h⟩ | ⟨h, -⟩ | ⟨h, -⟩ | ⟨h, -⟩)
  case inr.inr.inr.inl => exact h rfl
  all_goals exact absurd h (by decide)

/-- The class and action bytes of 70 sources at class 1 and action 1. -/
def faultPairs : List (Byte × Byte) := List.replicate 70 (1#8, 1#8)

/-- A role record of one byte is short, one of three is long, and each breaks no structure. -/
theorem witness_RecordsAreInstalledOrEndTheLoad_length :
    EncodesRecord .roles [0x01#8, 0x00#8] ∧ EncodesRecord .songs (putFields (.song (songWrite 1 2)) ++ [1#8]) ∧
      EncodesRecord .settings (putFields (.settings (settingsWrite 200)) ++ faultPairs.flatMap fun p => [p.1, p.2]) ∧
      [0x01#8, 0x00#8, 0x07#8] = [0x01#8, 0x00#8] ++ [0x07#8] ∧ [0x01#8, 0x00#8] = [0x01#8] ++ [0x00#8] ∧
      ¬(installing (header 6)).breaksStructure (header 6) .roles 3 [0x01#8, 0x00#8, 0x07#8] ∧
      ¬(installing (header 6)).breaksStructure (header 6) .roles 1 [0x01#8] := by
  refine ⟨.fields (.role 1 0) (by decide) (by decide) (by decide), .song _ _ (by decide), .settings _ _ (by decide) (by decide),
    rfl, rfl, ?_, ?_⟩
  all_goals
    rintro (h | h | h | ⟨h, -⟩ | ⟨h, -⟩ | ⟨h, -⟩ | ⟨h, -⟩)
    all_goals exact absurd h (by decide)

/-- R180: a song record that ends before its flag is BAD_LENGTH, one whose bars are reversed INVALID, and one whose flag is
neither IN nor CUT OUT_OF_RANGE. -/
theorem test_refused_song_records :
    (after (.imageRecordInstall 1#8 8#16 (putFields (.song (songWrite 1 2)))) (installing songHeader)).loader.report.failed =
        some { table := .songs, position := 1, status := .badLength } ∧
      (after (.imageRecordInstall 1#8 9#16 (putFields (.song (songWrite 2 1)) ++ [1#8]))
        (installing songHeader)).loader.report.failed = some { table := .songs, position := 1, status := .invalid } ∧
      (after (.imageRecordInstall 1#8 9#16 (putFields (.song (songWrite 1 2)) ++ [2#8]))
        (installing songHeader)).loader.report.failed =
        some { table := .songs, position := 1, status := .outOfRange } := by
  decide +kernel

theorem witness_RecordsAreInstalledOrEndTheLoad_settings :
    wellFormed (.recordWrite (.settings (settingsWrite 200))) = true ∧ (7#8 : Byte).toNat = tableCode .settings ∧
      faultPairs.length = 70 ∧
      (settingsOf (settingsWrite 200) (installing (header 200)).book.settings.faults).isSome = true ∧
      (∀ i : Source, faultPairs[i.val]? = some (1#8, 1#8)) ∧ windowClassOf (1#8 : Byte).toNat = some .w25 ∧
      faultActionOf (1#8 : Byte).toNat = some .report ∧ windowClassOf (4#8 : Byte).toNat = none ∧
      (4#8, 1#8) ∈ (4#8, 1#8) :: faultPairs.tail ∧ ((4#8, 1#8) :: faultPairs.tail).length = 70 ∧
      settingsOf { settingsWrite 200 with band := 251 } (installing (header 200)).book.settings.faults = none := by
  decide +kernel

/-- A save at this point. -/
def saving (st : LoaderState) (done total : Nat) (s : State) : State :=
  { s with loader := { Loader.initial with
      report := { Loader.initial.report with
        state := st, op := some .save, slot := some 0, progress := some { done := done, total := total } }
      eraseBy := some 30000000, programBy := some 10000 } }

theorem witness_SaveWritesTheBookAndItsHeader :
    (house []).accepts ∧ (house []).cue.isOpen = false ∧ (house []).busy = false ∧
      (saving .erasing 0 52 (house [])).resetHeld = false ∧
      (saving .erasing 0 52 (house [])).loader.report.state = .erasing ∧
      (atTick 0 30000000 (saving .erasing 0 52 (house []))).loader.eraseBy = some 30000000 ∧
      30000000 ≤ (atTick 0 30000000 (saving .erasing 0 52 (house []))).time.micros ∧
      (saving .writing 0 52 (house [])).loader.report.state = .writing ∧
      (saving .writing 0 52 (house [])).loader.report.progress = some { done := 0, total := 52 } ∧
      ((house []).book.bodyRecords[0]?).isSome = true ∧ (house []).book.bodyRecords[0]? ≠ some [] ∧
      (saving .writing 52 52 (house [])).loader.report.progress = some { done := 52, total := 52 } ∧
      (saving .writing 0 52 (house [])).loader.programBy = some 10000 := by decide +kernel

/-- A slot of another length, or with a byte that is not FFh, is not blank. -/
theorem witness_SaveWritesTheBookAndItsHeader_slot : ([] : List Byte) ≠ List.replicate 1048576 0xFF#8 := by
  intro h
  have := congrArg List.length h
  rw [List.length_replicate] at this
  cases this

/-! ### The show and its cues -/

/-- A closed show with these cues and song 1 CUT. -/
def cutHouse (cues : List Cue) : State := withSong cut (house cues)

/-- The stop line stands as given. -/
def withLine (line : Bool) (s : State) : State := { s with stop := { s.stop with line := line } }

/-- The stop state and held sources. -/
def stopped (st : StopState) (x : SourceSet) (s : State) : State := { s with stop := { s.stop with state := st, held := x } }

/-- Cues numbered 1 and 2 fire plainly on a stage: no patch, no clock action, and no FOLLOW cue next. -/
theorem plain_stage (c d : Cue) (s : State) (ho : s.cue.isOpen = true) (hb : s.book.cue? c.number = some c)
    (he : (s.cue.entry? c.number).isSome = true) (hs : s.slotHolds c.number = false) (ha : c.actions = [])
    (ht : c.tempo = none) (hv : c.vamp = none) (hn : s.cueAfter c.number = some d ∨ s.cueAfter c.number = none)
    (hd : d.isFollow = false) : s.firesPlainly c.number c :=
  { isOpen := ho, record := hb, entry := he, slots := hs, patches := by simp [ha], chairs := by simp [ha],
    tempo := ht, vamp := hv,
    next := fun x hx => by
      rcases hn with h | h
      · rw [h] at hx; cases hx; exact hd
      · rw [h] at hx; cases hx }

theorem witness_ShowOpenStartsTheShow :
    (stage []).accepts ∧ (stage []).cue.isOpen = true ∧ (loading .installing State.reset).accepts ∧
      (loading .installing State.reset).cue.isOpen = false ∧ (loading .installing State.reset).busy = true ∧
      (cutHouse [barCue 1, goCue 2]).accepts ∧ (cutHouse [barCue 1, goCue 2]).cue.isOpen = false ∧
      (cutHouse [barCue 1, goCue 2]).busy = false ∧
      ((cutHouse [barCue 1, goCue 2]).clock.state = .parked ∧ (cutHouse [barCue 1, goCue 2]).stop.state = .clear) ∧
      (cutHouse [barCue 1, goCue 2]).book.cues.Pairwise (fun x y => x.number ≠ y.number) ∧
      (cutHouse [barCue 1, goCue 2]).stop.line = false ∧ (withLine true (house [])).stop.line = true ∧
      (withLine true (house [])).accepts := by decide +kernel

theorem witness_ShowCloseEndsTheShow :
    (house []).accepts ∧ (house []).cue.isOpen = false ∧ (playing 1 2 0#40 (stage [goCue 1])).accepts ∧
      (playing 1 2 0#40 (stage [goCue 1])).cue.isOpen = true := by decide

theorem witness_GoIsIgnoredByItsSteps :
    (house []).accepts ∧ (house []).cue.isOpen = false ∧ (stopped .countIn SourceSet.empty (stage [])).accepts ∧
      (stopped .countIn SourceSet.empty (stage [])).cue.isOpen = true ∧
      (stopped .countIn SourceSet.empty (stage [])).stop.state ≠ .clear ∧
      ({ stage [] with cue := { (stage []).cue with guard := some 0#32 } } : State).cue.guard ≠ none ∧
      (stage []).stop.state = .clear ∧ (stage []).cue.guard = none ∧ (stage []).cue.held = none ∧
      (stage []).cue.standby = none ∧
      (stage [{ goCue 1 with mask := { pad := true, control := false, chair := true } }]).cue.standby = some (num 1) ∧
      ((stage [{ goCue 1 with mask := { pad := true, control := false, chair := true } }]).book.cue? (num 1)).map
        (·.mask.control) = some false := by decide

theorem witness_GoFiresTheStandbyCue :
    ((stage [goCue 1, goCue 2]).accepts ∧ (stage [goCue 1, goCue 2]).stop.state = .clear ∧
      (stage [goCue 1, goCue 2]).cue.guard = none ∧ (stage [goCue 1, goCue 2]).cue.held = none ∧
      (stage [goCue 1, goCue 2]).cue.standby = some (num 1) ∧ (goCue 1).trigger = .go ∧
      (goCue 1).mask.control = true ∧
      (stage [goCue 1, goCue 2]).book.cues.Pairwise (fun x y => x.number ≠ y.number) ∧
      (∀ d ∈ (stage [goCue 1, goCue 2]).book.cues, ((stage [goCue 1, goCue 2]).cue.entry? d.number).isSome = true)) ∧
      (stage [goCue 1, goCue 2]).firesPlainly (num 1) (goCue 1) :=
  ⟨by decide, plain_stage (goCue 1) (goCue 2) _ (by decide) (by decide) (by decide) (by decide +kernel) rfl rfl rfl
    (.inl (by decide)) (by decide)⟩

theorem witness_GoFiresTheStandbyCue_held :
    ((heldFirst [followCue 1]).accepts ∧ (heldFirst [followCue 1]).stop.state = .clear ∧
      (heldFirst [followCue 1]).cue.guard = none ∧ (heldFirst [followCue 1]).cue.held = some (num 1)) ∧
      (heldFirst [followCue 1]).firesPlainly (num 1) (followCue 1) :=
  ⟨by decide, plain_stage (followCue 1) (goCue 2) _ (by decide) (by decide) (by decide) (by decide +kernel) rfl rfl rfl
    (.inr (by decide)) (by decide)⟩

theorem witness_GoSendsThePatchOfItsCue :
    (locked2 (stage [patchCue 1])).accepts ∧ (locked2 (stage [patchCue 1])).cue.isOpen = true ∧
      (locked2 (stage [patchCue 1])).stop.state = .clear ∧ (locked2 (stage [patchCue 1])).cue.guard = none ∧
      (locked2 (stage [patchCue 1])).cue.held = none ∧ (locked2 (stage [patchCue 1])).cue.standby = some (num 1) ∧
      (locked2 (stage [patchCue 1])).book.cue? (num 1) = some (patchCue 1) ∧
      ((locked2 (stage [patchCue 1])).cue.entry? (num 1)).isSome = true ∧
      (locked2 (stage [patchCue 1])).book.patch? 1 5 = some patch5 ∧
      (locked2 (stage [patchCue 1])).book.chairs[(1 : Chair)].enabled = true ∧
      (locked2 (stage [patchCue 1])).links[(1 : Chair)].state = .locked ∧
      (locked2 (stage [patchCue 1])).patch[(1 : Chair)] = Dispatch.initial ∧
      (locked2 (stage [patchCue 1])).cueAfter (num 1) = none ∧ Dispatch.initial.flight = none ∧
      Dispatch.initial.waiting = none ∧
      Dispatch.initial.confirmed ≠ .patch { number := 5, variant := .base } ∧
      (locked2 (stage [ofSong1 (patchCue 1)])).accepts ∧
      (locked2 (stage [ofSong1 (patchCue 1)])).book.cue? (num 1) = some (ofSong1 (patchCue 1)) ∧
      (ofSong1 (patchCue 1)).song = some 1 ∧ (locked2 (stage [ofSong1 (patchCue 1)])).book.song? 1 = some song1 ∧
      song1.keyRole = none := by decide +kernel

theorem witness_StandbyIsSetAndStepped_set :
    (house []).accepts ∧ (house []).cue.isOpen = false ∧ (stage [goCue 1, goCue 999]).accepts ∧
      (stage [goCue 1, goCue 999]).cue.isOpen = true ∧ 999 < 1000 ∧
      (stage [goCue 1, goCue 999]).book.cue? (num 2) = none ∧
      (stage [goCue 1, goCue 999]).book.cue? (num 999) = some (goCue 999) ∧
      (stage [goCue 1, goCue 999]).cue.standby = some (num 1) ∧
      (stage [goCue 1, goCue 999]).runState (num 999) = .pending ∧
      ((stage [goCue 1, goCue 999]).cue.entry? (num 999)).isSome = true ∧
      (stage [goCue 1, goCue 999]).runState (num 1) = .standby ∧
      ¬((barCue 2).trigger = .go ∧ (stage [goCue 1, barCue 2]).runState (num 2) = .pending) := by decide

theorem witness_StandbyIsSetAndStepped_step :
    (stage [goCue 1, goCue 2]).accepts ∧ (stage [goCue 1, goCue 2]).cue.isOpen = true ∧
      ((stage [goCue 1, goCue 2]).pendingGo.filter fun m => (num 1).before m).head? = some (num 2) ∧
      ((stage [goCue 1, goCue 2]).pendingGo.filter fun m => m.before (num 1)).getLast? = none ∧
      (stage [goCue 1, goCue 2]).cue.held ≠ some (num 2) ∧
      ((stage [goCue 1, goCue 2]).cue.entry? (num 2)).isSome = true ∧
      (stage [goCue 1, goCue 2]).runState (num 1) = .standby ∧ (house []).cue.isOpen = false ∧
      ({ stage [goCue 1, goCue 2] with cue := { (stage [goCue 1, goCue 2]).cue with
        standby := none, runs := [waits 1, waits 2] } } : State).pendingGo.getLast? = some (num 2) := by decide

/-- A held trigger of cue 2 at bar 2, beat 1. -/
def trigger2 : BarTrigger := { cue := num 2, tick := 10#32, pos := { song := 1, bar := 2, beat := 1 }, lastOfBar := false }

/-- The clock plays song 1 towards bar 2 with the trigger held. -/
def triggered (now : Nat) : State :=
  let s := atTick now 0 (playing 2 1 3840#40 (stage [goCue 1, barCue 2]))
  { s with cue := { s.cue with triggers := [trigger2] } }

/-- The timer of follow cue 2 runs. -/
def timed (now : Nat) : State :=
  let s := atTick now 0 (stage [goCue 1, followCue 2])
  { s with cue := { s.cue with timers := [{ cue := num 2, expiry := 10#32 }] } }

theorem witness_TimersFireTheirCues :
    ((triggered 10).resetHeld = false ∧ (triggered 10).cue.triggers = trigger2 :: [] ∧
      tickReached (triggered 9).time.tick trigger2.tick = false ∧
      tickReached (triggered 10).time.tick trigger2.tick = true ∧
      (triggered 10).runState (num 2) = .pending ∧
      (triggered 10).cue.held ≠ some (num 2) ∧ (triggered 10).currentSong = some 1 ∧ (barCue 2).song = some 1 ∧
      (barCue 2).trigger = .bar 2 1 50 ∧
      (timed 10).cue.timers = { cue := num 2, expiry := 10#32 } :: [] ∧
      tickReached (timed 10).time.tick 10#32 = true ∧ tickReached (timed 9).time.tick 10#32 = false ∧
      (timed 10).stop.state ≠ .stopped ∧ (timed 10).runState (num 2) = .pending ∧
      (timed 10).cue.held ≠ some (num 2) ∧ (followCue 2).trigger = .follow 1000 ∧
      (stopped .stopped SourceSet.empty (timed 10)).stop.state = .stopped ∧
      (cueing (fun e => { e with guard := some 0#32 }) (stage [])).cue.guard = some 0#32) ∧
      (triggered 10).firesPlainly (num 2) (barCue 2) ∧ (timed 10).firesPlainly (num 2) (followCue 2) :=
  ⟨by decide,
    plain_stage (barCue 2) (goCue 1) _ (by decide) (by decide) (by decide) (by decide +kernel) rfl rfl rfl
      (.inr (by decide)) (by decide),
    plain_stage (followCue 2) (goCue 1) _ (by decide) (by decide) (by decide) (by decide +kernel) rfl rfl rfl
      (.inr (by decide)) (by decide)⟩

/-- A GO fires the standby cue `n` of a stage that is clear. -/
theorem go_fires (n : CueNumber) (c : Cue) (s : State) (hp : s.port.state ≠ .working) (hs : s.stop.state = .clear)
    (hg : s.cue.guard = none) (hh : s.cue.held = none) (hb : s.cue.standby = some n) (ht : c.trigger = .go)
    (hm : c.mask.control = true) : s.firesBy .go n c :=
  .inl ⟨rfl, hp, hs, hg, .inr ⟨hh, hb, ht, hm⟩⟩

/-- A cue with no station action, PENDING or standing by, fires with no patch. -/
theorem bare_stage (c : Cue) (s : State) (ho : s.cue.isOpen = true) (hb : s.book.cue? c.number = some c)
    (he : (s.cue.entry? c.number).isSome = true) (hs : s.slotHolds c.number = false) (ha : c.actions = []) :
    s.firesNoPatch c.number c :=
  { isOpen := ho, record := hb, entry := he, slots := hs, patches := by simp [ha], chairs := by simp [ha] }

/-- Cue 1 stands by before a FOLLOW cue 2 of this delay, with these timers. -/
def beforeFollow (delay : Nat) (timers : List FollowTimer) : State :=
  cueing (fun e => { e with timers := timers }) (stage [goCue 1, { goCue 2 with trigger := .follow delay }])

/-- Eight timers of cue 3. -/
def eightTimers : List FollowTimer := List.replicate 8 { cue := num 3, expiry := 10#32 }

theorem witness_TimersFireTheirCues_follow (delay : Nat) (timers : List FollowTimer)
    (h : (delay = 1000 ∧ timers = []) ∨ (delay = 0 ∧ timers = []) ∨ (delay = 1000 ∧ timers = eightTimers)) :
    ((beforeFollow delay timers).resetHeld = false ∧ (goCue 1).tempo = none ∧ (goCue 1).vamp = none ∧
      (beforeFollow delay timers).cueAfter (num 1) = some { goCue 2 with trigger := .follow delay } ∧
      (beforeFollow delay timers).runState (num 2) = .pending ∧
      (beforeFollow delay timers).book.cues.Pairwise (fun x y => x.number ≠ y.number) ∧
      (∀ x ∈ (beforeFollow delay timers).cue.timers, ∀ e ∈ (beforeFollow delay timers).book.cues,
        e.number = x.cue → e.trigger ≠ .go) ∧
      ((0 < delay ∧ ((beforeFollow delay timers).otherTimers .go).length < 8) ∨ delay = 0 ∨
        (8 ≤ ((beforeFollow delay timers).otherTimers .go).length ∧
          ∀ x ∈ (beforeFollow delay timers).otherTimers .go, x.cue ≠ num 2))) ∧
      (beforeFollow delay timers).firesBy .go (num 1) (goCue 1) ∧
      (beforeFollow delay timers).firesNoPatch (num 1) (goCue 1) ∧
      (beforeFollow delay timers).firesPlainly (num 2) { goCue 2 with trigger := .follow delay } := by
  rcases h with ⟨rfl, rfl⟩ | ⟨rfl, rfl⟩ | ⟨rfl, rfl⟩
  all_goals
    refine ⟨by decide +kernel, go_fires _ _ _ ?_ ?_ ?_ ?_ ?_ rfl rfl, bare_stage (goCue 1) _ ?_ ?_ ?_ ?_ rfl,
      plain_stage { goCue 2 with trigger := .follow _ } (goCue 1) _ ?_ ?_ ?_ ?_ rfl rfl rfl (.inr ?_) rfl⟩
    all_goals decide +kernel

/-! ### The clock and the clicks -/

/-- A beat that crosses into no other segment takes the mapped tempo with no adjustment. -/
theorem times_mapped (s : State) (b : NextBeat) (old : SongPos) (hp : s.clock.pos = some old)
    (hs : s.book.segmentStart old = s.book.segmentStart b.pos) (ha : s.clock.adjust = none) :
    s.timesBeat b (s.book.mappedTempo s.clock.override b.pos)
      (b.sub + BitVec.ofNat 40 ((73728000000 + s.book.mappedTempo s.clock.override b.pos / 2) /
        s.book.mappedTempo s.clock.override b.pos)) :=
  { crossing := fun o h hne => by rw [hp] at h; cases h; exact absurd hs hne
    mapped := fun _ _ => rfl
    adjusted := fun _ f _ _ h => by rw [ha] at h; cases h
    interval := rfl }

/-- With no BAR cue in the book no trigger is made. -/
theorem none_announced (s : State) (h : ∀ d ∈ s.book.cues, d.isBar = false) (v : Option Vamp) (pos : SongPos)
    (tick : Tick) (d : Cue) (x : BarTrigger) : ¬s.announces v pos tick d x := by
  intro a
  obtain ⟨beat, lead, ht, -⟩ := a.falls
  have := h d a.present
  rw [Cue.isBar, ht] at this
  cases this

/-- Bar 1, beat 4 is due at tick 1, with a BAR cue on bar 2, beat 1. -/
def beatDue : State := atTick 1 0 (playing 1 4 256#40 (stage [goCue 1, barCue 2]))

/-- The beat that is due. -/
def due4 : NextBeat := { pos := { song := 1, bar := 1, beat := 4 }, sub := 256#40 }

/-- The trigger that its successor makes, 50 ms (2400 ticks) before tick 24001. -/
def made2 : BarTrigger := { cue := num 2, tick := 21601#32, pos := { song := 1, bar := 2, beat := 1 }, lastOfBar := false }

theorem witness_BeatIsProducedInItsTurn :
    (beatDue.resetHeld = false ∧ beatDue.cue.isOpen = true ∧ beatDue.clock.state = .playing ∧
      beatDue.clock.next = some due4 ∧ tickReached (atTick 0 0 beatDue).time.tick (tickOfSub due4.sub) = false ∧
      tickReached beatDue.time.tick (tickOfSub due4.sub) = true ∧ beatDue.clock.holdDue = false ∧
      beatDue.book.mappedTempo beatDue.clock.override due4.pos = 12000 ∧
      tickReached beatDue.time.tick made2.tick = false ∧
      (clocked (fun k => { k with holdDue := true }) beatDue).clock.holdDue = true) ∧
      beatDue.timesBeat due4 12000 6144256#40 ∧
      beatDue.book.Follows due4.pos (beatDue.producing due4 12000).vamp (some { song := 1, bar := 2, beat := 1 }) none ∧
      beatDue.announces none { song := 1, bar := 2, beat := 1 } (tickOfSub 6144256#40) (barCue 2) made2 ∧
      ∀ (d : Cue) (x : BarTrigger),
        beatDue.announces none { song := 1, bar := 2, beat := 1 } (tickOfSub 6144256#40) d x →
        tickReached beatDue.time.tick x.tick = false := by
  refine ⟨by decide +kernel,
    times_mapped beatDue due4 { song := 1, bar := 1, beat := 1 } (by decide) (by decide +kernel) (by decide),
    .nextBar due4.pos none song1 (by decide +kernel) (fun _ h => by cases h) (by decide) (by decide),
    { present := by decide
      pending := by decide
      firstPass := fun _ h => by cases h
      falls := ⟨1, 50, rfl, rfl, .inl rfl, by decide +kernel⟩ }, ?_⟩
  intro d x h
  have hd : d = goCue 1 ∨ d = barCue 2 := by
    have := h.present
    simpa [beatDue, atTick, playing, stage, house] using this
  obtain ⟨beat, lead, ht, -, -, rfl⟩ := h.falls
  rcases hd with rfl | rfl
  · cases ht
  · cases ht
    decide +kernel

/-- R58, R77, R80: with two clicks to a beat the sub-click and the next beat join the due list, each chair's part with its
send tick; a chair whose advance reaches back past the tick has its click at once if it receives clicks, and not else. -/
theorem test_clicks_handed_over :
    let s := onClicks 2 (fun k => { k with advance := 720 }) (onClicks 1 (fun k => { k with advance := 65 })
      (withSegments [{ seg1 with subdivision := 2 }] beatDue))
    (after .beatProduction s).due.map (fun i => (i.click.cls, i.click.bar, i.click.beat, i.click.tick, i.parts[1].send,
        i.parts[1].state)) =
      [(.sub, 1, 4, 12001#32, 11936#32, .waiting), (.downbeat, 2, 1, 24001#32, 23936#32, .waiting)] ∧
    (after .go (onClicks 1 (fun k => { k with advance := 481 }) (locked2
      (stage [{ goCue 1 with tempo := some (.start 1 1) }])))).due.map (fun i => (i.parts[0].state, i.parts[1].state)) =
        [(.waiting, .handed)] ∧
    (after .go (onClicks 1 (fun k => { k with advance := 481 })
      (stage [{ goCue 1 with tempo := some (.start 1 1) }]))).due.map (fun i => (i.parts[0].state, i.parts[1].state)) =
        [(.waiting, .done)] := by decide +kernel

/-- The first beat of a new segment drops what is adjusted. -/
theorem witness_BeatIsProducedInItsTurn_crossing :
    Book.segmentStart (withSegments [seg1, { seg1 with startBar := 2 }] (house [])).book { song := 1, bar := 1, beat := 1 } ≠
      Book.segmentStart (withSegments [seg1, { seg1 with startBar := 2 }] (house [])).book
        { song := 1, bar := 2, beat := 1 } := by decide

/-- A vamp over bars 1 and 2 with this exit. -/
def vamp12 (exit : Option Nat) : Vamp := { first := 1, last := 2, pass := 1, mark := true, exit := exit }

/-- The clock vamps, with bar 2, beat 4 next. -/
def vamping (exit : Option Nat) : State :=
  let s := playing 2 4 0#40 (stage [])
  { s with clock := { s.clock with state := .vamping, vamp := some (vamp12 exit) } }

/-- The beat that ends the vamp's pass. -/
def turning : NextBeat := { pos := { song := 1, bar := 2, beat := 4 }, sub := 0#40 }

theorem witness_VampTurnsUntilItsExit :
    ((house []).accepts ∧ (house []).cue.isOpen = false ∧ (vamping none).accepts ∧ (vamping none).cue.isOpen = true ∧
      (freezeClock (vamping none)).clock.state = .frozen ∧ (stage []).clock.state = .parked ∧
      (vamping none).clock.state = .vamping ∧ (vamping none).clock.vamp = some (vamp12 none) ∧
      (vamp12 none).exit = none ∧ (vamp12 (some 1)).exit ≠ none ∧ (vamping none).resetHeld = false ∧
      (vamping none).clock.next = some turning ∧ (vamping none).clock.holdDue = false ∧
      tickReached (vamping none).time.tick (tickOfSub turning.sub) = true ∧
      (vamping none).book.song? 1 = some song1 ∧ (vamp12 none).last = 2 ∧
      (vamping none).book.beatsIn 1 2 ≤ 4 ∧ (vamp12 none).exit ≠ some (vamp12 none).pass ∧
      1 ≤ (vamp12 none).pass ∧ (vamp12 none).first ≤ (vamp12 none).last ∧
      (vamp12 (some 1)).exit = some (vamp12 (some 1)).pass ∧ 2 < song1.lastBar ∧
      (vamping none).book.mappedTempo (vamping none).clock.override turning.pos = 12000) ∧
      (vamping none).timesBeat turning 12000 6144000#40 ∧
      ∀ (d : Cue) (x : BarTrigger),
        ¬(vamping (some 1)).announces none { song := 1, bar := 3, beat := 1 } (tickOfSub 6144000#40) d x :=
  ⟨by decide +kernel,
    times_mapped (vamping none) turning { song := 1, bar := 1, beat := 1 } (by decide) (by decide +kernel) (by decide),
    none_announced _ (by decide) _ _ _⟩

/-- Cue 1 stands by and hands these actions to the clock. -/
def acting (tempo : Option TempoAction) (vamp : Option VampAction) : Cue :=
  { goCue 1 with tempo := tempo, vamp := vamp }

/-- Cue 1 with this action stands by while the clock is in this state at bar 1, beat 1. -/
def atClock (st : ClockState) (c : Cue) : State := clocked (fun k => { k with state := st }) (playing 1 2 0#40 (stage [c]))

/-- Cue 1 of the stage fires, with no patch, whatever it hands to the clock. -/
theorem acting_fires (st : ClockState) (tempo : Option TempoAction) (vamp : Option VampAction) :
    (atClock st (acting tempo vamp)).firesBy .go (num 1) (acting tempo vamp) ∧
      (atClock st (acting tempo vamp)).firesNoPatch (num 1) (acting tempo vamp) ∧
      (atClock st (acting tempo vamp)).cueAfter (num 1) = none :=
  ⟨go_fires _ _ _ (by decide : PortState.idle ≠ .working) rfl rfl rfl rfl rfl rfl,
    bare_stage (acting tempo vamp) _ rfl rfl rfl rfl rfl, rfl⟩

theorem witness_FiredCueActsOnTheClock :
    ((atClock .playing (acting (some .park) (some (.vamp 1 2)))).resetHeld = false ∧
      (atClock .playing (acting (some .park) (some (.vamp 1 2)))).clock.state = .playing ∧
      (atClock .frozen (acting (some .park) none)).clock.state = .frozen ∧
      (atClock .playing (acting none (some (.vamp 1 2)))).clock.pos = some { song := 1, bar := 1, beat := 1 }) ∧
      (atClock .playing (acting (some .park) (some (.vamp 1 2)))).firesBy .go (num 1)
        (acting (some .park) (some (.vamp 1 2))) ∧
      (atClock .playing (acting (some .park) (some (.vamp 1 2)))).firesNoPatch (num 1)
        (acting (some .park) (some (.vamp 1 2))) ∧
      (atClock .playing (acting none (some (.vamp 1 2)))).clock.mayVamp
        (atClock .playing (acting none (some (.vamp 1 2)))).book 1 2 :=
  ⟨by decide, (acting_fires _ _ _).1, (acting_fires _ _ _).2.1, .inl rfl, { song := 1, bar := 1, beat := 1 }, song1, rfl,
    by decide, by decide, by decide, by decide, by decide, by decide, fun n h => by cases h; decide⟩

theorem witness_StartAndReleaseFixTheFirstBeat :
    ((atClock .parked (acting (some (.start 1 2)) none)).resetHeld = false ∧
      (atClock .parked (acting (some (.start 1 2)) none)).book.cues.Pairwise (fun x y => x.number ≠ y.number) ∧
      (∀ d ∈ (atClock .parked (acting (some (.start 1 2)) none)).book.cues,
        ((atClock .parked (acting (some (.start 1 2)) none)).cue.entry? d.number).isSome = true) ∧
      (atClock .parked (acting (some (.start 1 2)) none)).book.song? 1 = some song1 ∧ song1.running ≠ .cut ∧
      (atClock .parked (acting (some (.start 1 2)) none)).book.segment? 1 song1.firstBar ≠ none ∧
      (atClock .frozen (acting (some (.start 1 2)) none)).clock.state = .frozen ∧
      (atClock .held (acting (some .release) none)).clock.state = .held ∧
      (atClock .held (acting (some .release) none)).clock.pos = some { song := 1, bar := 1, beat := 1 }) ∧
      (∀ bar beat lead : Nat, (acting (some (.start 1 2)) none).trigger = .bar bar beat lead → lead = 0) ∧
      (∀ (d : Cue) (x : BarTrigger), ¬(atClock .parked (acting (some (.start 1 2)) none)).announces none
        { song := 1, bar := 2, beat := 1 } 480#32 d x) ∧
      (atClock .held (acting (some .release) none)).book.Follows { song := 1, bar := 1, beat := 1 } none
        (some { song := 1, bar := 1, beat := 2 }) none ∧
      (atClock .held (acting (some .release) none)).firesBy .go (num 1) (acting (some .release) none) ∧
      (atClock .held (acting (some .release) none)).firesNoPatch (num 1) (acting (some .release) none) :=
  ⟨by decide, fun _ _ _ h => (by cases h), none_announced _ (by decide) _ _ _,
    .within { song := 1, bar := 1, beat := 1 } none (by decide), (acting_fires _ _ _).1, (acting_fires _ _ _).2.1⟩

/-- A BAR cue 2 with a lead that starts song 1 again at bar 3. -/
def starting : Cue := { barCue 2 with tempo := some (.start 1 3) }

/-- Its trigger is reached at tick 10. -/
def startDue : State :=
  cueing (fun e => { e with triggers := [trigger2] }) (atTick 10 0 (playing 2 1 3840#40 (stage [goCue 1, starting])))

theorem witness_StartAndReleaseFixTheFirstBeat_lead :
    (startDue.resetHeld = false ∧ starting.trigger = .bar 2 1 50 ∧ startDue.currentSong = some 1 ∧
      startDue.clock.state = .playing ∧ startDue.book.mappedTempo none { song := 1, bar := 3, beat := 1 } = 12000) ∧
      startDue.firesBy .barTrigger (num 2) starting ∧ startDue.firesNoPatch (num 2) starting ∧
      startDue.book.Follows { song := 1, bar := 3, beat := 1 } none (some { song := 1, bar := 3, beat := 2 }) none :=
  ⟨by decide +kernel,
    .inr (.inl ⟨rfl, by decide, trigger2, [], 50, rfl, rfl, by decide, by decide, rfl, rfl⟩),
    bare_stage starting _ rfl (by decide) rfl (by decide +kernel) rfl,
    .within { song := 1, bar := 3, beat := 1 } none (by decide +kernel)⟩

/-- The clock's song ends at tick 10. -/
def endingAt (now : Nat) : State :=
  let s := atTick now 0 (playing 4 4 0#40 (stage [barCue 1]))
  { s with clock := { s.clock with next := none, ending := some 10#32 } }

theorem witness_SongEndParksTheClock :
    (endingAt 10).resetHeld = false ∧ (endingAt 10).clock.ending = some 10#32 ∧
      (endingAt 10).clock.pos = some { song := 1, bar := 1, beat := 1 } ∧ (endingAt 10).clock.state ≠ .parked ∧
      tickReached (endingAt 9).time.tick 10#32 = false ∧ tickReached (endingAt 10).time.tick 10#32 = true ∧
      (endingAt 10).book.cues.Pairwise (fun x y => x.number ≠ y.number) ∧
      (∀ d ∈ (endingAt 10).book.cues,
        (endingAt 10).cue.isOpen = true ∧ ((endingAt 10).cue.entry? d.number).isSome = true) := by decide



/-- The clock counts in 4 beats of 24000 ticks from tick 10, with the COUNT-IN card on. -/
def counting (now : Nat) (reached : Nat) : State :=
  let s := atTick now 0 (playing 1 1 24578560#40 (stopped .countIn SourceSet.empty (stage [])))
  { s with
    clock := { s.clock with
      state := .counting
      countIn := some { total := 4, given := 1, reached := reached, interval := 6144000, first := 2560#40, perBar := 4 } }
    overlay := { s.overlay with countCard := some none } }

/-- The first song beat of the count-in. -/
def firstBeat : NextBeat := { pos := { song := 1, bar := 1, beat := 1 }, sub := 24578560#40 }

theorem witness_CountInLeadsIntoTheSong :
    ((counting 10 0).resetHeld = false ∧ (counting 10 0).clock.state = .counting ∧
      (counting 10 0).clock.countIn = some { total := 4, given := 1, reached := 0, interval := 6144000, first := 2560#40,
                                             perBar := 4 } ∧
      0 < 4 ∧ tickReached (counting 10 0).time.tick (tickOfSub (2560#40 + BitVec.ofNat 40 (0 * 6144000))) = true ∧
      tickReached (counting 9 0).time.tick (tickOfSub (2560#40 + BitVec.ofNat 40 (0 * 6144000))) = false ∧ 4 ≤ 4 ∧
      (counting 96010 4).clock.next = some firstBeat ∧ (counting 96010 4).cue.isOpen = true ∧
      tickReached (counting 96010 4).time.tick (tickOfSub firstBeat.sub) = true ∧
      tickReached (counting 96009 4).time.tick (tickOfSub firstBeat.sub) = false ∧
      (counting 96010 4).clock.holdDue = false ∧ (counting 96010 4).stop.state = .countIn ∧
      (clocked (fun k => { k with holdDue := true }) (counting 96010 4)).clock.holdDue = true ∧
      (counting 96010 4).book.mappedTempo (counting 96010 4).clock.override firstBeat.pos = 12000) ∧
      (counting 96010 4).timesBeat firstBeat 12000 30722560#40 ∧
      (counting 96010 4).book.Follows firstBeat.pos ((counting 96010 4).producing firstBeat 12000).vamp
        (some { song := 1, bar := 1, beat := 2 }) none ∧
      ∀ (d : Cue) (x : BarTrigger),
        ¬(counting 96010 4).announces none { song := 1, bar := 1, beat := 2 } (tickOfSub 30722560#40) d x :=
  ⟨by decide +kernel,
    times_mapped (counting 96010 4) firstBeat { song := 1, bar := 1, beat := 1 } (by decide) (by decide +kernel) (by decide),
    .within firstBeat.pos none (by decide +kernel), none_announced _ (by decide) _ _ _⟩

/-- A beat click at tick 100. -/
def click100 : Click := { cls := .beat, bar := 1, beat := 2, sub := 0, tempo := 12000, tick := 100#32 }

/-- Its item, every part WAITING for tick 100. -/
def item100 : DueItem := { click := click100, parts := Vector.replicate 16 { send := 100#32, state := .waiting } }

/-- Its item with every part but chair 2's DONE. -/
def item100last : DueItem :=
  { item100 with parts :=
      (Vector.replicate 16 { send := 100#32, state := .done }).set 1 { send := 100#32, state := .waiting } }

theorem witness_ClickIsSentAtItsSendTick :
    (∀ i ∈ (house []).due, i.parts[(1 : Chair)].state = .waiting →
        tickReached (house []).time.tick i.parts[(1 : Chair)].send = false) ∧
      (house []).resetHeld = false ∧
      ({ locked2 (stage []) with due := [item100] } : State).due = [] ++ item100 :: [] ∧
      item100.parts[(1 : Chair)].state = .waiting ∧
      tickReached (atTick 100 0 State.reset).time.tick item100.parts[(1 : Chair)].send = true ∧
      tickReached (atTick 99 0 State.reset).time.tick item100.parts[(1 : Chair)].send = false ∧
      (locked2 (stage [])).cue.isOpen = true ∧ (locked2 (stage [])).stop.state ≠ .stopped ∧
      (locked2 (stage [])).book.chairs[(1 : Chair)].enabled = true ∧
      (locked2 (stage [])).links[(1 : Chair)].state = .locked ∧
      (locked2 (stage [])).clicks[(1 : Chair)].enable = true ∧ click100.cls ≠ .sub ∧
      (stage []).links[(1 : Chair)].state ≠ .locked ∧ (∃ d : Chair, d ≠ 1 ∧ item100.parts[d].state ≠ .done) ∧
      item100last.parts[(1 : Chair)].state = .waiting ∧
      (∀ d : Chair, d ≠ 1 → item100last.parts[d].state = .done) := by decide +kernel

/-! ### Show stops -/

theorem witness_StopFreezesTheShow :
    (house []).accepts ∧ (house []).cue.isOpen = false ∧
      (stopped .stopped SourceSet.empty (stage [])).cue.isOpen = true ∧
      (stopped .stopped SourceSet.empty (stage [])).stop.state = .stopped ∧ (stage []).accepts ∧
      (stage []).stop.state = .clear ∧ (stage []).clock.state = .parked ∧
      (playing 1 2 0#40 (stage [])).stop.state ≠ .stopped ∧ (playing 1 2 0#40 (stage [])).clock.state ≠ .parked ∧
      (playing 1 2 0#40 (stage [])).clock.state ≠ .frozen ∧ (counting 10 0).stop.state = .countIn := by decide

/-- A show STOPPED by the host, with these cues. -/
def halted (cues : List Cue) : State := stopped .stopped { SourceSet.empty with host := true } (stage cues)

/-- A RESUME at a cue of a halted show passes its checks where no request waits and the song is not CUT. -/
theorem halted_resumes (cues : List Cue) (c : Cue) (bars : Nat) (hn : c.number.inRange = true) (hb : bars ≤ 4)
    (hr : (halted cues).book.cue? c.number = some c) (ho : cues.Pairwise fun x y => x.number ≠ y.number)
    (he : ∀ d ∈ cues, ((halted cues).cue.entry? d.number).isSome = true) : (halted cues).resumes c.number c bars :=
  { taken := ⟨rfl, by simp [halted, stopped, stage, house, State.reset, Port.initial]⟩
    isOpen := rfl, stopped := rfl, line := rfl, fault := rfl, range := hn, bars := hb, record := hr
    notCut := fun ⟨n, r, _, hs, hc⟩ => by
      have hm : r = song1 := by
        have := List.mem_of_find?_eq_some hs
        simpa [halted, stopped, stage, house] using this
      rw [hm] at hc
      cases hc
    noCueWaits := fun chair m sel h => by
      have : (halted cues).patch[chair] = Dispatch.initial := by
        simp [halted, stopped, stage, house, State.reset]
      rw [this] at h
      cases h
    once := ho
    entries := he }

theorem witness_ResumeIsCheckedAndRewritesTheRun :
    ((house []).accepts ∧ 4 < 5 ∧ (house []).cue.isOpen = false ∧ (stage []).cue.isOpen = true ∧
      (stage []).stop.state ≠ .stopped ∧ (halted [goCue 1, goCue 2]).accepts ∧
      (halted [goCue 1, goCue 2]).stop.state = .stopped ∧
      (stopped .stopped { SourceSet.empty with line := true } (stage [])).stop.held.line = true ∧
      (halted [goCue 1, goCue 2]).stop.held.line = false ∧ (halted [goCue 1, goCue 2]).stop.held.fault = false ∧
      (halted []).book.cue? (num 1) = none ∧ (withSong cut (halted [])).book.song? 1 = some cut ∧ cut.running = .cut ∧
      ({ barCue 2 with song := none } : Cue).trigger = .bar 2 1 50 ∧ (goCue 2).isBar = false ∧
      (followCue 2).isBar = false) ∧
      (∀ n : Nat, ({ barCue 2 with song := none } : Cue).song = some n → (house []).book.governing? n 2 = none) ∧
      (halted [goCue 1, goCue 2]).resumes (num 2) (goCue 2) 0 ∧
      (halted [goCue 1, followCue 2]).resumes (num 2) (followCue 2) 4 :=
  ⟨by decide, fun _ h => (by cases h), halted_resumes _ (goCue 2) 0 (by decide) (by decide) (by decide) (by decide) (by decide),
    halted_resumes _ (followCue 2) 4 (by decide) (by decide) (by decide) (by decide) (by decide)⟩

/-- A halted show whose first cue names patch 5 for chair 2. -/
def rebuilt : State := halted [patchCue 1, goCue 2]

theorem witness_ResumeIsCheckedAndRewritesTheRun_patch :
    (rebuilt.book.chairs[(1 : Chair)].enabled = true ∧ rebuilt.book.patch? 1 5 = some patch5 ∧
      rebuilt.patch[(1 : Chair)].flight = none ∧ rebuilt.patch[(1 : Chair)].waiting = none ∧
      rebuilt.patch[(1 : Chair)].confirmed ≠ .patch { number := 5, variant := .base } ∧
      (locked2 rebuilt).links[(1 : Chair)].state = .locked ∧ rebuilt.links[(1 : Chair)].state ≠ .locked) ∧
      rebuilt.reconstructs (num 2) 1 (patchCue 1) 5 ∧ rebuilt.resumes (num 2) (goCue 2) 0 :=
  ⟨by decide +kernel, ⟨by decide, by decide⟩,
    halted_resumes _ (goCue 2) 0 (by decide) (by decide) (by decide) (by decide) (by decide)⟩

theorem witness_ResumeAtABarCueCountsIn :
    ((barCue 2).trigger = .bar 2 1 50 ∧ (barCue 2).song = some 1 ∧
      (halted [goCue 1, barCue 2]).book.governing? 1 2 = some seg1 ∧
      (halted [goCue 1, barCue 2]).book.mappedTempo none { song := 1, bar := 2, beat := 1 } = 12000 ∧
      4 = 1 * seg1.beatsPerBar ∧ 6144000 = (73728000000 + 12000 / 2) / 12000 ∧
      subOfTick ((halted [goCue 1, barCue 2]).time.tick + 480#32) = 122880#40 ∧
      24698880#40 = 122880#40 + BitVec.ofNat 40 (4 * 6144000) ∧
      tickReached (halted [goCue 1, barCue 2]).time.tick (tickOfSub 24698880#40 - BitVec.ofNat 32 (48 * 50)) = false) ∧
      (halted [goCue 1, barCue 2]).resumes (num 2) (barCue 2) 1 ∧
      ∀ d ∈ (halted [goCue 1, barCue 2]).book.cues, ∀ beat lead : Nat, d.trigger = .bar 2 beat lead → lead = 50 := by
  refine ⟨by decide +kernel, halted_resumes _ (barCue 2) 1 (by decide) (by decide) (by decide) (by decide) (by decide), ?_⟩
  intro d hd beat lead ht
  have h : d = goCue 1 ∨ d = barCue 2 := by simpa [halted, stopped, stage, house] using hd
  rcases h with rfl | rfl
  · cases ht
  · cases ht
    rfl

/-- The stop line's debounce ends at tick 960 with the contact so. -/
def bouncing (raw : Bool) (s : State) : State :=
  { s with stop := { s.stop with raw := raw, debounce := some 960#32 } }

theorem witness_StopLineIsDebounced :
    State.reset.resetHeld = false ∧ State.reset.stop.raw = false ∧ State.reset.stop.raw ≠ true ∧
      (bouncing true (stage [])).stop.debounce = some 960#32 ∧
      tickReached (atTick 959 0 (bouncing true (stage []))).time.tick 960#32 = false ∧
      tickReached (atTick 960 0 (bouncing true (stage []))).time.tick 960#32 = true ∧
      (bouncing true (stage [])).stop.line = false ∧ (bouncing true (stage [])).stop.raw = true ∧
      (bouncing true (stage [])).cue.isOpen = true ∧ (bouncing true (stage [])).stop.state = .clear ∧
      (bouncing true (stage [])).clock.state = .parked ∧
      (bouncing false (withLine true (stage []))).stop.line = true ∧
      (bouncing false (withLine true (stage []))).stop.raw = false ∧
      (bouncing false (stage [])).stop.line = (bouncing false (stage [])).stop.raw ∧
      (bouncing true (house [])).cue.isOpen = false := by decide

/-! ### The chairs -/

/-- Chair 2's dispatch state changed. -/
def rig2 (f : Dispatch → Dispatch) (s : State) : State := onDispatch 1 f s

theorem witness_RigWriteIsSentOrWaits :
    (house []).accepts ∧ 16 < 17 ∧ entriesOk [] = false ∧ entriesOk patch5.base = true ∧ chairNumber 1 = 2 ∧
      ({ house [] with book := (house []).book.putChair 1 (chairWritten false 0) } : State).book.chairs[(1 : Chair)].enabled =
        false ∧
      (locked2 (house [])).accepts ∧ (locked2 (house [])).book.chairs[(1 : Chair)].enabled = true ∧
      (locked2 (house [])).patch[(1 : Chair)].flight = none ∧ (locked2 (house [])).patch[(1 : Chair)].waiting = none ∧
      (locked2 (house [])).links[(1 : Chair)].state = .locked ∧ (house []).links[(1 : Chair)].state ≠ .locked ∧
      (rig2 (fun d => { d with waiting := some .adHoc }) (house [])).patch[(1 : Chair)].waiting = some .adHoc := by
  decide +kernel

/-- Chair 2 is LOCKED with this request in flight. -/
def flying (r : PatchReq) (s : State) : State := rig2 (fun d => { d with flight := some (inFlight r) }) (locked2 s)

/-- A stage on which patch cue 1 is FIRING. -/
def firing : State :=
  let s := flying (.cue (num 1) false { number := 5, variant := .base }) (stage [patchCue 1])
  { s with cue := { s.cue with
      standby := none, runs := [{ cue := num 1, state := .firing, mark := none, failed := 0 }] } }

theorem witness_PatchOutcomesSetTheConfirmedPatch :
    (firing.resetHeld = false ∧ firing.links[(1 : Chair)].state = .locked ∧ firing.links[(1 : Chair)].seq = some 7#8 ∧
      firing.patch[(1 : Chair)].flight =
        some (inFlight (.cue (num 1) false { number := 5, variant := .base })) ∧
      (inFlight .adHoc).tag = 1#8 ∧ firing.patch[(1 : Chair)].waiting = none ∧ (1#8 : Byte).toNat ≤ 1 ∧
      (flying .adHoc (house [])).patch[(1 : Chair)].flight = some (inFlight .adHoc) ∧ firing.cue.isOpen = true ∧
      firing.book.cue? (num 1) = some (patchCue 1) ∧
      firing.cue.entry? (num 1) = some { cue := num 1, state := .firing, mark := none, failed := 0 } ∧
      (∀ d : Chair, d ≠ 1 → firing.patch[d].holds (num 1) = false) ∧
      tickReached (atTick 1919 0 firing).time.tick (inFlight .adHoc).expiry = false ∧
      tickReached (atTick 1920 0 firing).time.tick (inFlight .adHoc).expiry = true) ∧
      ∀ n : CueNumber, (inFlight .adHoc).req.isOf n = false :=
  ⟨by decide +kernel, fun _ => rfl⟩

/-- A request of no cue is in flight at chair 2, and this request waits. -/
def queued (r : PatchReq) : State := rig2 (fun d => { d with waiting := some r }) (flying .adHoc (house []))

theorem witness_PatchOutcomesSetTheConfirmedPatch_waiting :
    (queued .adHoc).patch[(1 : Chair)].waiting = some .adHoc ∧
      (queued .adHoc).patch[(1 : Chair)].flight = some (inFlight .adHoc) ∧
      (queued .adHoc).links[(1 : Chair)].state = .locked ∧ (queued .adHoc).links[(1 : Chair)].seq = some 7#8 ∧
      (queued (.restore { number := 6, variant := .base })).patch[(1 : Chair)].waiting =
        some (.restore { number := 6, variant := .base }) ∧
      (queued (.restore { number := 6, variant := .base })).book.patch? 1 6 = none ∧
      (queued (.restore { number := 5, variant := .base })).book.patch? 1 5 = some patch5 ∧
      (inFlight .adHoc).tag ≠ 9#8 := by decide +kernel

theorem witness_RealignStartsAFreshFilter : (house []).accepts ∧ 16 < 17 ∧ 0 < 1 ∧ chairNumber 15 = 16 := by decide

/-- Chair 2 is LOCKED with this probe outstanding. -/
def probing (p : Probe) : State := chair2 (fun l => { l with outstanding := some p, probeDue := some 24000#32 }) (locked2 State.reset)

theorem witness_ProbesMeasureTheChair :
    (probing { id := 3#8, start := 0 }).resetHeld = false ∧
      (probing { id := 3#8, start := 0 }).links[(1 : Chair)].probeDue = some 24000#32 ∧
      tickReached (atTick 23999 0 State.reset).time.tick 24000#32 = false ∧
      tickReached (atTick 24000 0 State.reset).time.tick 24000#32 = true ∧
      (probing { id := 3#8, start := 0 }).links[(1 : Chair)].state = .locked ∧
      (probing { id := 3#8, start := 0 }).links[(1 : Chair)].seq = some 7#8 ∧
      (probing { id := 3#8, start := 0 }).links[(1 : Chair)].outstanding = some { id := 3#8, start := 0 } ∧
      0 ≤ (atTick 0 20000 (probing { id := 3#8, start := 0 })).time.micros ∧
      (atTick 0 20000 (probing { id := 3#8, start := 0 })).time.micros ≤ 0 + 20000 ∧
      0 + 20000 < (atTick 0 20001 (probing { id := 3#8, start := 0 })).time.micros ∧
      (atTick 0 19999 (probing { id := 3#8, start := 0 })).time.micros < 0 + 20000 ∧ (3#8 : Byte) ≠ 4#8 ∧
      (20000#16 : BitVec 16).toNat ≤ 20000 - 0 ∧ 20000 - 0 < (20001#16 : BitVec 16).toNat ∧
      State.reset.clock.state = .parked ∧ (playing 1 2 0#40 State.reset).clock.state ≠ .parked ∧
      (playing 1 2 0#40 State.reset).clock.state ≠ .frozen := by decide +kernel

/-- Chair 2's link trains since time 0. -/
def training (s : State) : State :=
  chair2 (fun l => { l with state := .training, training := some 500000, trainDue := some 1000 }) s

theorem witness_LineActivityLeadsToTraining :
    State.reset.resetHeld = false ∧ Instr.lineActivity 1 = .lineActivity 1 ∧
      (chair2 (fun l => { l with holdOff := some 100000, activity := some 99000 }) State.reset).links[(1 : Chair)].state = .down ∧
      (chair2 (fun l => { l with holdOff := some 100000, activity := some 99000 }) State.reset).links[(1 : Chair)].holdOff =
        some 100000 ∧
      (chair2 (fun l => { l with holdOff := some 100000, activity := some 99000 }) State.reset).links[(1 : Chair)].activity =
        some 99000 ∧
      (atTick 0 99999 State.reset).time.micros < 100000 ∧ 100000 ≤ (atTick 0 100000 State.reset).time.micros ∧
      (atTick 0 100000 State.reset).time.micros ≤ 99000 + 1000 ∧ 98999 + 1000 < (atTick 0 100000 State.reset).time.micros ∧
      (training State.reset).links[(1 : Chair)].state = .training ∧
      (training State.reset).links[(1 : Chair)].trainDue = some 1000 ∧
      1000 ≤ (atTick 0 1000 (training State.reset)).time.micros ∧
      (training State.reset).links[(1 : Chair)].training = some 500000 ∧
      (atTick 0 499999 (training State.reset)).time.micros < 500000 ∧
      500000 ≤ (atTick 0 500000 (training State.reset)).time.micros := by decide +kernel

/-- Chair 2's target is patch 5, not held. -/
def targeted (s : State) : State := rig2 (fun d => { d with target := some { number := 5, variant := .base } }) s

theorem witness_HelloLocksAndSilenceLoses :
    ((training (targeted (house []))).resetHeld = false ∧
      (training (targeted (house []))).links[(1 : Chair)].state = .training ∧
      (training (targeted (house []))).patch[(1 : Chair)].waiting = none ∧
      (training (targeted (house []))).patch[(1 : Chair)].flight = none ∧
      (training (targeted (house []))).links[(1 : Chair)].bucket < 7 ∧ (2#8 : Byte) ≠ 1#8 ∧
      5000 < (5001#16 : BitVec 16).toNat ∧ (5000#16 : BitVec 16).toNat ≤ 5000 ∧ (1#8 : Byte).toNat ≤ 1 ∧
      1 < (2#8 : Byte).toNat ∧ (training (house [])).patch[(1 : Chair)].target = none ∧
      (training (targeted (house []))).patch[(1 : Chair)].target = some { number := 5, variant := .base } ∧
      (training (targeted (house []))).book.chairs[(1 : Chair)].enabled = true ∧
      (training (targeted (house []))).patch[(1 : Chair)].confirmed ≠ .patch { number := 5, variant := .base } ∧
      (training (targeted (house []))).book.patch? 1 5 = some patch5 ∧
      (chair2 (fun l => { l with silence := some 50000 }) (flying .adHoc (house []))).links[(1 : Chair)].state = .locked ∧
      (chair2 (fun l => { l with silence := some 50000 }) (flying .adHoc (house []))).links[(1 : Chair)].silence =
        some 50000 ∧
      (atTick 0 49999 State.reset).time.micros < 50000 ∧ 50000 ≤ (atTick 0 50000 State.reset).time.micros ∧
      (flying .adHoc (house [])).patch[(1 : Chair)].flight = some (inFlight .adHoc)) ∧
      ∀ n : CueNumber, (some (inFlight .adHoc)).any (fun f => f.req.isOf n) = false :=
  ⟨by decide +kernel, fun _ => rfl⟩

/-- Chair 2 trains or is LOCKED, and a request that waits is to be promoted or one in flight is lost. -/
theorem witness_HelloLocksAndSilenceLoses_relock :
    (training (rig2 (fun d => { d with waiting := some .adHoc }) (house []))).patch[(1 : Chair)].waiting = some .adHoc ∧
      (training (rig2 (fun d => { d with waiting := some .adHoc }) (house []))).patch[(1 : Chair)].flight = none ∧
      (flying .adHoc (targeted (house []))).links[(1 : Chair)].state = .locked ∧
      (flying .adHoc (targeted (house []))).links[(1 : Chair)].clickQueue = [] ∧
      (flying .adHoc (targeted (house []))).patch[(1 : Chair)].waiting = none ∧
      (flying .adHoc (targeted (house []))).patch[(1 : Chair)].flight = some (inFlight .adHoc) ∧
      (flying .adHoc (targeted (house []))).patch[(1 : Chair)].target = some { number := 5, variant := .base } ∧
      (flying .adHoc (targeted (house []))).book.chairs[(1 : Chair)].enabled = true ∧
      (flying .adHoc (targeted (house []))).book.patch? 1 5 = some patch5 := by decide +kernel

/-- Chair 2 is LOCKED, and its record gives it GO rights. -/
def righted (s : State) : State :=
  locked2 { s with book := s.book.putChair 1 { defaultChair 2 with goRights := true } }

theorem witness_LinksCheckTheirMessages :
    ((locked2 State.reset).resetHeld = false ∧ (locked2 State.reset).links[(1 : Chair)].state = .locked ∧
      [0x05#8].length < 2 ∧
      [0x05#8, 0x00#8, 0x00#8, 0x27#8, 0x6D#8].drop (5 - 2) ≠
        bigEndian 2 (crc16 ([0x05#8, 0x00#8, 0x00#8, 0x27#8, 0x6D#8].take (5 - 2))).toNat ∧
      (chair2 (fun l => { l with bucket := 6 }) (locked2 State.reset)).links[(1 : Chair)].bucket < 7 ∧
      7 ≤ (chair2 (fun l => { l with bucket := 7 }) (locked2 State.reset)).links[(1 : Chair)].bucket ∧
      (atTick 0 124999 State.reset).time.micros < State.reset.leakDue ∧
      State.reset.leakDue ≤ (atTick 0 125000 State.reset).time.micros ∧
      (righted (stage [goCue 1])).links[(1 : Chair)].seq = some 7#8 ∧
      (righted (stage [goCue 1])).links[(1 : Chair)].state = .locked ∧
      (locked2 (house [])).book.chairs[(1 : Chair)].goRights = false ∧
      (righted (stage [goCue 1])).book.chairs[(1 : Chair)].enabled = true ∧
      (righted (stage [goCue 1])).book.chairs[(1 : Chair)].goRights = true ∧
      (righted (stage [goCue 1])).clock.state ≠ .vamping ∧ (righted (house [])).cue.isOpen = false ∧
      (righted (stage [goCue 1])).cue.isOpen = true ∧ (righted (stage [goCue 1])).stop.state = .clear ∧
      (righted (stage [goCue 1])).cue.guard = none ∧ (righted (stage [goCue 1])).cue.held = none ∧
      (righted (stage [goCue 1])).cue.standby = some (num 1) ∧ (goCue 1).mask.chair = true ∧
      (stopped .countIn SourceSet.empty (righted (stage [goCue 1]))).stop.state ≠ .clear) ∧
      (righted (stage [goCue 1])).firesPlainly (num 1) (goCue 1) :=
  ⟨by decide +kernel,
    plain_stage (goCue 1) (goCue 2) _ (by decide +kernel) (by decide +kernel) (by decide +kernel) (by decide +kernel) rfl
      rfl rfl (.inr (by decide +kernel)) (by decide)⟩

/-- Chair 2 has GO rights while the clock vamps, with cue 1 standing by. -/
def vampRights : State :=
  clocked (fun k => { k with state := .vamping, vamp := some (vamp12 none) }) (playing 2 4 0#40 (righted (stage [goCue 1])))

theorem witness_LinksCheckTheirMessages_release :
    vampRights.clock.state = .vamping ∧ vampRights.clock.vamp = some (vamp12 none) ∧ (vamp12 none).exit = none ∧
      vampRights.cue.standby = some (num 1) ∧ vampRights.book.cue? (num 1) = some (goCue 1) ∧
      (goCue 1).mask.chair = true ∧ vampRights.links[(1 : Chair)].state = .locked ∧
      vampRights.links[(1 : Chair)].seq = some 7#8 ∧ vampRights.book.chairs[(1 : Chair)].goRights = true := by
  decide +kernel

/-- A picture of one line. -/
def picture1 : Picture := { width := 1, height := 1, orientation := .deg0, shown := .noConductor }

/-- Chair 2 is LOCKED with a monitor, and its picture of one line is composed. -/
def composing : State :=
  let s := chair2 (fun l => { l with monitor := true }) (locked2 State.reset)
  { s with overlay := { s.overlay with
      views := modifyAt s.overlay.views 1 fun v => { v with composing := true, picture := some picture1 } } }

theorem witness_DownlinkIsGrantedInOrder :
    State.reset.resetHeld = false ∧ State.reset.links[(1 : Chair)].state ≠ .locked ∧
      composing.links[(1 : Chair)].state = .locked ∧
      (chair2 (fun l => { l with clickQueue := [click100] }) composing).links[(1 : Chair)].clickQueue = click100 :: [] ∧
      composing.links[(1 : Chair)].clickQueue = [] ∧ composing.links[(1 : Chair)].stopMark = none ∧
      (chair2 (fun l => { l with stopMark := some true }) composing).links[(1 : Chair)].stopMark = some true ∧
      (chair2 (fun l => { l with patchMsg := some { tag := 1#8, entries := [] } }) composing).links[(1 : Chair)].patchMsg =
        some { tag := 1#8, entries := [] } ∧
      (chair2 (fun l => { l with probeMsg := some 3#8 }) composing).links[(1 : Chair)].probeMsg = some 3#8 ∧
      composing.links[(1 : Chair)].patchMsg = none ∧ composing.links[(1 : Chair)].probeMsg = none ∧
      composing.overlay.views[(1 : Chair)].composing = true ∧ composing.links[(1 : Chair)].monitor = true ∧
      composing.overlay.views[(1 : Chair)].picture = some picture1 ∧
      composing.overlay.views[(1 : Chair)].cursor < picture1.height ∧
      (locked2 State.reset).overlay.views[(1 : Chair)].composing = false := by decide +kernel

/-- Two items of the same click, of both of which chair 2's part is handed, the second with no other part left. -/
def twins : State :=
  let handed := fun (i : DueItem) => { i with parts := i.parts.set 1 { send := 100#32, state := .handed } }
  chair2 (fun l => { l with clickQueue := [click100, click100] })
    { locked2 State.reset with due := [handed item100, handed item100last] }

theorem witness_DownlinkIsGrantedInOrder_twins :
    twins.links[(1 : Chair)].clickQueue = click100 :: [click100] ∧
      (∀ i ∈ twins.due, ∃ d : Chair, i.parts[d].state ≠ .done) ∧
      (∀ i ∈ twins.due, i.click = click100 ∧ i.parts[(1 : Chair)].state = .handed) ∧
      (∀ i ∈ twins.due.take 1, ∃ d : Chair, d ≠ 1 ∧ i.parts[d].state ≠ .done) ∧
      ∀ i ∈ twins.due.drop 1, ∀ d : Chair, d ≠ 1 → i.parts[d].state = .done := by decide +kernel

/-! ### The pad, the video and the faults -/

/-- A pad frame whose counts are all 1000. -/
def padBytes : List Byte := [0xA5#8, 3#8, 0xE8#8, 3#8, 0xE8#8, 3#8, 0xE8#8, 3#8, 0xE8#8, 3#8, 0xE8#8]

/-- A RUNNING pad of baselines 1000, with no touch. -/
def resting (s : State) : State := { s with pad := { s.pad.seed 0#32 (Vector.replicate 5 1000) with watch := some 1920#32 } }

/-- A contact on this electrode, with its hold point and stop point at tick 10. -/
def touching (z : Zone) (s : State) : State :=
  { s with pad := { s.pad with
      contact := some { Contact.fresh 0#32 with visits := [{ zone := z, onset := 0#32 }] }
      holdPoint := some 10#32, stopPoint := some 10#32 } }

theorem witness_PadSamplesLossAndPoints :
    State.reset.resetHeld = false ∧ [0xA5#8].length ≠ 11 ∧ (List.replicate 11 0#8).head? ≠ some 0xA5#8 ∧
      padCounts padBytes = some (Vector.replicate 5 1000) ∧ State.reset.pad.state ≠ .running ∧
      (resting State.reset).pad.state = .running ∧ (resting State.reset).pad.contact = none ∧
      (resting State.reset).pad.blocking = false ∧
      (∀ z : Zone, (resting State.reset).pad.electrodes[z].level = .idle ∧
        (resting State.reset).pad.electrodes[z].onset = none ∧ (resting State.reset).pad.electrodes[z].void = false ∧
        (Vector.replicate 5 1092)[z] < (resting State.reset).pad.electrodes[z].b16 / 16 +
          max 1 ((resting State.reset).pad.electrodes[z].b16 / 16 * State.reset.book.settings.touch / 256)) ∧
      (resting State.reset).pad.state ≠ .lost ∧ (resting State.reset).pad.watch = some 1920#32 ∧
      tickReached (atTick 1919 0 State.reset).time.tick 1920#32 = false ∧
      tickReached (atTick 1920 0 State.reset).time.tick 1920#32 = true ∧
      (touching 3 State.reset).pad.holdPoint = some 10#32 ∧ (touching 3 State.reset).pad.stopPoint = some 10#32 ∧
      (touching 3 State.reset).pad.contact =
        some { Contact.fresh 0#32 with visits := [{ zone := 3, onset := 0#32 }] } ∧
      (Contact.fresh 0#32).spent = false ∧ tickReached (atTick 9 0 State.reset).time.tick 10#32 = false ∧
      tickReached (atTick 10 0 State.reset).time.tick 10#32 = true ∧
      (touching 3 (vamping none)).clock.state = .vamping ∧ (touching 3 (vamping none)).clock.vamp = some (vamp12 none) ∧
      (touching 3 State.reset).clock.state ≠ .vamping ∧ (touching 4 (house [])).cue.isOpen = false ∧
      (touching 4 (stage [])).cue.isOpen = true ∧ (touching 4 (stage [])).stop.state = .clear := by decide +kernel

theorem witness_PadReseedTakesTheLastCounts :
    State.reset.accepts ∧ State.reset.pad.state ≠ .running ∧ (resting State.reset).accepts ∧
      (resting State.reset).pad.state = .running ∧
      (resting State.reset).pad.lastCounts = some (Vector.replicate 5 1000) ∧ (resting State.reset).pad.contact = none ∧
      (touching 3 (resting State.reset)).pad.contact =
        some { Contact.fresh 0#32 with visits := [{ zone := 3, onset := 0#32 }] } := by decide +kernel

/-- The counts of a sample: these on Z0 and on Z1, and 1000 elsewhere. -/
def sampled (z0 z1 : Nat) : Vector Nat 5 := #v[z0, z1, 1000, 1000, 1000]

/-- A RUNNING pad whose Z1 holds a touch that began at this tick, at tick 0 of a contact with these visits. -/
def handOn (visits : List Visit) (onset : Tick) (s : State) : State :=
  let r := resting s
  { r with pad := { r.pad with
      electrodes := r.pad.electrodes.set 1 { b16 := 16000, level := .touch, onset := some onset, void := false }
      contact := some { Contact.fresh onset with visits := visits } } }

/-- One visit of this electrode at tick 0. -/
def visit (z : Zone) : Visit := { zone := z, onset := 0#32 }

/-- R126: at a baseline of 1000 a count of 1093 begins a touch, 1250 is DEEP, and a touch lasts down to 1070. -/
theorem witness_TouchesMakeContactsAndGestures :
    ((resting State.reset).resetHeld = false ∧ (resting State.reset).pad.state = .running ∧
      padCounts padBytes = some (sampled 1000 1000) ∧
      padCounts [0xA5#8, 3#8, 0xE8#8, 4#8, 0x45#8, 3#8, 0xE8#8, 3#8, 0xE8#8, 3#8, 0xE8#8] = some (sampled 1000 1093) ∧
      padCounts [0xA5#8, 4#8, 0x45#8, 3#8, 0xE8#8, 3#8, 0xE8#8, 3#8, 0xE8#8, 3#8, 0xE8#8] = some (sampled 1093 1000) ∧
      (resting State.reset).pad.blocking = false ∧ (resting State.reset).pad.contact = none ∧
      (handOn [visit 1] 0#32 State.reset).pad.contact =
        some { Contact.fresh 0#32 with visits := [visit 1] } ∧
      (handOn [visit 1] 0#32 State.reset).pad.blocking = false ∧
      (handOn [visit 1] 0#32 State.reset).pad.electrodes[(1 : Zone)].void = false) ∧
      (∀ z : Zone, (resting State.reset).pad.electrodes[z].rests defaultSettings 1000) ∧
      (resting State.reset).pad.electrodes[(1 : Zone)].begins defaultSettings 1093 ∧
      ¬(resting State.reset).pad.electrodes[(1 : Zone)].reaches defaultSettings.deep 1249 ∧
      (resting State.reset).pad.electrodes[(1 : Zone)].reaches defaultSettings.deep 1250 ∧
      (handOn [visit 1] 0#32 State.reset).pad.electrodes[(1 : Zone)].lasts defaultSettings 960000#32 1070 ∧
      (handOn [visit 1] 0#32 State.reset).pad.electrodes[(1 : Zone)].lifts defaultSettings 14400#32 1069 ∧
      (handOn [visit 1] 0#32 State.reset).pad.electrodes[(1 : Zone)].overstays 960001#32 := by
  refine ⟨by decide +kernel, ?_, ?_, ?_, ?_, ?_, ?_, by decide +kernel, 0#32, by decide +kernel, by decide⟩
  · intro z
    have h : (resting State.reset).pad.electrodes[z] = Pad.seed.fresh 1000 := by
      revert z
      decide +kernel
    rw [h]
    exact ⟨rfl, by unfold Electrode.reaches; decide +kernel⟩
  · exact ⟨by decide +kernel, by unfold Electrode.reaches; decide +kernel⟩
  · unfold Electrode.reaches; decide +kernel
  · unfold Electrode.reaches; decide +kernel
  all_goals
    refine ⟨by decide +kernel, ?_, by unfold Electrode.reaches; decide +kernel⟩
    rintro ⟨-, o, ho, h⟩
    have : o = 0#32 := by
      have : some o = some 0#32 := ho.symm.trans (by decide +kernel)
      cases this
      rfl
    subst this
    revert h
    decide

/-- Each outcome has a contact that gives it. -/
theorem witness_TouchesMakeContactsAndGestures_outcomes :
    ({ Contact.fresh 0#32 with visits := [visit 1] } : Contact).Gives 14400#32 .go ∧
      ({ Contact.fresh 0#32 with visits := [visit 2] } : Contact).Gives 14400#32 .tempoTap ∧
      ({ Contact.fresh 0#32 with visits := [visit 3] } : Contact).Gives 14400#32 .tap ∧
      ({ Contact.fresh 0#32 with visits := [visit 1] } : Contact).Gives 14401#32 .none ∧
      ({ Contact.fresh 0#32 with visits := [visit 1, visit 2] } : Contact).Gives 100#32 .none ∧
      ({ Contact.fresh 0#32 with overflow := true } : Contact).Gives 100#32 .none := by
  refine ⟨.goTap (visit 1) rfl rfl ?_ rfl, .tempoTap (visit 2) rfl rfl ?_ rfl, .tap (visit 3) rfl rfl ?_ (.inl rfl),
    .long (visit 1) rfl ?_, .two (visit 1) (visit 2) rfl, .overflowed rfl⟩
  all_goals decide

/-- Three visits up the row by 400 ms are a swipe NEXT. -/
theorem witness_TouchesMakeContactsAndGestures_swipe :
    ({ Contact.fresh 0#32 with visits := [visit 1, visit 2, { zone := 3, onset := 19200#32 }] } : Contact).Gives 20000#32
      .next := by
  refine .next { zone := 3, onset := 19200#32 } rfl (by decide) rfl (by decide) ?_
  intro before after x y h
  rcases before with _ | ⟨a, before⟩
  · cases h
    rfl
  · rcases before with _ | ⟨b, before⟩
    · cases h
      rfl
    · have hl := congrArg List.length h
      simp at hl
      omega

/-- R129: the tap fires cue 1, and with the show closed it does nothing but count; R127: a touch of the ring cancels it. -/
theorem test_go_tap :
    (after (.padSample padBytes) (atTick 14400 0 (handOn [visit 1] 0#32 (stage [goCue 1, goCue 2])))).cue.lastFired =
        some (num 1) ∧
      (after (.padSample [0xA5#8, 4#8, 0x45#8, 3#8, 0xE8#8, 3#8, 0xE8#8, 3#8, 0xE8#8, 3#8, 0xE8#8])
        (atTick 14400 0 (handOn [visit 1] 0#32 (stage [goCue 1])))).pad.last.map (·.outcome) =
          some (some .cancelled) := by decide +kernel

/-- R62, R63: the worked series of 25,000, 25,200, 24,800 and 25,400 ticks adjusts 12000 to 11,700. -/
theorem test_follow_tempo :
    followTempo defaultSettings 12000 12000 none [25000, 25200, 24800, 25400] = some 11700 := by decide +kernel

/-- Camera A is in this state, the selection is this, and the frame store is this. -/
def filming (st : CameraState) (sel : Selection) (buffers : Vector Buffer 3) : State :=
  { State.reset with video := { State.reset.video with
      camA := { Cam.initial with
        state := st, previous := some { width := 1280, height := 720 }, watch := some 2400#32, lockTick := some 0#32 }
      sel := sel, buffers := buffers } }

theorem witness_CamerasLockAndFillTheStore :
    State.reset.resetHeld = false ∧ State.reset.video.active ≠ some .a ∧
      (filming .locked .aActive (Vector.replicate 3 .free)).video.active = some .a ∧
      ((filming .locked .aActive (Vector.replicate 3 .free)).video.cam .a).state = .locked ∧
      (∀ (j : Fin 3) (k : Camera), (Vector.replicate 3 Buffer.free)[j] ≠ .filling k) ∧
      (∀ j : Fin 3, j < 0 → (Vector.replicate 3 Buffer.free)[j] ≠ .free) ∧
      ([1280, 1279] : List Nat) ≠ List.replicate (1 + 1) 1280 ∧
      ((filming .acquiring .none (Vector.replicate 3 .free)).video.cam .a).state = .acquiring ∧
      ((filming .acquiring .none (Vector.replicate 3 .free)).video.cam .a).previous =
        some State.reset.book.settings.size ∧
      (filming .locked .aActive #v[.filling .a, .free, .free]).video.buffers[(0 : Fin 3)] = .filling .a ∧
      ((filming .locked .aActive (Vector.replicate 3 .free)).video.cam .a).watch = some 2400#32 ∧
      tickReached (atTick 2399 0 State.reset).time.tick 2400#32 = false ∧
      tickReached (atTick 2400 0 State.reset).time.tick 2400#32 = true := by
  refine ⟨by decide, by decide, by decide, by decide, ?_, by decide, by decide, by decide, by decide, by decide,
    by decide, by decide, by decide⟩
  intro j k
  fin_cases j <;> cases k <;> decide

/-- A size that a list of line widths gives is that of its regular frame, or none. -/
theorem witness_CamerasLockAndFillTheStore_sizes :
    (∀ n w : Nat, List.replicate 720 1280 = List.replicate (n + 1) w →
      (some { width := 1280, height := 720 } : Option Size) = some { width := w, height := n + 1 }) ∧
    ∀ n w : Nat, ([1280, 1279] : List Nat) ≠ List.replicate (n + 1) w := by
  constructor
  · intro n w h
    have hl := congrArg List.length h
    rw [List.length_replicate, List.length_replicate] at hl
    have hm : w ∈ List.replicate 720 1280 := by
      rw [h]
      exact List.mem_replicate.2 ⟨Nat.succ_ne_zero n, rfl⟩
    have hw := List.eq_of_mem_replicate hm
    rw [← hl, hw]
  · intro n w h
    have hl : 2 = n + 1 := by simpa using congrArg List.length h
    have : n = 1 := by omega
    subst this
    simp [List.replicate_succ] at h
    omega

/-- No failover is due where its mark is clear and its time has not come. -/
theorem not_due (s : State) (h : s.video.failoverDue = false) (hf : s.video.failover = none) : ¬s.failsOver := by
  rintro (hd | ⟨_, he, -⟩)
  · rw [h] at hd
    cases hd
  · rw [hf] at he
    cases he

/-- The frame of picture 7 of camera A, of the expected size. -/
def frameA : Frame := { camera := .a, size := defaultSettings.size, image := 7 }

/-- Camera A films as above, camera B is in this state, and the mode is this. -/
def facing (mode : VideoMode) (b : CameraState) (s : State) : State :=
  { s with video := { s.video with mode := mode, camB := { Cam.initial with state := b, lockTick := some 5#32 } } }

/-- The selection's expiries. -/
def expiring (failover hold revert : Option Tick) (s : State) : State :=
  { s with video := { s.video with failover := failover, holdExp := hold, revertExp := revert } }

/-- An empty frame store. -/
def emptied : Vector Buffer 3 := Vector.replicate 3 .free

theorem witness_VideoSelectionMovesAtTheBoundary :
    State.reset.accepts ∧ 2 < 3 ∧ 2 ≤ 2 ∧
      ({ State.reset.video with failover := some 10#32 } : Video).failover = some 10#32 ∧
      (atTick 0 16683 State.reset).video.boundaryDue = 50050 ∧
      3 * (atTick 0 16683 State.reset).time.micros < 50050 ∧ 50050 ≤ 3 * (atTick 0 16684 State.reset).time.micros ∧
      (facing .auto .locked (filming .locked .none emptied)).video.revertExp = none := by decide

/-- Each way in which a boundary leaves the selection: failover from A and from B, a hold, a hold in the failed camera's own
mode, the revert, VIDEO SELECT with the named camera LOCKED and not, and no change. -/
theorem witness_VideoSelectionMovesAtTheBoundary_active :
    (expiring (some 0#32) none none (facing .auto .locked (filming .noSignal .aActive emptied))).Selects .bActive ∧
      (expiring (some 0#32) none none (facing .auto .noSignal (filming .locked .bActive emptied))).Selects .aActive ∧
      (expiring (some 0#32) none none (facing .auto .noSignal (filming .noSignal .aActive emptied))).Selects .holding ∧
      (expiring (some 0#32) none none (facing .a .locked (filming .noSignal .aActive emptied))).Selects .holding ∧
      (expiring none none (some 0#32) (facing .auto .locked (filming .locked .bActive emptied))).Selects .aActive ∧
      (facing .b .locked (filming .locked .aActive emptied)).Selects .bActive ∧
      (facing .b .noSignal (filming .locked .aActive emptied)).Selects .holding ∧
      (facing .auto .locked (filming .locked .aActive emptied)).Selects .aActive := by
  have quiet (s : State) (hs : s.video.sel = .aActive) : ¬s.reverts := fun h => by
    have h1 := h.1
    rw [hs] at h1
    cases h1
  refine ⟨.failover .a rfl ⟨.inr ⟨0#32, rfl, by decide⟩, by decide⟩ rfl (by decide),
    .failover .b rfl ⟨.inr ⟨0#32, rfl, by decide⟩, by decide⟩ rfl (by decide),
    .hold .a rfl ⟨.inr ⟨0#32, rfl, by decide⟩, by decide⟩ rfl (by decide),
    .holdNamed .a rfl ⟨.inr ⟨0#32, rfl, by decide⟩, by decide⟩ rfl,
    .revert (fun h => h.2 (by decide)) ⟨rfl, 0#32, rfl, by decide⟩ rfl,
    .takesNamed .a rfl (quiet _ rfl) rfl (by decide), .awaitsNamed .a rfl (quiet _ rfl) rfl (by decide),
    .stays .a rfl (fun h => h.2 (by decide)) (quiet _ rfl) (.inl rfl)⟩

/-- In HOLDING and NONE: the named camera, the one LOCKED, the first of two LOCKED, the end of a hold, and waiting. -/
theorem witness_VideoSelectionMovesAtTheBoundary_taking :
    (facing .b .locked (filming .locked .none emptied)).Selects .bActive ∧
      (facing .auto .locked (filming .noSignal .none emptied)).Selects .bActive ∧
      (facing .auto .locked (filming .locked .holding emptied)).Selects .aActive ∧
      (expiring none (some 0#32) none (facing .auto .noSignal (filming .noSignal .holding emptied))).Selects .none ∧
      (expiring none (some 9#32) none (facing .auto .noSignal (filming .noSignal .holding emptied))).Selects .holding ∧
      (facing .a .locked (filming .noSignal .none emptied)).Selects .none := by
  refine ⟨.takesBack .b rfl (.named .b rfl (by decide)), .takesBack .b rfl (.alone .b rfl (by decide) (by decide)),
    .takesBack .a rfl (.firstA 0#32 5#32 rfl (by decide) (by decide) rfl rfl (by decide)),
    .ends ⟨rfl, 0#32, rfl, by decide⟩ ?_, .waits rfl ?_ ?_, .without rfl ?_⟩
  · intro c _; cases c <;> decide
  · rintro ⟨-, e, he, h⟩
    cases he
    exact absurd h (by decide)
  · intro c _; cases c <;> decide
  · intro c hc
    cases c
    · decide
    · rcases hc with h | h <;> cases h

/-- A frame store of one SHOWN buffer, one COMPLETE and one FILLING at most. -/
theorem filming_sound (b : Vector Buffer 3)
    (h : b = emptied ∨ b = #v[.complete frameA, .shown frameA, .filling .a] ∨ b = #v[.shown frameA, .free, .free]) :
    (filming .locked .aActive b).videoSound := by
  refine ⟨?_, ?_, ?_, fun h => (h rfl).elim, (fun h => by cases h), ⟨fun h => (h rfl).elim, (fun h => by cases h)⟩,
    fun h => (h rfl).elim, ?_⟩
  · rcases h with rfl | rfl | rfl <;> intro j k f g hj hk <;> fin_cases j <;> fin_cases k <;>
      first | rfl | (cases hj <;> cases hk)
  · rcases h with rfl | rfl | rfl <;> intro j k f g hj hk <;> fin_cases j <;> fin_cases k <;>
      first | rfl | (cases hj <;> cases hk)
  · rcases h with rfl | rfl | rfl <;> intro j k f g hj hk <;> fin_cases j <;> fin_cases k <;>
      first | rfl | (cases hj <;> cases hk)
  intro c hc
  cases c
  · exact fun h => by cases h
  · cases hc

theorem witness_ReaderShowsTheNewestFrame :
    (atTick 100 100000 (filming .locked .aActive emptied)).resetHeld = false ∧
      (atTick 100 100000 (filming .locked .aActive emptied)).video.boundaryDue ≤
        3 * (atTick 100 100000 (filming .locked .aActive emptied)).time.micros ∧
      (filming .locked .aActive #v[.complete frameA, .shown frameA, .filling .a]).videoSound ∧
      (filming .locked .aActive #v[.shown frameA, .free, .free]).videoSound :=
  ⟨rfl, by decide, filming_sound _ (.inr (.inl rfl)), filming_sound _ (.inr (.inr rfl))⟩

/-- R145: a COMPLETE frame is shown in the place of the SHOWN one; with none the repeat of A's own frame is counted. -/
theorem test_reader :
    (after .outputFrameBoundary (atTick 100 100000 (filming .locked .aActive
        #v[.complete frameA, .shown frameA, .filling .a]))).video.buffers = #v[.shown frameA, .free, .filling .a] ∧
      (after .outputFrameBoundary (atTick 100 100000 (filming .locked .aActive
        #v[.shown frameA, .free, .free]))).video.repeats = 1 := by decide +kernel

/-- The lamp's square at the end of a strip 480 wide. -/
def lampSquare : Rect := { left := 416, top := 0, width := 64, height := 64 }

theorem witness_PicturesShowWhatIsLatched :
    ((atTick 100 100000 (filming .locked .aActive emptied)).resetHeld = false ∧
      (atTick 100 100000 (filming .locked .aActive emptied)).video.boundaryDue ≤
        3 * (atTick 100 100000 (filming .locked .aActive emptied)).time.micros ∧
      64 ≤ (filming .locked .aActive emptied).book.settings.width ∧
      64 ≤ (filming .locked .aActive emptied).book.settings.height ∧ 639 < 640 ∧ 5 < 480 ∧
      (filming .locked .aActive emptied).overlay.stopCard = none ∧
      (filming .locked .aActive emptied).overlay.countCard = none ∧
      (filming .locked .aActive emptied).book.chairs[(0 : Chair)].overlay = true ∧
      (State.reset.overlay.views[(0 : Chair)]).composing = false) ∧
      (filming .locked .aActive emptied).videoSound ∧
      putsRect .deg90 { width := 640, height := 480 } { left := 5, top := 0, width := 1, height := 1 }
        { left := 639, top := 5, width := 1, height := 1 } ∧
      putsRect .deg90 { width := 640, height := 480 } { left := 0, top := 0, width := 480, height := 64 }
        { left := 576, top := 0, width := 64, height := 480 } ∧
      ({ left := 0, top := 0, width := 480, height := 64 } : Rect).covers 0 5 ∧ ¬lampSquare.covers 0 5 ∧
      lampSquare.covers 63 479 :=
  ⟨by decide, filming_sound _ (.inl rfl), ⟨rfl, rfl, rfl, rfl⟩, ⟨rfl, rfl, rfl, rfl⟩, ⟨by decide, by decide, by decide, by decide⟩,
    fun h => absurd h.2.2.1 (by decide), ⟨by decide, by decide, by decide, by decide⟩⟩

/-- The monitor is ARMED with these samples in every source's window. -/
def armed (samples : List Bool) (s : State) : State :=
  { s with faults := { s.faults with
      armed := true, sources := Vector.replicate 70 { window := samples, live := false, held := false } } }

theorem witness_FaultSetAmendsOneSource :
    State.reset.accepts ∧ State.reset.busy = false ∧ 70 < 71 ∧ 3 < 4 ∧ 2 < 3 ∧
      faultSetOf 70 0 2 = some (69, { window := .w10, action := .stop }) ∧
      (armed [] State.reset).faults.armed = true ∧
      (WindowClass.w10).samples < (armed [] State.reset).book.settings.faults[(69 : Source)].window.samples ∧
      State.reset.faults.armed = false ∧
      (WindowClass.w25).samples ≤ (armed [] State.reset).book.settings.faults[(69 : Source)].window.samples ∧
      faultSetOf 1 1 0 = some (0, { window := .w25, action := .ignore }) ∧
      State.reset.book.settings.faults[(0 : Source)].action = .report := by decide +kernel

theorem witness_FaultSampleJudgesEverySource :
    State.reset.resetHeld = false ∧ tickReached (atTick 479 0 State.reset).time.tick State.reset.faults.sampleDue = false ∧
      tickReached (atTick 480 0 State.reset).time.tick State.reset.faults.sampleDue = true ∧
      State.reset.faults.armed = false ∧ (armed (List.replicate 12 true) State.reset).faults.armed = true ∧
      State.reset.book.settings.faults[(0 : Source)].action ≠ .ignore ∧
      (after .faultSampleStep (atTick 480 0 State.reset)).faults.raised = State.reset.faults.raised ∧
      (after .showOpen State.reset).faults.armExp = some 96000#32 := by decide +kernel

theorem witness_FaultReadAndClear : State.reset.accepts ∧ 70 < 71 ∧ ((69 : Source).val + 1 = 70) := by decide

/-- A sound book: song 1 with its segment, and a cue that names its patch. -/
def soundShow : State := stage [patchCue 1]

theorem witness_EveryStepKeepsFaultsVideoAndTheClosedShow :
    State.reset.faultsSound ∧ State.reset.closedQuiet ∧ (filming .locked .aActive emptied).videoSound ∧
      ∃ t : State, step { State.reset with pending := [.faultSampleStep] } = .next t :=
  ⟨⟨fun i h => by revert h; revert i; decide +kernel, fun _ => ⟨rfl, rfl, by decide +kernel⟩⟩, fun _ => ⟨rfl, rfl⟩, filming_sound _ (.inl rfl), _, rfl⟩

theorem witness_EveryStepKeepsTheBookSound : soundShow.book.Sound :=
  { songKeys := by decide
    segmentKeys := by decide
    patchKeys := by decide
    cueKeys := by decide
    segmentsInside := fun g hg => by
      rcases List.mem_singleton.1 hg with rfl
      exact ⟨song1, by decide, by decide, by decide⟩
    cuesNamed := fun c hc => by
      rcases List.mem_singleton.1 hc with rfl
      exact { song := fun _ h => by cases h
              start := fun _ _ h => by cases h
              patches := fun a ha n h => by
                rcases List.mem_singleton.1 ha with rfl
                cases h
                decide }
    cuesValid := fun c hc => by
      rcases List.mem_singleton.1 hc with rfl
      exact { chairs := by decide
              bar := fun _ _ _ h => by cases h
              start := fun _ _ h => by cases h
              mask := fun _ => .inl rfl
              vamp := fun _ _ h => by cases h }
    cueCounts := by decide
    patchRefs := by decide
    segmentRoom := ⟨by decide, fun song => Nat.le_trans (List.length_filter_le _ _) (by decide)⟩
    patchRoom := by decide
    cueRoom := by decide }

theorem witness_EveryStepKeepsTheRunStatesSound : soundShow.runsSound :=
  { closed := fun h => by cases h
    busy := fun h => by cases h
    entries := fun _ n => by
      by_cases h : num 1 = n <;> simp [soundShow, stage, house, CueEngine.entry?, Book.cue?, patchCue, goCue, h]
    standby := fun _ n => by
      by_cases h : num 1 = n <;>
        simp [soundShow, stage, house, State.runState, CueEngine.entry?, patchCue, goCue, h]
    standbyCue := fun n h => by
      cases h
      exact ⟨patchCue 1, by decide, rfl, fun ⟨_, _, hn, _⟩ => by cases hn⟩
    pending := fun _ c hc _ ⟨_, _, hn, _⟩ => by
      rcases List.mem_singleton.1 hc with rfl
      cases hn
    marks := fun _ c hc _ _ _ _ ⟨_, _, hn, _⟩ => by
      rcases List.mem_singleton.1 hc with rfl
      cases hn
    held := fun _ h => by cases h
    firing := fun _ n => by
      have idle (chair : Chair) : soundShow.patch[chair] = Dispatch.initial := by
        simp [soundShow, stage, house, State.reset]
      constructor
      · intro h
        by_cases hn : num 1 = n <;>
          simp [soundShow, stage, house, State.runState, CueEngine.entry?, patchCue, goCue, hn] at h
      · rintro ⟨chair, sel, h | ⟨f, h, -⟩⟩ <;> rw [idle] at h <;> cases h }

end Sys2Proof.Tests
end

/-! PROOFS. The shape of a step: every command is a request that its owner decides, an event, or one of the commands of the
pins. What each of these keeps, every step keeps. -/

namespace Sys2Proof.Proofs

open Sys2Proof.Machine Sys2Proof.Laws

/-- The state change of a command that is an event; none for a request and for the commands of the pins and of the
frames. -/
def eventOf : Instr → Option (State → State)
  | .ownerAnswer => some ownerAnswer
  | .beatProduction => some beatReached
  | .songEnd => some songEnd
  | .barTrigger => some barTrigger
  | .followTimerExpiry => some followExpiry
  | .goGuardExpiry => some guardExpiry
  | .countInBeat => some countInBeat
  | .countInEnd => some countInEnd
  | .syncLock => some (setSyncLock true)
  | .syncUnlock => some (setSyncLock false)
  | .clickSend c => some (sendClick c)
  | .patchTimeout c => some (patchTimeout c)
  | .probePeriod c => some (probePeriod c)
  | .probeLost c => some (probeLost c)
  | .lineActivity c => some (lineActivity c)
  | .holdOffExpiry c => some (holdOffExpiry c)
  | .trainFrame c => some (trainFrame c)
  | .trainingTimeout c => some (trainingTimeout c)
  | .silenceTimeout c => some (silenceTimeout c)
  | .leakStep => some leakStep
  | .uplinkDamaged c bytes => some (arrive c (checkUplink bytes))
  | .hello c seq version latency flags => some (arrive c (formatCheck seq (helloMsg version latency.toNat flags)))
  | .goPress c seq => some (arrive c (.passed seq .goPress))
  | .patchAck c seq tag result => some (arrive c (formatCheck seq (patchAckMsg tag result)))
  | .echo c seq id turnaround => some (arrive c (.passed seq (.echo id turnaround.toNat)))
  | .idle c seq => some (arrive c (.passed seq .idle))
  | .downlinkGrant c => some (grant c)
  | .cameraFrameStart cam => some (frameStart cam)
  | .cameraFrameArrival cam widths image => some (frameArrival cam widths image)
  | .signalWatchExpiry cam => some (signalWatchExpiry cam)
  | .failoverExpiry => some failoverExpiry
  | .outputFrameBoundary => some frameBoundary
  | .padSample bytes => some (padFrame bytes)
  | .padLoss => some padLoss
  | .holdPoint => some holdPointReached
  | .stopPoint => some stopPointReached
  | .stopLineDebounce => some lineDebounce
  | .faultSampleStep => some sampleStep
  | .armingExpiry => some armingExpiry
  | .imageHeaderRead bytes => some (headerRead bytes)
  | .imageRecordInstall code length payload => some (recordInstall code length payload)
  | .imageBodyEnd => some bodyEnd
  | .slotEraseDone readBack => some (eraseDone readBack)
  | .eraseTimeout => some eraseTimeout
  | .imageRecordWrite readBack => some (recordWritten readBack)
  | .programTimeout => some programTimeout
  | .imageHeaderWrite readBack => some (headerWritten readBack)
  | _ => none

/-- What a command is: a request, an event, or one of the commands of the pins and the frames. -/
theorem exec_kind (i : Instr) :
    (∃ d, decisionOf i = some d ∧ exec i = request d) ∨ (∃ f, eventOf i = some f ∧ exec i = event f) ∨
      (∃ boot, i = .powerOn boot) ∨ (∃ bytes, i = .requestFrame bytes) ∨ (∃ count, i = .answerRead count) ∨
      (∃ active, i = .stopInChange active) ∨ i = .resetNAsserted := by
  cases i
  case powerOn boot => exact .inr (.inr (.inl ⟨boot, rfl⟩))
  case requestFrame bytes => exact .inr (.inr (.inr (.inl ⟨bytes, rfl⟩)))
  case answerRead count => exact .inr (.inr (.inr (.inr (.inl ⟨count, rfl⟩))))
  case stopInChange active => exact .inr (.inr (.inr (.inr (.inr (.inl ⟨active, rfl⟩)))))
  case resetNAsserted => exact .inr (.inr (.inr (.inr (.inr (.inr rfl)))))
  all_goals first
    | exact .inl ⟨_, rfl, rfl⟩
    | exact .inr (.inl ⟨_, rfl, rfl⟩)

/-- A property of the state that the queue, the time, the port and the raw stop input have no part in, and that every
decision, every event and both edges of RESET_N keep. -/
structure Kept (P : State → Prop) : Prop where
  queue : ∀ (s : State) (l : List Instr), P s → P { s with pending := l }
  time : ∀ (s : State) (t : Time), P s → P { s with time := t }
  port : ∀ (s : State) (p : Port), P s → P { s with port := p }
  stop : ∀ (s : State) (k : StopController), P s → P { s with stop := k }
  decision : ∀ (i : Instr) (d : State → Decision) (s : State), decisionOf i = some d → P s → P (d s).1
  event : ∀ (i : Instr) (f : State → State) (s : State), eventOf i = some f → P s → P (f s)
  powerOn : ∀ (boot : Bool) (s : State), P s → P (powerOn boot s)
  assertReset : ∀ s : State, P s → P (assertReset s)

variable {P : State → Prop}

/-- A request keeps what its decision keeps. -/
theorem Kept.request_keeps (h : Kept P) {d : State → Decision} (hd : ∀ s, P s → P (d s).1) {s t : State} (hs : P s)
    (ht : request d s = .next t) : P t := by
  unfold request at ht
  split at ht
  · cases ht; exact hs
  · split at ht
    · cases ht; exact h.port _ _ hs
    · cases ht; exact h.port _ _ (hd _ (h.port _ _ hs))
    · cases ht; exact h.port _ _ (hd _ (h.port _ _ hs))

/-- An event keeps what its state change keeps. -/
theorem event_keeps {f : State → State} (hf : ∀ s, P s → P (f s)) {s t : State} (hs : P s)
    (ht : event f s = .next t) : P t := by
  unfold event at ht
  split at ht
  · cases ht; exact hs
  · cases ht; exact hf _ hs

/-- A request frame's decision keeps what the decisions of the requests keep. -/
theorem Kept.frameDecision_keeps (h : Kept P) (bytes : List Byte) {s : State} (hs : P s) :
    P (frameDecision bytes s).1 := by
  unfold frameDecision
  split
  · unfold refuseFrame
    split <;> exact hs
  · rename_i i _
    cases hd : decisionOf i with
    | some d => exact h.decision i d s hd hs
    | none => exact hs

theorem Kept.answerRead_keeps (h : Kept P) (count : Nat) {s : State} (hs : P s) : P (answerRead count s) := by
  unfold answerRead
  split <;> exact h.port _ _ hs

/-- Every command keeps what its kind keeps. -/
theorem Kept.exec_keeps (h : Kept P) (i : Instr) {s t : State} (hs : P s) (ht : exec i s = .next t) : P t := by
  rcases exec_kind i with ⟨d, hd, he⟩ | ⟨f, hf, he⟩ | ⟨boot, rfl⟩ | ⟨bytes, rfl⟩ | ⟨count, rfl⟩ | ⟨active, rfl⟩ | rfl
  · exact h.request_keeps (fun s => h.decision i d s hd) hs (by rw [he] at ht; exact ht)
  · exact event_keeps (fun s => h.event i f s hf) hs (by rw [he] at ht; exact ht)
  · cases ht; exact h.powerOn boot s hs
  · simp only [exec, execRequestFrame] at ht
    split at ht
    · split at ht
      · exact h.request_keeps (fun s => h.frameDecision_keeps _) hs ht
      · split at ht
        · cases ht; exact h.answerRead_keeps _ hs
        · cases ht; exact hs
    · cases ht; exact hs
  · cases ht; exact h.answerRead_keeps count hs
  · simp only [exec, execStopInChange] at ht
    split at ht
    · cases ht; exact h.stop _ _ hs
    · refine event_keeps (fun s hs => ?_) hs ht
      unfold stopInChange
      split
      · exact hs
      · exact h.stop _ _ hs
  · cases ht; exact h.assertReset s hs

theorem Kept.advance_keeps (h : Kept P) {s : State} (hs : P s) : P (advance s) := by
  unfold advance
  split
  · exact hs
  · split <;> exact h.time _ _ hs

/-- Every step keeps what every command and the passing of time keep. -/
theorem Kept.step_keeps (h : Kept P) {s t : State} (hs : P s) (ht : step s = .next t) : P t := by
  unfold step at ht
  split at ht
  · cases ht; exact h.advance_keeps hs
  · exact h.exec_keeps _ (h.queue _ _ hs) ht

end Sys2Proof.Proofs

/-! PROOFS. The tables of the book as lists: what putting a record in and taking one out does to their records, their keys
and their counts. -/

namespace Sys2Proof.Proofs

open Sys2Proof.Machine Sys2Proof.Laws

section tables
variable {α : Type} {same before : α → α → Bool} {p : α → Bool} {x : α} {l : List α}

/-- At most one record of the list is named by `p`. -/
def AtMostOne (p : α → Bool) (l : List α) : Prop := l.Pairwise fun y z => ¬(p y = true ∧ p z = true)

theorem AtMostOne.of_keys {R : α → α → Prop} (h : l.Pairwise R) (hp : ∀ y z, R y z → p y = true → p z = false) :
    AtMostOne p l :=
  h.imp fun hR ⟨hy, hz⟩ => by rw [hp _ _ hR hy] at hz; cases hz

theorem AtMostOne.cons_true {y : α} {ys : List α} (h : AtMostOne p (y :: ys)) (hy : p y = true) :
    ∀ z ∈ ys, p z = false := by
  intro z hz
  have := (List.pairwise_cons.1 h).1 z hz
  simpa [hy] using this

/-- A record that is named is the one that is found. -/
theorem AtMostOne.find? (h : AtMostOne p l) (hx : x ∈ l) (hp : p x = true) : l.find? p = some x := by
  induction l with
  | nil => cases hx
  | cons y ys ih =>
    by_cases hy : p y = true
    · rcases List.mem_cons.1 hx with rfl | hx
      · simp [hy]
      · have := h.cons_true hy x hx
        rw [hp] at this; cases this
    · rcases List.mem_cons.1 hx with rfl | hx
      · exact absurd hp hy
      · simpa [hy] using ih (List.pairwise_cons.1 h).2 hx

/-- A list is the record that is named, if any, and the others. -/
theorem AtMostOne.perm (h : AtMostOne p l) : l.Perm ((l.find? p).toList ++ l.filter fun y => !p y) := by
  induction l with
  | nil => rfl
  | cons y ys ih =>
    by_cases hy : p y = true
    · have hrest : ys.filter (fun z => !p z) = ys :=
        List.filter_eq_self.2 fun z hz => by simp [h.cons_true hy z hz]
      simp [hy, hrest]
    · have := (List.Perm.cons y (ih (List.pairwise_cons.1 h).2)).trans List.perm_middle.symm
      simpa [hy] using this

theorem insertBefore_perm (x : α) (l : List α) : (insertBefore before x l).Perm (x :: l) := by
  induction l with
  | nil => rfl
  | cons y ys ih =>
    unfold insertBefore
    split
    · rfl
    · exact (List.Perm.cons y ih).trans (List.Perm.swap x y ys)

/-- A table with a record put in is that record and the records under other keys. -/
theorem upsert_perm (hp : ∀ y, same x y = p y) (h : AtMostOne p l) :
    (upsert same before x l).Perm (x :: l.filter fun y => !p y) := by
  have hs : same x = p := funext hp
  unfold upsert
  rw [hs]
  by_cases ha : l.any p = true
  · rw [if_pos ha]
    clear hp hs
    induction l with
    | nil => simp at ha
    | cons y ys ih =>
      by_cases hy : p y = true
      · have hrest := h.cons_true hy
        have hmap : ys.map (fun z => if p z = true then x else z) = ys := by
          conv_rhs => rw [← List.map_id ys]
          exact List.map_congr_left fun z hz => by simp [hrest z hz]
        have hfilter : ys.filter (fun z => !p z) = ys := List.filter_eq_self.2 fun z hz => by simp [hrest z hz]
        simp [hy, hmap, hfilter]
      · have := (List.Perm.cons y (ih (List.pairwise_cons.1 h).2 (by simpa [hy] using ha))).trans
          (List.Perm.swap x y _)
        simpa [hy] using this
  · rw [if_neg ha]
    have hfilter : l.filter (fun y => !p y) = l :=
      List.filter_eq_self.2 fun y hy => by
        have : ¬p y = true := fun h => ha (List.any_eq_true.2 ⟨y, hy, h⟩)
        simp [this]
    rw [hfilter]
    exact insertBefore_perm x l

/-- The table `new` is the table `l` with the record `x` put in under the key that `p` names: that record, and the records
under other keys. -/
def PutIn (p : α → Bool) (x : α) (l new : List α) : Prop := new.Perm (x :: l.filter fun y => !p y)

variable {new : List α}

theorem PutIn.mem (h : PutIn p x l new) {y : α} : y ∈ new ↔ y = x ∨ (y ∈ l ∧ p y = false) := by
  rw [h.mem_iff]
  simp

/-- Keys that stand once still do when a record is put in. -/
theorem PutIn.pairwise (h : PutIn p x l new) {R : α → α → Prop} (hR : ∀ y z, R y z → R z y)
    (hx : ∀ y, p y = false → R x y) (hl : l.Pairwise R) : new.Pairwise R := by
  rw [List.Perm.pairwise_iff (fun {y z} => hR y z) h]
  refine List.pairwise_cons.2 ⟨fun y hy => hx y ?_, hl.filter _⟩
  simpa using (List.mem_filter.1 hy).2

/-- What is summed over a table moves by the record put in and by the one it replaces. -/
theorem PutIn.sum (h : PutIn p x l new) (f : α → Nat) (one : AtMostOne p l) :
    (new.map f).sum + ((l.find? p).map f).getD 0 = (l.map f).sum + f x := by
  rw [(List.Perm.map f h).sum_eq, (one.perm.map f).sum_eq]
  cases l.find? p <;> simp <;> omega

/-- The records of a kind that a table holds, after a record is put in. -/
theorem PutIn.length_filter (h : PutIn p x l new) (q : α → Bool) :
    (new.filter q).length = (q x).toNat + ((l.filter fun y => !p y).filter q).length := by
  rw [(List.Perm.filter q h).length_eq]
  cases hq : q x <;> (simp [hq]; try omega)

/-- The records of a kind that a table holds, as the record that is named and the others. -/
theorem AtMostOne.length_filter (q : α → Bool) (h : AtMostOne p l) :
    (l.filter q).length = ((l.find? p).any q).toNat + ((l.filter fun y => !p y).filter q).length := by
  rw [(h.perm.filter q).length_eq]
  cases hf : l.find? p with
  | none => simp
  | some y => cases hq : q y <;> (simp [hq]; try omega)

/-- A record put in takes a place of its own only where it replaces none. -/
theorem PutIn.length (h : PutIn p x l new) (one : AtMostOne p l) :
    new.length = if (l.find? p).isSome then l.length else l.length + 1 := by
  have hnew := h.length_filter fun _ => true
  have hold := one.length_filter fun _ => true
  rw [List.filter_true] at hnew hold
  cases hf : l.find? p <;> simp [hf] at hnew hold ⊢ <;> omega

end tables

end Sys2Proof.Proofs

/-! PROOFS. The book: what its lookups find after each change of a table, and what names a song or a patch. -/

namespace Sys2Proof.Proofs

open Sys2Proof.Machine Sys2Proof.Laws

variable {b : Book} {n m bar : Nat} {k i : CueNumber} {c d : Chair}

/-! ## What a lookup finds -/

theorem song?_key {r : Song} (h : b.song? n = some r) : r ∈ b.songs ∧ r.number = n :=
  ⟨List.mem_of_find?_eq_some h, by simpa using List.find?_some h⟩

theorem segment?_key {g : Segment} (h : b.segment? n bar = some g) : g ∈ b.segments ∧ g.song = n ∧ g.startBar = bar :=
  ⟨List.mem_of_find?_eq_some h, by simpa using List.find?_some h⟩

theorem patch?_key {p : Patch} (h : b.patch? c n = some p) : p ∈ b.patches ∧ p.chair = c ∧ p.number = n :=
  ⟨List.mem_of_find?_eq_some h, by simpa using List.find?_some h⟩

theorem cue?_key {q : Cue} (h : b.cue? k = some q) : q ∈ b.cues ∧ q.number = k :=
  ⟨List.mem_of_find?_eq_some h, by simpa using List.find?_some h⟩

theorem cue?_isSome_of_mem {q : Cue} (h : q ∈ b.cues) : (b.cue? q.number).isSome = true := by
  rw [Book.cue?, List.find?_isSome]; exact ⟨q, h, by simp⟩

/-! ## The tables after a change -/

theorem putSong_songs (b : Book) (r : Song) : (b.putSong r).songs =
    upsert (fun x y => decide (x.number = y.number)) (fun x y => decide (x.number < y.number)) r b.songs := rfl

theorem putSegment_segments (b : Book) (g : Segment) : (b.putSegment g).segments =
    upsert (fun x y => decide (x.song = y.song) && decide (x.startBar = y.startBar)) Segment.before g b.segments := rfl

theorem putPatch_patches (b : Book) (p : Patch) : (b.putPatch p).patches =
    upsert (fun x y => decide (x.chair = y.chair) && decide (x.number = y.number)) Patch.before p b.patches := rfl

theorem putCue_cues (b : Book) (q : Cue) : (b.putCue q).cues =
    upsert (fun x y => decide (x.number = y.number)) (fun x y => x.number.before y.number) q b.cues := rfl

/-! ## Lookups after a record is put in -/

theorem song?_putSong (b : Book) (r : Song) (n : Nat) :
    (b.putSong r).song? n = if n = r.number then some r else b.song? n := by
  rw [Book.song?, Book.song?, putSong_songs]
  split
  next h =>
    refine find?_upsert_self _ _ _ r _ ?_ fun y => ?_ <;> simp [h, eq_comm]
  next h =>
    refine find?_upsert_other _ _ _ r _ ?_ fun y hy => ?_
    · simpa using Ne.symm h
    · simp at hy ⊢; omega

theorem segment?_putSegment (b : Book) (g : Segment) (n bar : Nat) :
    (b.putSegment g).segment? n bar = if n = g.song ∧ bar = g.startBar then some g else b.segment? n bar := by
  rw [Book.segment?, Book.segment?, putSegment_segments]
  split
  next h =>
    refine find?_upsert_self _ _ _ g _ ?_ fun y => ?_ <;> simp [h, eq_comm]
  next h =>
    refine find?_upsert_other _ _ _ g _ ?_ fun y hy => ?_
    · simp; omega
    · simp at hy ⊢; omega

theorem patch?_putPatch (b : Book) (p : Patch) (c : Chair) (n : Nat) :
    (b.putPatch p).patch? c n = if c = p.chair ∧ n = p.number then some p else b.patch? c n := by
  rw [Book.patch?, Book.patch?, putPatch_patches]
  split
  next h =>
    refine find?_upsert_self _ _ _ p _ ?_ fun y => ?_ <;> simp [h, eq_comm]
  next h =>
    refine find?_upsert_other _ _ _ p _ ?_ fun y hy => ?_
    · simp; tauto
    · simp at hy ⊢; rw [← hy.1, ← hy.2]; tauto

/-- A song's count after a cue record changes from `old` to `new` (R5). -/
def recountSong (old new : Option Cue) (r : Song) : Song :=
  { r with cueCount := shiftCount (old.any (·.namesSong r.number)) (new.any (·.namesSong r.number)) r.cueCount }

/-- A patch's references after a cue record changes from `old` to `new` (R5). -/
def recountPatch (old new : Option Cue) (p : Patch) : Patch :=
  { p with refs := shiftCount (old.any (·.namesPatch p.chair p.number)) (new.any (·.namesPatch p.chair p.number)) p.refs }

theorem song?_recount (b : Book) (old new : Option Cue) (n : Nat) :
    (b.recount old new).song? n = (b.song? n).map (recountSong old new) := by
  simp only [Book.song?, Book.recount, List.find?_map]
  rfl

theorem patch?_recount (b : Book) (old new : Option Cue) (c : Chair) (n : Nat) :
    (b.recount old new).patch? c n = (b.patch? c n).map (recountPatch old new) := by
  simp only [Book.patch?, Book.recount, List.find?_map]
  rfl

theorem song?_putCue (b : Book) (q : Cue) (n : Nat) :
    (b.putCue q).song? n = (b.song? n).map (recountSong (b.cue? q.number) (some q)) := song?_recount ..

theorem patch?_putCue (b : Book) (q : Cue) (c : Chair) (n : Nat) :
    (b.putCue q).patch? c n = (b.patch? c n).map (recountPatch (b.cue? q.number) (some q)) := patch?_recount ..

theorem cue?_putCue (b : Book) (q : Cue) (k : CueNumber) :
    (b.putCue q).cue? k = if k = q.number then some q else b.cue? k := by
  rw [Book.cue?, Book.cue?, putCue_cues]
  split
  next h =>
    refine find?_upsert_self _ _ _ q _ ?_ fun y => ?_ <;> simp [h, eq_comm]
  next h =>
    refine find?_upsert_other _ _ _ q _ ?_ fun y hy => ?_
    · simpa using Ne.symm h
    · simp at hy ⊢; rw [← hy]; exact Ne.symm h

/-! ## Lookups after a record is taken out -/

theorem song?_dropSong (b : Book) (n m : Nat) : (b.dropSong n).song? m = if m = n then none else b.song? m := by
  simp only [Book.song?, Book.dropSong, List.find?_filter]
  split
  next h => simp [h]
  next h => congr 1; funext r; by_cases hr : r.number = m <;> simp [hr, h]

theorem segment?_dropSong (b : Book) (n m bar : Nat) :
    (b.dropSong n).segment? m bar = if m = n then none else b.segment? m bar := by
  simp only [Book.segment?, Book.dropSong, List.find?_filter]
  split
  next h => rw [List.find?_eq_none]; intro r _; simp; omega
  next h => congr 1; funext r; by_cases hr : r.song = m <;> simp [hr, h]

theorem segment?_dropSegment (b : Book) (n bar m other : Nat) :
    (b.dropSegment n bar).segment? m other = if m = n ∧ other = bar then none else b.segment? m other := by
  simp only [Book.segment?, Book.dropSegment, List.find?_filter]
  split
  next h => rw [List.find?_eq_none]; intro r _; simp; omega
  next h =>
    congr 1; funext r
    by_cases hr : r.song = m <;> by_cases hb : r.startBar = other <;> simp [hr, hb]
    omega

theorem patch?_dropPatch (b : Book) (c : Chair) (n : Nat) (d : Chair) (m : Nat) :
    (b.dropPatch c n).patch? d m = if d = c ∧ m = n then none else b.patch? d m := by
  simp only [Book.patch?, Book.dropPatch, List.find?_filter]
  split
  next h => rw [List.find?_eq_none]; intro r _; simp [h]; tauto
  next h =>
    congr 1; funext r
    by_cases hr : r.chair = d <;> by_cases hb : r.number = m <;> simp [hr, hb]
    tauto

theorem cue?_dropCue (b : Book) (k i : CueNumber) : (b.dropCue k).cue? i = if i = k then none else b.cue? i := by
  simp only [Book.cue?, Book.dropCue, Book.recount, List.find?_filter]
  split
  next h => rw [List.find?_eq_none]; intro r _; simp [h]
  next h => congr 1; funext r; by_cases hr : r.number = i <;> simp [hr, h]

theorem song?_dropCue (b : Book) (k : CueNumber) (n : Nat) :
    (b.dropCue k).song? n = (b.song? n).map (recountSong (b.cue? k) none) := song?_recount ..

theorem patch?_dropCue (b : Book) (k : CueNumber) (c : Chair) (n : Nat) :
    (b.dropCue k).patch? c n = (b.patch? c n).map (recountPatch (b.cue? k) none) := patch?_recount ..

/-! ## A song's running flag -/

theorem song?_setRunning (b : Book) (n : Nat) (f : Running) (m : Nat) :
    (b.setRunning n f).song? m = (b.song? m).map fun r => if m = n then { r with running := f } else r := by
  have hkey : ∀ r : Song, (if r.number = n then { r with running := f } else r).number = r.number := by
    intro r; split <;> rfl
  simp only [Book.song?, Book.setRunning, List.find?_map, Function.comp_def, hkey]
  cases h : b.songs.find? (fun r => decide (r.number = m)) with
  | none => rfl
  | some r =>
    have hr : r.number = m := by simpa using List.find?_some h
    simp [hr]

/-! ## What a cue names -/

theorem namesSong_iff (q : Cue) (n : Nat) :
    q.namesSong n = true ↔ q.song = some n ∨ ∃ bar, q.tempo = some (.start n bar) := by
  unfold Cue.namesSong
  cases q.tempo with
  | none => simp
  | some t => cases t <;> simp

theorem namesPatch_iff (q : Cue) (c : Chair) (n : Nat) :
    q.namesPatch c n = true ↔ ∃ a ∈ q.actions, a.chair = c ∧ a.patch = some n := by
  simp [Cue.namesPatch]

theorem holdsNamed_iff (b : Book) (q : Cue) :
    b.holdsNamed q ↔ (∀ n, q.namesSong n = true → b.song? n ≠ none) ∧
      ∀ c n, q.namesPatch c n = true → b.patch? c n ≠ none := by
  simp only [namesSong_iff, namesPatch_iff]
  constructor
  · rintro ⟨song, start, patches⟩
    refine ⟨?_, ?_⟩
    · rintro n (h | ⟨bar, h⟩)
      · exact song n h
      · exact start n bar h
    · rintro c n ⟨a, ha, rfl, hp⟩
      exact patches a ha n hp
  · rintro ⟨songs, patches⟩
    exact ⟨fun n h => songs n (.inl h), fun n bar h => songs n (.inr ⟨bar, h⟩),
      fun a ha n hp => patches a.chair n ⟨a, ha, rfl, hp⟩⟩

/-- A cue stays valid where the songs that it names keep their bars. -/
theorem validCue_of_bars {b b' : Book} {q : Cue}
    (h : ∀ n r, q.namesSong n = true → b.song? n = some r →
      ∃ r', b'.song? n = some r' ∧ r'.firstBar = r.firstBar ∧ r'.lastBar = r.lastBar)
    (hv : b.validCue q) : b'.validCue q where
  chairs := hv.chairs
  bar := fun bar beat lead ht => by
    obtain ⟨n, r, hn, hr, h1, h2⟩ := hv.bar bar beat lead ht
    obtain ⟨r', hr', e1, e2⟩ := h n r ((namesSong_iff q n).2 (.inl hn)) hr
    exact ⟨n, r', hn, hr', by omega, by omega⟩
  start := fun n bar ht => by
    obtain ⟨r, hr, h1, h2⟩ := hv.start n bar ht
    obtain ⟨r', hr', e1, e2⟩ := h n r ((namesSong_iff q n).2 (.inr ⟨bar, ht⟩)) hr
    exact ⟨r', hr', by omega, by omega⟩
  mask := hv.mask
  vamp := hv.vamp

/-! ## The checks of a cue write (R14) -/

theorem sameChair_eq_false (l : List StationAction) :
    sameChair l = false ↔ l.Pairwise fun x y => x.chair ≠ y.chair := by
  induction l with
  | nil => simp [sameChair]
  | cons a rest ih =>
    rw [sameChair, Bool.or_eq_false_iff, ih, List.pairwise_cons, List.any_eq_false]
    simp only [decide_eq_true_eq, ne_eq, eq_comm (a := a.chair)]

theorem cueMissing_eq_false (b : Book) (q : Cue) : b.cueMissing q = false ↔ b.holdsNamed q := by
  have hsome : ∀ {α : Type} {o : Option α}, o.isNone = false ↔ o ≠ none := by intro α o; cases o <;> simp
  unfold Book.cueMissing
  simp only [Bool.or_eq_false_iff, Option.any_eq_false, List.any_eq_false, Bool.not_eq_true, and_assoc]
  constructor
  · rintro ⟨song, start, patches⟩
    refine ⟨fun n h => hsome.1 (song n h), fun n bar h => ?_, fun a ha n hp => hsome.1 (patches a ha n hp)⟩
    rw [h] at start
    exact hsome.1 start
  · rintro ⟨song, start, patches⟩
    refine ⟨fun n h => hsome.2 (song n h), ?_, fun a ha n hp => hsome.2 (patches a ha n hp)⟩
    split
    next n bar h => exact hsome.2 (start n bar h)
    next => rfl

theorem has_iff (r : Song) (bar : Nat) : r.has bar = true ↔ r.firstBar ≤ bar ∧ bar ≤ r.lastBar := by
  simp [Song.has, inRange]

theorem barOutside_eq_false (h : b.song? n ≠ none) :
    b.barOutside n bar = false ↔ ∃ r, b.song? n = some r ∧ r.firstBar ≤ bar ∧ bar ≤ r.lastBar := by
  unfold Book.barOutside
  cases hs : b.song? n with
  | none => exact absurd hs h
  | some r => simp [← has_iff]

theorem cueInvalid_eq_false {q : Cue} (hn : b.holdsNamed q) : b.cueInvalid q = false ↔ b.validCue q := by
  unfold Book.cueInvalid
  simp only [Bool.or_eq_false_iff, and_assoc, sameChair_eq_false]
  constructor
  · rintro ⟨chairs, trigger, tempo, vamp⟩
    refine ⟨chairs, fun bar beat lead ht => ?_, fun n bar ht => ?_, fun ht => ?_, fun first last ht => ?_⟩
    · rw [ht] at trigger
      cases hs : q.song with
      | none => simp [hs] at trigger
      | some n =>
        rw [hs] at trigger
        obtain ⟨r, hr⟩ := (barOutside_eq_false (hn.song n hs)).1 trigger
        exact ⟨n, r, rfl, hr⟩
    · rw [ht] at tempo
      exact (barOutside_eq_false (hn.start n bar ht)).1 tempo
    · rw [ht] at trigger
      cases hp : q.mask.pad <;> cases hc : q.mask.control <;> simp_all
    · rw [ht] at vamp
      simpa using vamp
  · rintro ⟨chairs, bar, start, mask, vamp⟩
    refine ⟨chairs, ?_, ?_, ?_⟩
    · split
      next bar' beat lead ht hs => obtain ⟨n, r, h, -⟩ := bar bar' beat lead ht; rw [hs] at h; cases h
      next bar' beat lead n ht hs =>
        obtain ⟨n', r, h, hr⟩ := bar bar' beat lead ht
        rw [hs] at h; cases h
        exact (barOutside_eq_false (hn.song n hs)).2 ⟨r, hr⟩
      next ht => rcases mask ht with h | h | h <;> simp [h]
      next => rfl
    · split
      next n bar' ht => exact (barOutside_eq_false (hn.start n bar' ht)).2 (start n bar' ht)
      next => rfl
    · split
      next first last ht => simpa using vamp first last ht
      next => rfl

/-- The cue's own song is CUT, as the engine asks it (R27). -/
theorem cueCut_iff (b : Book) (q : Cue) : b.cueCut q = true ↔ b.ofCutSong q := by
  unfold Book.cueCut Book.songCut Book.ofCutSong
  cases q.song with
  | none => simp
  | some n =>
    cases hr : b.song? n with
    | none => simp [hr]
    | some r => simp [hr]

theorem cueCut_eq_false (b : Book) (q : Cue) : b.cueCut q = false ↔ ¬b.ofCutSong q := by
  rw [← cueCut_iff, Bool.not_eq_true]

theorem isGo_iff (q : Cue) : q.isGo = true ↔ q.trigger = .go := by simp [Cue.isGo]

end Sys2Proof.Proofs

/-! PROOFS. A sound book: each change of its tables that passes its checks keeps it sound (R1 to R7, R12 to R14). -/

namespace Sys2Proof.Proofs

open Sys2Proof.Machine Sys2Proof.Laws

variable {b : Book}

/-! ## The records of a sound book -/

section keys
variable (h : b.Sound)
include h

theorem oneSong (n : Nat) : AtMostOne (fun r : Song => decide (r.number = n)) b.songs :=
  .of_keys h.songKeys fun y z hR hy => by simp at hy ⊢; omega

theorem oneSegment (n bar : Nat) :
    AtMostOne (fun g : Segment => decide (g.song = n) && decide (g.startBar = bar)) b.segments :=
  .of_keys h.segmentKeys fun y z hR hy => by simp at hy ⊢; omega

theorem onePatch (c : Chair) (n : Nat) :
    AtMostOne (fun p : Patch => decide (p.chair = c) && decide (p.number = n)) b.patches :=
  .of_keys h.patchKeys fun y z hR hy => by
    simp at hy ⊢; rintro rfl; rcases hR with hR | hR
    · exact absurd hy.1 hR
    · omega

theorem oneCue (k : CueNumber) : AtMostOne (fun q : Cue => decide (q.number = k)) b.cues :=
  .of_keys h.cueKeys fun y z hR hy => by simp at hy ⊢; rw [← hy]; exact Ne.symm hR

theorem cue?_of_mem {q : Cue} (hq : q ∈ b.cues) : b.cue? q.number = some q :=
  (oneCue h q.number).find? hq (by simp)

/-- A song that no record holds is named by no cue. -/
theorem noneNamesSong {n : Nat} (hn : b.song? n = none) :
    b.cues.filter (fun q => q.namesSong n) = [] :=
  List.filter_eq_nil_iff.2 fun q hq hnames => ((holdsNamed_iff b q).1 (h.cuesNamed q hq)).1 n hnames hn

/-- A patch that no record holds is named by no cue. -/
theorem noneNamesPatch {c : Chair} {n : Nat} (hn : b.patch? c n = none) :
    b.cues.filter (fun q => q.namesPatch c n) = [] :=
  List.filter_eq_nil_iff.2 fun q hq hnames => ((holdsNamed_iff b q).1 (h.cuesNamed q hq)).2 c n hnames hn

/-! ## Records put in -/

theorem putSong_putIn (r : Song) : PutIn (fun x : Song => decide (x.number = r.number)) r b.songs (b.putSong r).songs := by
  rw [putSong_songs]
  exact upsert_perm (fun y => decide_eq_decide.2 eq_comm) (oneSong h r.number)

theorem putSegment_putIn (g : Segment) :
    PutIn (fun x : Segment => decide (x.song = g.song) && decide (x.startBar = g.startBar)) g b.segments
      (b.putSegment g).segments := by
  rw [putSegment_segments]
  exact upsert_perm (fun y => congrArg₂ _ (decide_eq_decide.2 eq_comm) (decide_eq_decide.2 eq_comm))
    (oneSegment h g.song g.startBar)

theorem putCue_putIn (q : Cue) : PutIn (fun x : Cue => decide (x.number = q.number)) q b.cues (b.putCue q).cues := by
  rw [putCue_cues]
  exact upsert_perm (fun y => decide_eq_decide.2 eq_comm) (oneCue h q.number)

end keys

theorem putPatch_putIn (p : Patch)
    (one : AtMostOne (fun x : Patch => decide (x.chair = p.chair) && decide (x.number = p.number)) b.patches) :
    PutIn (fun x : Patch => decide (x.chair = p.chair) && decide (x.number = p.number)) p b.patches
      (b.putPatch p).patches := by
  rw [putPatch_patches]
  exact upsert_perm (fun y => congrArg₂ _ (decide_eq_decide.2 eq_comm) (decide_eq_decide.2 eq_comm)) one

/-- Soundness is of the four tables. -/
theorem sound_of_tables {b' : Book} (h : b.Sound) (songs : b'.songs = b.songs) (segments : b'.segments = b.segments)
    (patches : b'.patches = b.patches) (cues : b'.cues = b.cues) : b'.Sound := by
  obtain ⟨_, _, _, _, _, _, _, _, _, _⟩ := b
  obtain ⟨_, _, _, _, _, _, _, _, _, _⟩ := b'
  cases songs; cases segments; cases patches; cases cues
  exact ⟨h.songKeys, h.segmentKeys, h.patchKeys, h.cueKeys, h.segmentsInside,
    fun q hq => ⟨(h.cuesNamed q hq).song, (h.cuesNamed q hq).start, (h.cuesNamed q hq).patches⟩,
    fun q hq => ⟨(h.cuesValid q hq).chairs, (h.cuesValid q hq).bar, (h.cuesValid q hq).start, (h.cuesValid q hq).mask,
      (h.cuesValid q hq).vamp⟩,
    h.cueCounts, h.patchRefs, h.segmentRoom, h.patchRoom, h.cueRoom⟩

/-- The empty book is sound (R24). -/
theorem empty_sound : Book.empty.Sound where
  songKeys := .nil
  segmentKeys := .nil
  patchKeys := .nil
  cueKeys := .nil
  segmentsInside := fun _ h => nomatch h
  cuesNamed := fun _ h => nomatch h
  cuesValid := fun _ h => nomatch h
  cueCounts := fun _ h => nomatch h
  patchRefs := fun _ h => nomatch h
  segmentRoom := ⟨Nat.zero_le _, fun _ => Nat.zero_le _⟩
  patchRoom := ⟨Nat.zero_le _, Nat.zero_le _⟩
  cueRoom := Nat.zero_le _

theorem revise_sound (h : b.Sound) : b.revise.Sound := sound_of_tables h rfl rfl rfl rfl

/-! ## Songs (R12, R19 to R21) -/

/-- A cue needs a bar of the song inside the song's bars: it is a BAR cue of the song at that bar, or starts the song there
(R12). -/
def needsBar (q : Cue) (n bar : Nat) : Prop :=
  (q.song = some n ∧ ∃ beat lead : Nat, q.trigger = .bar bar beat lead) ∨ q.tempo = some (.start n bar)

theorem strays_eq_false (q : Cue) (n first last : Nat) :
    q.strays n first last = false ↔ ∀ bar, needsBar q n bar → first ≤ bar ∧ bar ≤ last := by
  have inside : ∀ bar, inRange first last bar = true ↔ first ≤ bar ∧ bar ≤ last := fun bar => by simp [inRange]
  unfold Cue.strays needsBar
  rw [Bool.or_eq_false_iff]
  constructor
  · rintro ⟨trigger, tempo⟩ bar (⟨hs, beat, lead, ht⟩ | ht)
    · rw [ht] at trigger; simpa [hs, ← inside] using trigger
    · rw [ht] at tempo; simpa [← inside] using tempo
  · intro h
    constructor
    · split
      next bar beat lead ht =>
        by_cases hs : q.song = some n
        · simpa [hs, inside] using h bar (.inl ⟨hs, beat, lead, ht⟩)
        · simp [hs]
      next => rfl
    · split
      next m bar ht =>
        by_cases hm : m = n
        · subst hm; simpa [inside] using h bar (.inr ht)
        · simp [hm]
      next => rfl

/-- The INVALID cases of R12, as they are met by none. -/
theorem songInvalid_eq_false (b : Book) (w : SongWrite) :
    b.songInvalid w = false ↔ w.firstBar ≤ w.lastBar ∧
      (∀ g ∈ b.segments, g.song = w.number → w.firstBar ≤ g.startBar ∧ g.startBar ≤ w.lastBar) ∧
      ∀ q ∈ b.cues, ∀ bar, needsBar q w.number bar → w.firstBar ≤ bar ∧ bar ≤ w.lastBar := by
  simp [Book.songInvalid, inRange, ← strays_eq_false, and_assoc]

theorem song?_putRecord (b : Book) (w : SongWrite) (n : Nat) :
    (b.putSong (b.songRecord w)).song? n = if n = w.number then some (b.songRecord w) else b.song? n :=
  song?_putSong b (b.songRecord w) n

/-- A song write that passes the checks of R12 keeps the book sound. -/
theorem putSong_sound (h : b.Sound) {w : SongWrite} (hw : b.songInvalid w = false) :
    (b.putSong (b.songRecord w)).Sound := by
  obtain ⟨-, segments, cues⟩ := (songInvalid_eq_false b w).1 hw
  have found := song?_putRecord b w
  have put := putSong_putIn h (b.songRecord w)
  exact {
    songKeys := put.pairwise (fun y z => Ne.symm) (fun y hy => Ne.symm (of_decide_eq_false hy)) h.songKeys
    segmentKeys := h.segmentKeys
    patchKeys := h.patchKeys
    cueKeys := h.cueKeys
    segmentsInside := fun g hg => by
      by_cases hn : g.song = w.number
      · exact ⟨b.songRecord w, by rw [found, if_pos hn], segments g hg hn⟩
      · rw [found, if_neg hn]; exact h.segmentsInside g hg
    cuesNamed := fun q hq => by
      obtain ⟨songs, patches⟩ := (holdsNamed_iff b q).1 (h.cuesNamed q hq)
      refine (holdsNamed_iff _ q).2 ⟨fun n hn => ?_, patches⟩
      rw [found]
      split
      · simp
      · exact songs n hn
    cuesValid := fun q hq => by
      have hv := h.cuesValid q hq
      refine ⟨hv.chairs, fun bar beat lead ht => ?_, fun n bar ht => ?_, hv.mask, hv.vamp⟩
      · obtain ⟨n, r, hn, hr, hbar⟩ := hv.bar bar beat lead ht
        by_cases he : n = w.number
        · exact ⟨n, b.songRecord w, hn, by rw [found, if_pos he],
            cues q hq bar (.inl ⟨by rw [← he]; exact hn, beat, lead, ht⟩)⟩
        · exact ⟨n, r, hn, by rw [found, if_neg he]; exact hr, hbar⟩
      · obtain ⟨r, hr, hbar⟩ := hv.start n bar ht
        by_cases he : n = w.number
        · exact ⟨b.songRecord w, by rw [found, if_pos he], cues q hq bar (.inr (by rw [← he]; exact ht))⟩
        · exact ⟨r, by rw [found, if_neg he]; exact hr, hbar⟩
    cueCounts := fun r hr => by
      rcases put.mem.1 hr with rfl | ⟨hr, -⟩
      · show ((b.song? w.number).map (·.cueCount)).getD 0 = (b.cues.filter fun q => q.namesSong w.number).length
        cases hs : b.song? w.number with
        | none => rw [noneNamesSong h hs]; rfl
        | some old =>
          obtain ⟨hmem, hn⟩ := song?_key hs
          rw [← hn]
          exact h.cueCounts old hmem
      · exact h.cueCounts r hr
    patchRefs := h.patchRefs
    segmentRoom := h.segmentRoom
    patchRoom := h.patchRoom
    cueRoom := h.cueRoom }

/-- Setting a running flag keeps the book sound (R20, R21). -/
theorem setRunning_sound (h : b.Sound) (n : Nat) (f : Running) : (b.setRunning n f).Sound := by
  have key : ∀ r : Song, (if r.number = n then { r with running := f } else r).number = r.number := by
    intro r; split <;> rfl
  have found : ∀ m r, b.song? m = some r →
      ∃ r', (b.setRunning n f).song? m = some r' ∧ r'.firstBar = r.firstBar ∧ r'.lastBar = r.lastBar := by
    intro m r hr
    rw [song?_setRunning, hr]
    refine ⟨_, rfl, ?_, ?_⟩ <;> dsimp only <;> split <;> rfl
  exact {
    songKeys := by
      refine List.pairwise_map.2 (h.songKeys.imp fun hne => ?_)
      rw [key, key]; exact hne
    segmentKeys := h.segmentKeys
    patchKeys := h.patchKeys
    cueKeys := h.cueKeys
    segmentsInside := fun g hg => by
      obtain ⟨r, hr, h1, h2⟩ := h.segmentsInside g hg
      obtain ⟨r', hr', e1, e2⟩ := found _ r hr
      exact ⟨r', hr', by omega, by omega⟩
    cuesNamed := fun q hq => by
      obtain ⟨songs, patches⟩ := (holdsNamed_iff b q).1 (h.cuesNamed q hq)
      refine (holdsNamed_iff _ q).2 ⟨fun m hm => ?_, patches⟩
      rw [song?_setRunning]
      simpa using songs m hm
    cuesValid := fun q hq => validCue_of_bars (fun m r _ => found m r) (h.cuesValid q hq)
    cueCounts := fun r hr => by
      obtain ⟨old, hold, rfl⟩ := List.mem_map.1 hr
      rw [key]
      have := h.cueCounts old hold
      split <;> exact this
    patchRefs := h.patchRefs
    segmentRoom := h.segmentRoom
    patchRoom := h.patchRoom
    cueRoom := h.cueRoom }

/-- A song that no cue names is retired with its segments (R19). -/
theorem dropSong_sound (h : b.Sound) {n : Nat} {r : Song} (hr : b.song? n = some r) (hc : r.cueCount = 0) :
    (b.dropSong n).Sound := by
  obtain ⟨hmem, hnum⟩ := song?_key hr
  have unnamed : ∀ q ∈ b.cues, ∀ m, q.namesSong m = true → m ≠ n := by
    rintro q hq m hm rfl
    have hcount := h.cueCounts r hmem
    rw [hc, hnum, eq_comm, List.length_eq_zero_iff, List.filter_eq_nil_iff] at hcount
    exact hcount q hq hm
  exact {
    songKeys := h.songKeys.filter _
    segmentKeys := h.segmentKeys.filter _
    patchKeys := h.patchKeys
    cueKeys := h.cueKeys
    segmentsInside := fun g hg => by
      obtain ⟨hg, hne⟩ := List.mem_filter.1 hg
      rw [song?_dropSong, if_neg (by simpa using hne)]
      exact h.segmentsInside g hg
    cuesNamed := fun q hq => by
      obtain ⟨songs, patches⟩ := (holdsNamed_iff b q).1 (h.cuesNamed q hq)
      refine (holdsNamed_iff _ q).2 ⟨fun m hm => ?_, patches⟩
      rw [song?_dropSong, if_neg (unnamed q hq m hm)]
      exact songs m hm
    cuesValid := fun q hq => validCue_of_bars
      (fun m r hm hr => ⟨r, by rw [song?_dropSong, if_neg (unnamed q hq m hm)]; exact hr, rfl, rfl⟩) (h.cuesValid q hq)
    cueCounts := fun r hr => h.cueCounts r (List.mem_filter.1 hr).1
    patchRefs := h.patchRefs
    segmentRoom := ⟨(List.length_filter_le ..).trans h.segmentRoom.1,
      fun song => (((List.filter_sublist).filter _).length_le).trans (h.segmentRoom.2 song)⟩
    patchRoom := h.patchRoom
    cueRoom := h.cueRoom }

/-! ## Segments (R13, R19) -/

theorem segmentsFull_eq_false (b : Book) (g : Segment) :
    b.segmentsFull g = false ↔ b.segment? g.song g.startBar ≠ none ∨
      ((b.segments.filter fun x => decide (x.song = g.song)).length < 32 ∧ b.segments.length < 512) := by
  unfold Book.segmentsFull Book.segmentsOf
  cases b.segment? g.song g.startBar <;> simp

/-- A segment write that passes the checks of R13 keeps the book sound. -/
theorem putSegment_sound (h : b.Sound) {g : Segment} {r : Song} (hr : b.song? g.song = some r)
    (hbar : r.has g.startBar = true) (hroom : b.segmentsFull g = false) : (b.putSegment g).Sound := by
  have one := oneSegment h g.song g.startBar
  have put := putSegment_putIn h g
  have room : (b.putSegment g).segments.length ≤ 512 ∧
      ∀ song, ((b.putSegment g).segments.filter fun x => decide (x.song = song)).length ≤ 32 := by
    have hlen := put.length one
    have hold := h.segmentRoom
    rw [segmentsFull_eq_false] at hroom
    refine ⟨?_, fun song => ?_⟩
    · rw [hlen]
      split
      · exact hold.1
      next hnew =>
        rcases hroom with hroom | hroom
        · exact absurd (Option.isSome_iff_ne_none.2 hroom) hnew
        · omega
    · have hnew := put.length_filter fun x => decide (x.song = song)
      have hsplit := one.length_filter fun x => decide (x.song = song)
      have hsong := hold.2 song
      by_cases hs : g.song = song
      · subst hs
        rcases hroom with hroom | hroom
        · obtain ⟨old, hfound⟩ := Option.ne_none_iff_exists'.1 hroom
          obtain ⟨-, hkey, -⟩ := segment?_key hfound
          have hfound' : List.find? (fun x => decide (x.song = g.song) && decide (x.startBar = g.startBar)) b.segments =
            some old := hfound
          simp only [hfound', Option.any_some, hkey] at hsplit
          simp at hnew hsplit hsong ⊢
          omega
        · have := hroom.1
          simp at hnew hsplit hsong ⊢
          omega
      · simp only [hs] at hnew
        simp at hnew hsplit hsong ⊢
        omega
  exact {
    songKeys := h.songKeys
    segmentKeys := put.pairwise (fun y z hyz => hyz.imp Ne.symm Ne.symm)
      (fun y hy => by simp at hy; omega) h.segmentKeys
    patchKeys := h.patchKeys
    cueKeys := h.cueKeys
    segmentsInside := fun x hx => by
      rcases put.mem.1 hx with rfl | ⟨hx, -⟩
      · exact ⟨r, hr, (has_iff r _).1 hbar⟩
      · exact h.segmentsInside x hx
    cuesNamed := fun q hq => (holdsNamed_iff _ q).2 ((holdsNamed_iff b q).1 (h.cuesNamed q hq))
    cuesValid := fun q hq => validCue_of_bars (b := b) (fun m r _ hr => ⟨r, hr, rfl, rfl⟩) (h.cuesValid q hq)
    cueCounts := h.cueCounts
    patchRefs := h.patchRefs
    segmentRoom := room
    patchRoom := h.patchRoom
    cueRoom := h.cueRoom }

theorem dropSegment_sound (h : b.Sound) (n bar : Nat) : (b.dropSegment n bar).Sound where
  songKeys := h.songKeys
  segmentKeys := h.segmentKeys.filter _
  patchKeys := h.patchKeys
  cueKeys := h.cueKeys
  segmentsInside := fun g hg => h.segmentsInside g (List.mem_filter.1 hg).1
  cuesNamed := fun q hq => (holdsNamed_iff _ q).2 ((holdsNamed_iff b q).1 (h.cuesNamed q hq))
  cuesValid := fun q hq => validCue_of_bars (b := b) (fun _ r _ hr => ⟨r, hr, rfl, rfl⟩) (h.cuesValid q hq)
  cueCounts := h.cueCounts
  patchRefs := h.patchRefs
  segmentRoom := ⟨(List.length_filter_le ..).trans h.segmentRoom.1,
    fun song => (((List.filter_sublist).filter _).length_le).trans (h.segmentRoom.2 song)⟩
  patchRoom := h.patchRoom
  cueRoom := h.cueRoom

/-! ## Patches (R7, R16, R19) -/

theorem patchRecord_key (b : Book) (p : Patch) :
    (b.patchRecord p).chair = p.chair ∧ (b.patchRecord p).number = p.number ∧ (b.patchRecord p).size = p.size :=
  ⟨rfl, rfl, rfl⟩

theorem patch?_putRecord (b : Book) (p : Patch) (c : Chair) (n : Nat) :
    (b.putPatch (b.patchRecord p)).patch? c n =
      if c = p.chair ∧ n = p.number then some (b.patchRecord p) else b.patch? c n :=
  patch?_putPatch b (b.patchRecord p) c n

theorem patchesFull_eq_false (b : Book) (p : Patch) :
    b.patchesFull p = false ↔ (b.patch? p.chair p.number ≠ none ∨ b.patches.length < 2048) ∧
      (p.size ≤ b.oldSize p ∨ b.poolUse + p.size - b.oldSize p ≤ 16384) := by
  unfold Book.patchesFull poolCapacity
  cases b.patch? p.chair p.number <;> simp [or_iff_not_imp_left]

/-- The pool's use moves by the new entries less the old (R7). -/
theorem poolUse_putRecord {p : Patch}
    (one : AtMostOne (fun x : Patch => decide (x.chair = p.chair) && decide (x.number = p.number)) b.patches) :
    (b.putPatch (b.patchRecord p)).poolUse + b.oldSize p = b.poolUse + p.size :=
  (putPatch_putIn (b.patchRecord p) one).sum Patch.size one

/-- A patch write that has room keeps the book sound (R16). -/
theorem putPatch_sound (h : b.Sound) {p : Patch} (hroom : b.patchesFull p = false) :
    (b.putPatch (b.patchRecord p)).Sound := by
  have found := patch?_putRecord b p
  have one := onePatch h p.chair p.number
  have put := putPatch_putIn (b.patchRecord p) one
  obtain ⟨hlen, hpool⟩ := (patchesFull_eq_false b p).1 hroom
  exact {
    songKeys := h.songKeys
    segmentKeys := h.segmentKeys
    patchKeys := put.pairwise (fun y z hyz => hyz.imp Ne.symm Ne.symm)
      (fun y hy => by
        have key := patchRecord_key b p
        simp only [key] at hy ⊢
        simp at hy; tauto) h.patchKeys
    cueKeys := h.cueKeys
    segmentsInside := h.segmentsInside
    cuesNamed := fun q hq => by
      obtain ⟨songs, patches⟩ := (holdsNamed_iff b q).1 (h.cuesNamed q hq)
      refine (holdsNamed_iff _ q).2 ⟨songs, fun c n hn => ?_⟩
      rw [found]
      split
      · simp
      · exact patches c n hn
    cuesValid := fun q hq => validCue_of_bars (b := b) (fun m r _ hr => ⟨r, hr, rfl, rfl⟩) (h.cuesValid q hq)
    cueCounts := h.cueCounts
    patchRefs := fun x hx => by
      rcases put.mem.1 hx with rfl | ⟨hx, -⟩
      · show ((b.patch? p.chair p.number).map (·.refs)).getD 0 =
          (b.cues.filter fun q => q.namesPatch p.chair p.number).length
        cases hs : b.patch? p.chair p.number with
        | none => rw [noneNamesPatch h hs]; rfl
        | some old =>
          obtain ⟨hmem, hc, hn⟩ := patch?_key hs
          have := h.patchRefs old hmem
          rwa [hc, hn] at this
      · exact h.patchRefs x hx
    segmentRoom := h.segmentRoom
    patchRoom := by
      constructor
      · rw [put.length one]
        split
        · exact h.patchRoom.1
        next hnew =>
          rcases hlen with hlen | hlen
          · exact absurd (Option.isSome_iff_ne_none.2 hlen) hnew
          · omega
      · have hsum := poolUse_putRecord (b := b) (p := p) one
        have := h.patchRoom.2
        omega
    cueRoom := h.cueRoom }

/-- A patch that no cue names is retired (R19). -/
theorem dropPatch_sound (h : b.Sound) {c : Chair} {n : Nat} {p : Patch} (hp : b.patch? c n = some p)
    (hc : p.refs = 0) : (b.dropPatch c n).Sound := by
  obtain ⟨hmem, hchair, hnum⟩ := patch?_key hp
  exact {
    songKeys := h.songKeys
    segmentKeys := h.segmentKeys
    patchKeys := h.patchKeys.filter _
    cueKeys := h.cueKeys
    segmentsInside := h.segmentsInside
    cuesNamed := fun q hq => by
      obtain ⟨songs, patches⟩ := (holdsNamed_iff b q).1 (h.cuesNamed q hq)
      refine (holdsNamed_iff _ q).2 ⟨songs, fun d m hm => ?_⟩
      rw [patch?_dropPatch, if_neg]
      · exact patches d m hm
      · rintro ⟨rfl, rfl⟩
        have hcount := h.patchRefs p hmem
        rw [hc, hchair, hnum, eq_comm, List.length_eq_zero_iff, List.filter_eq_nil_iff] at hcount
        exact hcount q hq hm
    cuesValid := fun q hq => validCue_of_bars (b := b) (fun m r _ hr => ⟨r, hr, rfl, rfl⟩) (h.cuesValid q hq)
    cueCounts := h.cueCounts
    patchRefs := fun x hx => h.patchRefs x (List.mem_filter.1 hx).1
    segmentRoom := h.segmentRoom
    patchRoom := ⟨(List.length_filter_le ..).trans h.patchRoom.1,
      (((List.filter_sublist).map _).sum_le_sum fun _ _ => Nat.zero_le _).trans h.patchRoom.2⟩
    cueRoom := h.cueRoom }

/-! ## Cues (R5, R14, R19) -/

/-- A count that is right for the old record is right for the new one after it is moved (R5). -/
theorem shiftCount_count (old new : Bool) (rest : Nat) : shiftCount old new (old.toNat + rest) = new.toNat + rest := by
  cases old <;> cases new <;> (simp [shiftCount]; try omega)

/-- The songs and patches after a cue's counts are moved are sound with the cues `cues`, if every cue of them is, and
the counts of the cues other than the one changed are as before. -/
theorem recount_sound (h : b.Sound) {k : CueNumber} {new : Option Cue} {cues : List Cue}
    (keys : cues.Pairwise fun x y => x.number ≠ y.number) (room : cues.length ≤ 1024)
    (mem : ∀ q ∈ cues, b.holdsNamed q ∧ b.validCue q)
    (counts : ∀ f : Cue → Bool,
      (cues.filter f).length = (new.any f).toNat + ((b.cues.filter fun q => !decide (q.number = k)).filter f).length) :
    (({ b with cues := cues }).recount (b.cue? k) new).Sound := by
  have moved : ∀ (f : Cue → Bool) (n : Nat), n = (b.cues.filter f).length →
      shiftCount ((b.cue? k).any f) (new.any f) n = (cues.filter f).length := by
    rintro f n rfl
    rw [counts f, (oneCue h k).length_filter f]
    exact shiftCount_count _ _ _
  have songs : ∀ n r, b.song? n = some r → ∃ r', (({ b with cues := cues }).recount (b.cue? k) new).song? n = some r' ∧
      r'.firstBar = r.firstBar ∧ r'.lastBar = r.lastBar := by
    intro n r hr
    rw [song?_recount]
    exact ⟨recountSong (b.cue? k) new r, congrArg (Option.map _) hr, rfl, rfl⟩
  exact {
    songKeys := List.pairwise_map.2 (h.songKeys.imp id)
    segmentKeys := h.segmentKeys
    patchKeys := List.pairwise_map.2 (h.patchKeys.imp id)
    cueKeys := keys
    segmentsInside := fun g hg => by
      obtain ⟨r, hr, h1, h2⟩ := h.segmentsInside g hg
      obtain ⟨r', hr', e1, e2⟩ := songs _ r hr
      exact ⟨r', hr', by omega, by omega⟩
    cuesNamed := fun q hq => by
      obtain ⟨named, patches⟩ := (holdsNamed_iff b q).1 (mem q hq).1
      refine (holdsNamed_iff _ q).2 ⟨fun n hn => ?_, fun c n hn => ?_⟩
      · rw [song?_recount]; exact fun hnone => named n hn (Option.map_eq_none_iff.1 hnone)
      · rw [patch?_recount]; exact fun hnone => patches c n hn (Option.map_eq_none_iff.1 hnone)
    cuesValid := fun q hq => validCue_of_bars (fun n r _ => songs n r) (mem q hq).2
    cueCounts := fun r hr => by
      obtain ⟨old, hold, rfl⟩ := List.mem_map.1 hr
      exact moved (·.namesSong old.number) _ (h.cueCounts old hold)
    patchRefs := fun p hp => by
      obtain ⟨old, hold, rfl⟩ := List.mem_map.1 hp
      exact moved (·.namesPatch old.chair old.number) _ (h.patchRefs old hold)
    segmentRoom := h.segmentRoom
    patchRoom := by
      refine ⟨by simpa [Book.recount] using h.patchRoom.1, ?_⟩
      have : (({ b with cues := cues }).recount (b.cue? k) new).poolUse = b.poolUse := by
        simp only [Book.poolUse, Book.recount, List.map_map]
        rfl
      rw [this]; exact h.patchRoom.2
    cueRoom := room }

/-- A cue write that passes the checks of R14 keeps the book sound. -/
theorem putCue_sound (h : b.Sound) {q : Cue} (hn : b.holdsNamed q) (hv : b.validCue q)
    (hroom : b.cue? q.number = none → b.cues.length < 1024) : (b.putCue q).Sound := by
  have put := putCue_putIn h q
  refine recount_sound h (put.pairwise (fun y z => Ne.symm) (fun y hy => Ne.symm (of_decide_eq_false hy)) h.cueKeys) ?_
    (fun x hx => ?_) fun f => put.length_filter f
  · rw [← putCue_cues, put.length (oneCue h q.number)]
    split
    · exact h.cueRoom
    next hnew => exact hroom (Option.not_isSome_iff_eq_none.1 hnew)
  · rcases put.mem.1 hx with rfl | ⟨hx, -⟩
    · exact ⟨hn, hv⟩
    · exact ⟨h.cuesNamed x hx, h.cuesValid x hx⟩

theorem dropCue_sound (h : b.Sound) (k : CueNumber) : (b.dropCue k).Sound :=
  recount_sound h (h.cueKeys.filter _) ((List.length_filter_le ..).trans h.cueRoom)
    (fun q hq => ⟨h.cuesNamed q (List.mem_filter.1 hq).1, h.cuesValid q (List.mem_filter.1 hq).1⟩) fun f => by simp

end Sys2Proof.Proofs

/-! PROOFS. Frames of the book and of the run states: what the clicks, the clock, the stop, the links, the pad, the video and
the faults never write. -/

namespace Sys2Proof.Proofs

open Sys2Proof.Machine Sys2Proof.Laws

/-- The part of the state that the book and the run states of the cues are made of: the book, the open show's run states, its
standby and its held cue, the slots of the Patch Dispatcher, and the loader. -/
def runsView (s : State) : State :=
  { State.reset with
    book := s.book, patch := s.patch, loader := s.loader
    cue := { CueEngine.initial with
      isOpen := s.cue.isOpen, runs := s.cue.runs, standby := s.cue.standby, held := s.cue.held } }

section fields
variable {s t : State} (h : runsView t = runsView s)
include h
theorem runsView_book : t.book = s.book := (congrArg State.book h :)
theorem runsView_isOpen : t.cue.isOpen = s.cue.isOpen := (congrArg (fun x => x.cue.isOpen) h :)
theorem runsView_loader : t.loader = s.loader := (congrArg State.loader h :)
end fields

/-- A frame holds of a walk along a list if it holds of each of its steps. -/
theorem runsView_foldl {α : Type} {f : State → α → State} (h : ∀ s x, runsView (f s x) = runsView s) (l : List α)
    (s : State) : runsView (l.foldl f s) = runsView s := by
  induction l generalizing s with
  | nil => rfl
  | cons x xs ih => exact (ih (f s x)).trans (h s x)

variable (s : State)

theorem runsView_clock (k : Clock) : runsView { s with clock := k } = runsView s := rfl

/-! ## Clicks -/

theorem takeTrims_view : runsView (takeTrims s) = runsView s := by
  unfold takeTrims
  split <;> rfl

theorem finishPart_view (c : Chair) (which : DueItem → Bool) : runsView (finishPart c which s) = runsView s := rfl

theorem handOffClick_view (k : Click) : runsView (handOffClick k s) = runsView s := by
  have queued : ∀ p : Vector Part 16,
      runsView (allChairs.foldl (fun s c => if p[c].state = .handed then queueClick c k s else s) s) = runsView s :=
    fun p => runsView_foldl (fun s c => by split <;> rfl) _ s
  unfold handOffClick
  extract_lets parts s1 item
  have h1 : runsView s1 = runsView s := queued parts
  clear_value s1
  split
  · exact h1
  · exact h1

theorem sendClick_view (c : Chair) : runsView (sendClick c s) = runsView s := by
  unfold sendClick
  split
  · rfl
  · split <;> rfl

/-! ## The clock -/

theorem setClockState_view (st : ClockState) : runsView (setClockState st s) = runsView s := by
  unfold setClockState
  dsimp only
  split
  · rfl
  · split <;> split <;> rfl

theorem announce_view (pos : SongPos) (tick : Tick) : runsView (announce pos tick s).1 = runsView s := by
  unfold announce
  split <;> rfl

theorem fixNext_view (pos : SongPos) (sub : SubTick) (tempo : Nat) :
    runsView (fixNext pos sub tempo s).1 = runsView s :=
  (handOffClick_view ..).trans (announce_view ..)

theorem nextPosition_view (pos : SongPos) : runsView (nextPosition pos s).1 = runsView s := by
  unfold nextPosition
  dsimp only
  split
  · split
    · split
      · split
        · rfl
        · exact setClockState_view ..
      · rfl
    · rfl
  · rfl

theorem produceBeat_view (b : NextBeat) : runsView (produceBeat b s).1 = runsView s := by
  unfold produceBeat
  extract_lets boundary mark k1 s1 s2 tempo k2 s3 field o s4 k3 sub found clicks s5 k4
  have h4 : runsView s4 = runsView s := by
    show runsView (if boundary = true then { s1 with clock := s1.clock.dropFollow } else s1) = runsView s
    split <;> rfl
  have h5 : runsView s5 = runsView s :=
    (runsView_foldl (fun s k => handOffClick_view s k) _ _).trans ((nextPosition_view ..).trans h4)
  split
  · exact (setClockState_view ..).trans h4
  · split
    · exact (fixNext_view ..).trans h5
    · exact h5

theorem holdAction_view : runsView (holdAction s) = runsView s := by
  unfold holdAction
  split <;> rfl

theorem releaseAction_view : runsView (releaseAction s).1 = runsView s := by
  unfold releaseAction
  split
  · extract_lets tick sub k1 s1 found
    have h1 : runsView found.1 = runsView s := (nextPosition_view s1 _).trans (runsView_clock s _)
    split
    · exact (fixNext_view ..).trans ((setClockState_view ..).trans h1)
    · exact h1
  · rfl

theorem setTempoAction_view (v : Nat) : runsView (setTempoAction v s) = runsView s := by
  unfold setTempoAction
  split <;> rfl

theorem vampAction_view (first last : Nat) : runsView (vampAction first last s) = runsView s := by
  unfold vampAction
  split
  · dsimp only
    split
    · exact setClockState_view ..
    · rfl
  · rfl

theorem vampRelease_view : runsView (vampRelease s) = runsView s := by
  unfold vampRelease
  split <;> rfl

theorem freezeClock_view : runsView (freezeClock s) = runsView s := by
  unfold freezeClock
  split <;> first | rfl | exact setClockState_view ..

theorem resumePark_view : runsView (resumePark s) = runsView s := by
  unfold resumePark
  dsimp only
  split
  · exact setClockState_view ..
  · rfl

theorem countInCommand_view (song bar c : Nat) : runsView (countInCommand song bar c s).1 = runsView s := by
  unfold countInCommand
  split
  · rfl
  · dsimp only
    refine (fixNext_view ..).trans ?_
    split
    · exact setClockState_view ..
    · exact (handOffClick_view ..).trans (setClockState_view ..)

theorem countInBeat_view : runsView (countInBeat s) = runsView s := by
  unfold countInBeat
  split
  · split
    · dsimp only
      split
      · exact handOffClick_view ..
      · rfl
    · rfl
  · rfl

theorem tempoTap_view (onset : Tick) : runsView (tempoTap onset s) = runsView s := by
  unfold tempoTap
  split
  · split
    · rfl
    · dsimp only
      split <;> rfl
  · rfl

theorem parkForShow_view : runsView (parkForShow s) = runsView s := setClockState_view ..

/-! ## The stop -/

theorem setStopState_view (st : StopState) : runsView (setStopState st s) = runsView s := by
  unfold setStopState
  split <;> rfl

theorem cancelClicks_view : runsView (cancelClicks s) = runsView s := rfl

theorem handStopMarks_view (on : Bool) : runsView (handStopMarks on s) = runsView s := rfl

theorem joinStop_view (src : StopSource) : runsView (joinStop src s) = runsView s := rfl

theorem showStopCard_view : runsView (showStopCard s) = runsView s := rfl

theorem runsView_stop (k : StopController) : runsView { s with stop := k } = runsView s := rfl

/-- The show's freeze: the stop state becomes STOPPED, and the clock and its clicks stop (R166, R167). -/
theorem freezeStopped_view : runsView (freezeClock (cancelClicks (setStopState .stopped s))) = runsView s :=
  (freezeClock_view _).trans ((cancelClicks_view _).trans (setStopState_view s _))

theorem enterStop_view (src : StopSource) : runsView (enterStop src s) = runsView s := by
  unfold enterStop
  extract_lets s1 s2 count record k s3
  exact (showStopCard_view _).trans ((handStopMarks_view s3 true).trans
    ((runsView_stop s2 k).trans (freezeStopped_view s)))

theorem stopCountIn_view (src : StopSource) : runsView (stopCountIn src s) = runsView s := by
  unfold stopCountIn
  extract_lets s1 s2
  exact (showStopCard_view _).trans ((handStopMarks_view _ true).trans
    ((joinStop_view s2 src).trans (freezeStopped_view s)))

theorem stopRequest_view (src : StopSource) : runsView (stopRequest src s) = runsView s := by
  unfold stopRequest
  split
  · rfl
  · split
    · exact enterStop_view ..
    · rfl
    · exact stopCountIn_view ..

theorem lineDebounce_view : runsView (lineDebounce s) = runsView s := by
  unfold lineDebounce
  split
  · dsimp only
    split
    · split
      · exact stopRequest_view ..
      · rfl
    · rfl
  · rfl

theorem openStop_view : runsView (openStop s) = runsView s := by
  unfold openStop
  dsimp only
  split
  · exact (stopRequest_view ..).trans (setStopState_view ..)
  · exact setStopState_view ..

theorem closeStop_view : runsView (closeStop s) = runsView s := by
  unfold closeStop
  dsimp only
  split
  · exact setStopState_view ..
  · exact setStopState_view ..

theorem resumeParked_view : runsView (resumeParked s) = runsView s := by
  unfold resumeParked
  extract_lets s1 s2
  have h2 : runsView s2 = runsView s :=
    (handStopMarks_view s1 false).trans ((setStopState_view ..).trans (resumePark_view s))
  exact h2

theorem resumeCounting_view (song bar bars : Nat) : runsView (resumeCounting song bar bars s).1 = runsView s := by
  unfold resumeCounting
  extract_lets counted s1
  have h1 : runsView s1 = runsView s :=
    (handStopMarks_view counted.1 false).trans ((countInCommand_view ..).trans (setStopState_view ..))
  exact h1

theorem countInComplete_view : runsView (countInComplete s) = runsView s := setStopState_view ..

/-! ## Faults -/

theorem decideOutput_view : runsView (decideOutput s) = runsView s := by
  unfold decideOutput
  split
  · rfl
  · split
    · exact stopRequest_view ..
    · rfl

theorem sampleStep_view : runsView (sampleStep s) = runsView s := by
  unfold sampleStep
  split
  · dsimp only
    refine (decideOutput_view _).trans ?_
    split <;> split <;> rfl
  · rfl

theorem armingExpiry_view : runsView (armingExpiry s) = runsView s := by
  unfold armingExpiry
  split <;> rfl

theorem closeFaults_view : runsView (closeFaults s) = runsView s := decideOutput_view _

/-- FAULT SET writes one entry of the fault source settings, and nothing else of the book and the run states (R159). -/
theorem applyFault_view (i : Source) (new : FaultSetting) :
    runsView (applyFault i new s) = runsView { s with book := { s.book with settings :=
      { s.book.settings with faults := s.book.settings.faults.set i.val new i.isLt } } } := by
  unfold applyFault
  dsimp only
  split
  · exact decideOutput_view _
  · rfl

/-- The part of the state that the settings record has no part in. -/
theorem applyFaults_view (new : Vector FaultSetting 70) :
    ∃ set : Settings, runsView (applyFaults new s) = runsView { s with book := { s.book with settings := set } } := by
  have walk : ∀ (l : List Source) (s : State), ∃ set : Settings,
      runsView (l.foldl (fun s i => applyFault i new[i] s) s) =
        runsView { s with book := { s.book with settings := set } } := by
    intro l
    induction l with
    | nil => exact fun s => ⟨s.book.settings, rfl⟩
    | cons i l ih =>
      intro s
      obtain ⟨set, h⟩ := ih (applyFault i new[i] s)
      refine ⟨set, h.trans ?_⟩
      have one := congrArg (fun x : State => runsView { x with book := { x.book with settings := set } })
        (applyFault_view s i new[i])
      exact one
  exact walk _ s

/-! ## Video -/

theorem updateRevert_view : runsView (updateRevert s) = runsView s := by
  unfold updateRevert
  split
  · split <;> rfl
  · rfl

theorem moveFailover_view (c : Camera) (old new : CameraState) : runsView (moveFailover c old new s) = runsView s := by
  unfold moveFailover
  split
  · split
    · rfl
    · split <;> rfl
  · rfl

theorem setCameraState_view (c : Camera) (st : CameraState) : runsView (setCameraState c st s) = runsView s :=
  (updateRevert_view _).trans (moveFailover_view ..)

theorem recompareCam_view (c : Camera) : runsView (recompareCam s c) = runsView s := by
  unfold recompareCam
  dsimp only
  split
  · exact setCameraState_view ..
  · rfl

theorem videoSettings_view (old : Settings) : runsView (videoSettings old s) = runsView s := by
  unfold videoSettings
  refine (updateRevert_view _).trans ?_
  split
  · rfl
  · exact (recompareCam_view ..).trans (recompareCam_view ..)

theorem signalWatchExpiry_view (c : Camera) : runsView (signalWatchExpiry c s) = runsView s := by
  unfold signalWatchExpiry
  split
  · exact setCameraState_view ..
  · rfl

theorem frameStart_view (c : Camera) : runsView (frameStart c s) = runsView s := by
  unfold frameStart
  split
  · split <;> rfl
  · rfl

theorem takeArrival_view (c : Camera) (size : Option Size) : runsView (takeArrival c size s) = runsView s := by
  unfold takeArrival
  exact setCameraState_view ..

theorem frameComplete_view (c : Camera) (size : Option Size) (image : Nat) :
    runsView (frameComplete c size image s) = runsView s := by
  unfold frameComplete
  split
  · split
    · split
      · dsimp only
        split <;> rfl
      · rfl
    · rfl
  · rfl

theorem frameArrival_view (c : Camera) (widths : List Nat) (image : Nat) :
    runsView (frameArrival c widths image s) = runsView s :=
  (frameComplete_view ..).trans (takeArrival_view ..)

theorem failoverExpiry_view : runsView (failoverExpiry s) = runsView s := by
  unfold failoverExpiry
  split <;> rfl

theorem changeSelection_view (sel : Selection) : runsView (changeSelection sel s) = runsView s := by
  unfold changeSelection
  split
  · rfl
  · exact updateRevert_view _

theorem failoverDecision_view : runsView (failoverDecision s) = runsView s := by
  unfold failoverDecision
  split
  · split
    · rfl
    · split
      · rfl
      · split
        · exact changeSelection_view ..
        · exact changeSelection_view ..
  · rfl

theorem holdEnd_view : runsView (holdEnd s) = runsView s := by
  unfold holdEnd
  split
  · exact changeSelection_view ..
  · rfl

theorem revertDecision_view : runsView (revertDecision s) = runsView s := by
  unfold revertDecision
  split
  · exact changeSelection_view ..
  · rfl

theorem selectDecision_view : runsView (selectDecision s) = runsView s := by
  unfold selectDecision
  split
  · split
    · rfl
    · split
      · exact changeSelection_view ..
      · exact changeSelection_view ..
  · rfl

theorem takeBackDecision_view : runsView (takeBackDecision s) = runsView s := by
  unfold takeBackDecision
  split
  · split
    · exact changeSelection_view ..
    · rfl
  · rfl

theorem selectionStep_view : runsView (selectionStep s) = runsView s :=
  (takeBackDecision_view _).trans ((selectDecision_view _).trans ((revertDecision_view _).trans
    ((holdEnd_view _).trans (failoverDecision_view s))))

theorem readerStep_view : runsView (readerStep s) = runsView s := by
  unfold readerStep
  split
  · rfl
  · split
    · rfl
    · split <;> rfl

theorem composeStep_view : runsView (composeStep s) = runsView s := rfl

theorem windowStep_view : runsView (windowStep s) = runsView s := rfl

theorem runsView_video (v : Video) : runsView { s with video := v } = runsView s := rfl

theorem frameBoundary_view : runsView (frameBoundary s) = runsView s := by
  unfold frameBoundary
  split
  · exact (windowStep_view _).trans ((composeStep_view _).trans ((readerStep_view _).trans
      ((selectionStep_view _).trans ((failoverExpiry_view _).trans (runsView_video s _)))))
  · rfl

theorem setVideoMode_view (m : VideoMode) : runsView (setVideoMode m s) = runsView s := updateRevert_view _

/-! ## The pad -/

theorem holdPointReached_view : runsView (holdPointReached s) = runsView s := by
  unfold holdPointReached
  split
  · split
    · split
      · exact vampRelease_view _
      · rfl
    · rfl
  · rfl

theorem stopPointReached_view : runsView (stopPointReached s) = runsView s := by
  unfold stopPointReached
  split
  · split
    · exact stopRequest_view ..
    · rfl
  · rfl

theorem padLoss_view : runsView (padLoss s) = runsView s := by
  unfold padLoss
  split <;> rfl

theorem reseedPad_view : runsView (reseedPad s) = runsView s := by
  unfold reseedPad
  split <;> rfl

/-! ## The links -/

theorem probePeriod_view (c : Chair) : runsView (probePeriod c s) = runsView s := by
  unfold probePeriod
  split <;> rfl

theorem probeLost_view (c : Chair) : runsView (probeLost c s) = runsView s := by
  unfold probeLost
  split
  · split <;> rfl
  · rfl

theorem takeEcho_view (c : Chair) (id : Byte) (turnaround : Nat) : runsView (takeEcho c id turnaround s) = runsView s := by
  unfold takeEcho
  split
  · rfl
  · dsimp only
    split
    · split <;> rfl
    · rfl

theorem realignChair_view (c : Chair) : runsView (realignChair c s) = runsView s := by
  unfold realignChair
  dsimp only
  split <;> rfl

theorem lineActivity_view (c : Chair) : runsView (lineActivity c s) = runsView s := by
  unfold lineActivity
  dsimp only
  split <;> rfl

theorem holdOffExpiry_view (c : Chair) : runsView (holdOffExpiry c s) = runsView s := by
  unfold holdOffExpiry
  split
  · dsimp only
    split <;> rfl
  · rfl

theorem trainFrame_view (c : Chair) : runsView (trainFrame c s) = runsView s := by
  unfold trainFrame
  split
  · split <;> rfl
  · rfl

theorem trainingTimeout_view (c : Chair) : runsView (trainingTimeout c s) = runsView s := by
  unfold trainingTimeout
  split <;> rfl

theorem leakStep_view : runsView (leakStep s) = runsView s := by
  unfold leakStep
  split <;> rfl

theorem grant_view (c : Chair) : runsView (grant c s) = runsView s := by
  unfold grant
  dsimp only
  split
  · split <;> rfl
  · rfl

theorem checkSequence_view (c : Chair) (seq : Byte) : runsView (checkSequence c seq s) = runsView s := by
  unfold checkSequence
  dsimp only
  split <;> rfl

/-! ## The port -/

theorem ownerAnswer_view : runsView (ownerAnswer s) = runsView s := by
  unfold ownerAnswer
  split <;> rfl

end Sys2Proof.Proofs

/-! PROOFS. What a write and a retirement can do, and that every step keeps the book sound (R1, R5, R7, R11 to R24). -/

namespace Sys2Proof.Proofs

open Sys2Proof.Machine Sys2Proof.Laws

variable {s t : State}

/-! ## What a write that is taken has done (R11 to R18) -/

theorem writeSong_cases {w : SongWrite} (h : writeSong w s = .ok t) :
    s.book.songInvalid w = false ∧ t = { s with book := s.book.putSong (s.book.songRecord w) } := by
  unfold writeSong at h
  split at h
  · cases h
  · split at h
    · cases h
    next hi =>
      split at h
      · cases h
      · cases h; exact ⟨by simpa using hi, rfl⟩

theorem writeSegment_cases {w : SegmentWrite} (h : writeSegment w s = .ok t) :
    ∃ (g : Segment) (r : Song), s.book.song? g.song = some r ∧ r.has g.startBar = true ∧
      s.book.segmentsFull g = false ∧ t = { s with book := s.book.putSegment g } := by
  unfold writeSegment at h
  split at h
  · cases h
  next g _ =>
    split at h
    · cases h
    next r hr =>
      split at h
      · cases h
      next hbar =>
        split at h
        · cases h
        · split at h
          · cases h
          next hfull => cases h; exact ⟨g, r, hr, by simpa using hbar, by simpa using hfull, rfl⟩

theorem writePatch_cases {w : PatchWrite} (h : writePatch w s = .ok t) :
    ∃ p : Patch, s.book.patchesFull p = false ∧ t = { s with book := s.book.putPatch (s.book.patchRecord p) } := by
  unfold writePatch at h
  split at h
  · cases h
  next p _ =>
    split at h
    · cases h
    next hfull => cases h; exact ⟨p, by simpa using hfull, rfl⟩

/-- A cue write that is taken: the cue passes its checks, and the run states follow the book (R14, R15). -/
theorem writeCue_cases {w : CueWrite} (h : writeCue w s = .ok t) :
    ∃ q : Cue, s.book.holdsNamed q ∧ s.book.validCue q ∧ s.cueLocked q = false ∧
      (s.book.cue? q.number = none → s.book.cues.length < 1024) ∧
      t = if (s.book.cue? q.number).isNone then createRun q { s with book := s.book.putCue q }
          else amendRun q { s with book := s.book.putCue q } := by
  unfold writeCue at h
  split at h
  · cases h
  next q _ =>
    dsimp only at h
    split at h
    · cases h
    next hmissing =>
      have hn := (cueMissing_eq_false _ q).1 (by simpa using hmissing)
      split at h
      · cases h
      next hinvalid =>
        split at h
        · cases h
        next hlocked =>
          split at h
          · cases h
          next hfull =>
            cases h
            refine ⟨q, hn, (cueInvalid_eq_false hn).1 (by simpa using hinvalid), by simpa using hlocked, fun hnew => ?_, rfl⟩
            simpa [hnew] using hfull

theorem writeChair_cases {w : ChairWrite} (h : writeChair w s = .ok t) :
    ∃ (c : Chair) (r : ChairRec), t = takeTrims { s with book := s.book.putChair c r } := by
  unfold writeChair at h
  split at h
  · cases h
  next c r _ =>
    split at h
    · cases h
    · cases h; exact ⟨c, r, rfl⟩

theorem writeRole_cases {role key : Nat} (h : writeRole role key s = .ok t) :
    ∃ (i : Fin 32) (v : Variant), t = { s with book := s.book.putRole i v } := by
  unfold writeRole at h
  split at h
  · cases h
  next i v _ =>
    split at h
    · cases h
    · cases h; exact ⟨i, v, rfl⟩

theorem writeSettings_cases {w : SettingsWrite} (h : writeSettings w s = .ok t) :
    ∃ set : Settings, t = videoSettings s.book.settings { s with book := { s.book with settings := set } } := by
  unfold writeSettings at h
  split at h
  · cases h
  next set _ => cases h; exact ⟨set, rfl⟩

/-! ## What a retirement that is taken has done (R19) -/

theorem retireSong_cases {n : Nat} (h : retireSong n s = .ok t) :
    ∃ r : Song, s.book.song? n = some r ∧ r.cueCount = 0 ∧ t = { s with book := s.book.dropSong n } := by
  unfold retireSong at h
  split at h
  · cases h
  next r hr =>
    split at h
    · cases h
    · split at h
      · cases h
      next hc => cases h; exact ⟨r, hr, by simpa using hc, rfl⟩

theorem retireSegment_cases {song bar : Nat} (h : retireSegment song bar s = .ok t) :
    t = { s with book := s.book.dropSegment song bar } := by
  unfold retireSegment at h
  split at h
  · cases h
  · split at h
    · cases h
    · cases h; rfl

theorem retirePatch_cases {c : Chair} {n : Nat} (h : retirePatch c n s = .ok t) :
    ∃ p : Patch, s.book.patch? c n = some p ∧ p.refs = 0 ∧
      t = forgetPatch c n { s with book := s.book.dropPatch c n } := by
  unfold retirePatch at h
  split at h
  · cases h
  next p hp =>
    split at h
    · cases h
    next hc => cases h; exact ⟨p, hp, by simpa using hc, rfl⟩

theorem retireCue_cases {k : CueNumber} (h : retireCue k s = .ok t) :
    (s.cue.isOpen = true → s.runState k ≠ .firing ∧ s.runState k ≠ .standby) ∧
      t = dropRun k { s with book := s.book.dropCue k } := by
  unfold retireCue at h
  split at h
  · cases h
  · split at h
    · cases h
    next hfree =>
      cases h
      refine ⟨fun ho => ?_, rfl⟩
      simpa [ho] using hfree

/-- What a retirement from a table can do (R19). -/
theorem retireFrom_cases {k : RecordKey} (h : retireFrom k s = .ok t) :
    (∃ n, retireSong n s = .ok t) ∨ (∃ song bar, retireSegment song bar s = .ok t) ∨
      (∃ c n, retirePatch c n s = .ok t) ∨ ∃ n, retireCue n s = .ok t := by
  unfold retireFrom at h
  split at h
  · cases h
  · cases k with
    | song n => exact .inl ⟨n, h⟩
    | segment song bar => exact .inr (.inl ⟨song, bar, h⟩)
    | patch chair n =>
      dsimp only at h
      split at h
      next c _ => exact .inr (.inr (.inl ⟨c, n, h⟩))
      · cases h
    | cue major minor => exact .inr (.inr (.inr ⟨⟨major, minor⟩, h⟩))
    | chair | role | settings => cases h

/-! ## Frames of the run states' changes -/

theorem cutRuns_outside (song : Nat) (s : State) : outside (cutRuns song s) = outside s := by
  have cut : ∀ (s : State) (q : Cue), outside (cutCue s q) = outside s := by
    intro s q
    unfold cutCue
    split
    · exact passCue_outside ..
    · exact passCue_outside ..
    · rfl
    · rfl
    · rfl
  have walk := outside_foldl _ cut (s.book.cuesOf song) s
  unfold cutRuns
  dsimp only
  split
  · split
    · exact (placeStandby_outside ..).trans walk
    · exact walk
  · exact walk

theorem restoreRuns_outside (song : Nat) (s : State) : outside (restoreRuns song s) = outside s := by
  have restore : ∀ (s : State) (q : Cue), outside (restoreCue s q) = outside s := by
    intro s q
    unfold restoreCue
    split
    · split
      · exact setRun_outside ..
      · rfl
    all_goals rfl
  have walk := outside_foldl _ restore (s.book.cuesOf song) s
  unfold restoreRuns
  dsimp only
  split
  · exact (placeStandby_outside ..).trans walk
  · exact walk

theorem amendRun_outside (q : Cue) (s : State) : outside (amendRun q s) = outside s := by
  unfold amendRun
  split
  · split
    · exact passCue_outside ..
    · split <;> rfl
  · rfl

theorem createRun_outside (q : Cue) (s : State) : outside (createRun q s) = outside s := by
  unfold createRun
  split
  · dsimp only
    split
    · exact placeStandby_outside ..
    · rfl
  · rfl

theorem dropRun_outside (n : CueNumber) (s : State) : outside (dropRun n s) = outside s := by
  unfold dropRun
  dsimp only
  split <;> rfl

/-! ## Writes and retirements keep the book sound -/

theorem sound_of_view (h : runsView t = runsView s) (hs : s.book.Sound) : t.book.Sound := by
  rw [runsView_book h]; exact hs

theorem sound_of_outside (h : outside t = outside s) (hs : s.book.Sound) : t.book.Sound := by
  rw [outside_book h]; exact hs

theorem writeSong_sound {w : SongWrite} (hs : s.book.Sound) (h : writeSong w s = .ok t) : t.book.Sound := by
  obtain ⟨hi, rfl⟩ := writeSong_cases h
  exact putSong_sound hs hi

theorem writeSettings_sound {w : SettingsWrite} (hs : s.book.Sound) (h : writeSettings w s = .ok t) :
    t.book.Sound := by
  obtain ⟨set, rfl⟩ := writeSettings_cases h
  exact sound_of_view (videoSettings_view ..) (sound_of_tables hs rfl rfl rfl rfl)

theorem writeRole_sound {role key : Nat} (hs : s.book.Sound) (h : writeRole role key s = .ok t) : t.book.Sound := by
  obtain ⟨i, v, rfl⟩ := writeRole_cases h
  exact sound_of_tables hs rfl rfl rfl rfl

theorem writeChair_sound {w : ChairWrite} (hs : s.book.Sound) (h : writeChair w s = .ok t) : t.book.Sound := by
  obtain ⟨c, r, rfl⟩ := writeChair_cases h
  exact sound_of_view (takeTrims_view _) (sound_of_tables hs rfl rfl rfl rfl)

theorem writeCue_sound {w : CueWrite} (hs : s.book.Sound) (h : writeCue w s = .ok t) : t.book.Sound := by
  obtain ⟨q, hn, hv, -, hroom, rfl⟩ := writeCue_cases h
  have put : (s.book.putCue q).Sound := putCue_sound hs hn hv hroom
  split
  · exact sound_of_outside (createRun_outside ..) put
  · exact sound_of_outside (amendRun_outside ..) put

theorem writeRecord_sound {w : RecordWrite} (hs : s.book.Sound) (h : writeRecord w s = .ok t) : t.book.Sound := by
  cases w with
  | song w => exact writeSong_sound hs h
  | segment w =>
    obtain ⟨g, r, hr, hbar, hfull, rfl⟩ := writeSegment_cases h
    exact putSegment_sound hs hr hbar hfull
  | patch w =>
    obtain ⟨p, hfull, rfl⟩ := writePatch_cases h
    exact putPatch_sound hs hfull
  | cue w => exact writeCue_sound hs h
  | chair w => exact writeChair_sound hs h
  | role role key => exact writeRole_sound hs h
  | settings w => exact writeSettings_sound hs h

theorem retireFrom_sound {k : RecordKey} (hs : s.book.Sound) (h : retireFrom k s = .ok t) : t.book.Sound := by
  rcases retireFrom_cases h with ⟨n, h⟩ | ⟨song, bar, h⟩ | ⟨c, n, h⟩ | ⟨n, h⟩
  · obtain ⟨r, hr, hc, rfl⟩ := retireSong_cases h
    exact dropSong_sound hs hr hc
  · rw [retireSegment_cases h]
    exact dropSegment_sound hs song bar
  · obtain ⟨p, hp, hc, rfl⟩ := retirePatch_cases h
    exact dropPatch_sound hs hp hc
  · obtain ⟨-, rfl⟩ := retireCue_cases h
    exact sound_of_outside (dropRun_outside ..) (dropCue_sound hs n)

theorem bookChange_sound {change : State → Except Status State}
    (hc : ∀ {t}, change s = .ok t → t.book.Sound) (hs : s.book.Sound) : (bookChange change s).1.book.Sound := by
  unfold bookChange
  split
  · exact hs
  · split
    · exact hs
    next h => exact revise_sound (hc h)

theorem decideRunning_sound (n : Nat) (f : Running) {runs : Nat → State → State}
    (hr : ∀ n s, outside (runs n s) = outside s) (hs : s.book.Sound) : (decideRunning n f runs s).1.book.Sound := by
  unfold decideRunning
  split
  · exact hs
  · split
    · exact hs
    · split
      · exact hs
      · split
        · exact hs
        · split
          · exact hs
          · dsimp only
            have set := revise_sound (setRunning_sound hs n f)
            split
            · exact sound_of_outside (hr ..) set
            · exact set

/-! ## Clearing and loading (R24, R180, R181) -/

theorem clearBook_book (s : State) : (clearBook s).book = Book.empty := by
  unfold clearBook
  extract_lets s1 old s2
  have h2 : s2.book = Book.empty := runsView_book (videoSettings_view ..)
  rw [← h2, ← runsView_book (takeTrims_view s2)]
  generalize takeTrims s2 = x
  rfl

theorem endOperation_book (st : LoaderState) (r : LoaderResult) (s : State) : (endOperation st r s).book = s.book := rfl

theorem onReport_book (f : LoaderReport → LoaderReport) (s : State) : (onReport f s).book = s.book := rfl

theorem forgetFired_book (s : State) : (forgetFired s).book = s.book := rfl

theorem failLoad_book (r : LoaderResult) (s : State) : (failLoad r s).book = Book.empty := by
  rw [failLoad, endOperation_book, forgetFired_book, clearBook_book]

theorem failLoad_sound (r : LoaderResult) (s : State) : (failLoad r s).book.Sound := by
  rw [failLoad_book]; exact empty_sound

theorem applyFaults_sound (new : Vector FaultSetting 70) (hs : s.book.Sound) : (applyFaults new s).book.Sound := by
  obtain ⟨set, h⟩ := applyFaults_view s new
  exact sound_of_view h (sound_of_tables hs rfl rfl rfl rfl)

theorem installSong_sound {payload : List Byte} (hs : s.book.Sound) (h : installSong payload s = .ok t) :
    t.book.Sound := by
  unfold installSong at h
  split at h
  · cases h
  · split at h
    · cases h
    · split at h
      · cases h
      next hw =>
        cases h
        split
        · exact setRunning_sound (writeSong_sound hs hw) _ _
        · exact writeSong_sound hs hw

theorem installSettings_sound {payload : List Byte} (hs : s.book.Sound) (h : installSettings payload s = .ok t) :
    t.book.Sound := by
  unfold installSettings at h
  split at h
  · cases h
  · split at h
    · cases h
    · split at h
      · cases h
      next hw =>
        rw [← Except.ok.inj h]
        exact applyFaults_sound _ (writeSettings_sound hs hw)

theorem installRecord_sound {table : Table} {payload : List Byte} (hs : s.book.Sound)
    (h : installRecord table payload s = .ok t) : t.book.Sound := by
  have fields : ∀ table : Table, (match whole (readFields table payload) with
      | .error st => .error st
      | .ok w => writeRecord w s) = Except.ok t → t.book.Sound := by
    intro table h
    split at h
    · cases h
    · exact writeRecord_sound hs h
  cases table with
  | songs => exact installSong_sound hs h
  | settings => exact installSettings_sound hs h
  | segments => exact fields _ h
  | patches => exact fields _ h
  | cues => exact fields _ h
  | chairs => exact fields _ h
  | roles => exact fields _ h

theorem recordInstall_sound (code : Byte) (length : BitVec 16) (payload : List Byte) (hs : s.book.Sound) :
    (recordInstall code length payload s).book.Sound := by
  unfold recordInstall
  split
  · split
    · split
      · exact failLoad_sound ..
      · split
        · exact failLoad_sound ..
        · dsimp only
          split
          · rw [onReport_book]
            exact failLoad_sound ..
          next s' h =>
            dsimp only
            exact installRecord_sound hs h
    · exact hs
  · exact hs

theorem headerRead_sound (bytes : List Byte) (hs : s.book.Sound) : (headerRead bytes s).book.Sound := by
  unfold headerRead
  split
  · split
    · exact failLoad_sound ..
    · split
      · exact failLoad_sound ..
      · dsimp only
        rw [clearBook_book]; exact empty_sound
  · exact hs

theorem bodyEnd_sound (hs : s.book.Sound) : (bodyEnd s).book.Sound := by
  unfold bodyEnd
  split
  · split
    · split
      · exact failLoad_sound ..
      · split
        · exact failLoad_sound ..
        · rw [endOperation_book]; exact hs
    · exact hs
  · exact hs

/-- The loader's steps of a save write neither the book nor the run states (R182). -/
theorem save_book (readBack : List Byte) (s : State) :
    (eraseDone readBack s).book = s.book ∧ (eraseTimeout s).book = s.book ∧ (recordWritten readBack s).book = s.book ∧
      (programTimeout s).book = s.book ∧ (headerWritten readBack s).book = s.book := by
  refine ⟨?_, ?_, ?_, ?_, ?_⟩
  · unfold eraseDone; split
    · split <;> rfl
    · rfl
  · unfold eraseTimeout; split <;> rfl
  · unfold recordWritten; split
    · split
      · split <;> rfl
      · rfl
    · rfl
  · unfold programTimeout; split <;> rfl
  · unfold headerWritten; split
    · split <;> rfl
    · rfl

/-! ## Operations of the show -/

theorem openFaults_book (s : State) : (openFaults s).book = s.book := rfl

theorem detachPatches_book (s : State) : (detachPatches s).book = s.book := rfl

theorem enableClicks_book (s : State) : (enableClicks s).book = s.book := rfl

theorem emptyPending_book (s : State) : (emptyPending s).book = s.book := rfl

theorem openShow_book (s : State) : (openShow s).book = s.book := by
  unfold openShow
  extract_lets o s1 s2 s3 k s4
  have h3 : s3.book = s2.book := runsView_book (parkForShow_view s2)
  rw [runsView_book (openStop_view _), openFaults_book, detachPatches_book, enableClicks_book]
  have h2 := outside_book (placeStandby_outside s1 (s1.firstGoAfter none))
  exact h3.trans h2

theorem closeShow_book (s : State) : (closeShow s).book = s.book := by
  unfold closeShow
  extract_lets s1 s2 s3
  have h3 : s3.book = s2.book := by
    rw [runsView_book (closeStop_view _), runsView_book (closeFaults_view _), emptyPending_book]
  have h2 := runsView_book (parkForShow_view (cancelClicks s1))
  have h1 : (cancelClicks s1).book = s.book := rfl
  dsimp only
  rw [h3, h2, h1]

theorem resumeAt_book (q : Cue) (bars : Nat) (s : State) : (resumeAt q bars s).book = s.book := by
  unfold resumeAt
  extract_lets k held s1 s2
  have h1 : s1.book = s.book := rfl
  have h2 : s2.book = s1.book :=
    (outside_book (outside_foldl _ (fun s c => reconstructChair_outside s q.number c) _ _)).trans
      (outside_book (rewriteRuns_outside s1 q.number))
  rw [h1] at h2
  clear_value s2
  split
  next bar _ _ song _ _ =>
    have h3 := runsView_book (resumeCounting_view s2 song bar bars)
    exact (outside_book (settleBars_outside _)).trans (h3.trans h2)
  · exact (runsView_book (resumeParked_view s2)).trans h2

theorem countInEnd_book (s : State) : (countInEnd s).book = s.book := by
  unfold countInEnd
  split
  · split
    · extract_lets k s1 s2 produced
      have h2 : s2.book = s.book := runsView_book (setClockState_view s1 _)
      have h3 : produced.1.book = s.book := (runsView_book (produceBeat_view ..)).trans h2
      exact (outside_book (settleBars_outside _)).trans ((runsView_book (countInComplete_view _)).trans h3)
    · rfl
  · rfl

theorem padSwipe_outside {move : State → State} (h : ∀ s, outside (move s) = outside s) (s : State) :
    outside (padSwipe move s) = outside s := by
  unfold padSwipe
  split
  · exact h s
  · rfl

theorem handGesture_outside (k : Contact) (s : State) : outside (handGesture k s) = outside s := by
  unfold handGesture
  split
  · exact decideGo_outside ..
  · exact tempoTap_outside ..
  · exact padSwipe_outside standbyNext_outside s
  · exact padSwipe_outside standbyBack_outside s
  · rfl

theorem padFrame_book (bytes : List Byte) (s : State) : (padFrame bytes s).book = s.book := by
  unfold padFrame
  split
  · rfl
  · split
    · extract_lets taken s1
      have h1 : s1.book = s.book := rfl
      clear_value s1
      split
      next k _ => exact (outside_book (handGesture_outside k s1)).trans h1
      next => exact h1
    · rfl
    · rfl

/-! ## The links -/

theorem loseLink_outside (c : Chair) (cause : LossCause) (s : State) : outside (loseLink c cause s) = outside s := by
  unfold loseLink
  extract_lets queued s1 s2 o s3
  have h2 : outside s2 = outside s1 := outside_foldl _ (fun s k => finishPart_outside s c _) _ s1
  have h3 : outside s3 = outside s2 := rfl
  have h1 : outside s1 = outside s := rfl
  rw [linkLost_outside, h3, h2, h1]

theorem lockLink_outside (c : Chair) (seq : Byte) (latency : Nat) (monitor : Bool) (s : State) :
    outside (lockLink c seq latency monitor s) = outside s := by
  unfold lockLink
  extract_lets mark s1
  have h1 : outside (makeProbe c (emptyFilter c s1)) = outside s := rfl
  rw [relockRestore_outside, h1]

theorem fillBucket_outside (c : Chair) (s : State) : outside (fillBucket c s) = outside s := by
  unfold fillBucket
  extract_lets s1
  split
  · split
    · exact loseLink_outside ..
    · rfl
    · rfl
  · rfl

theorem checkSequence_outside (c : Chair) (seq : Byte) (s : State) : outside (checkSequence c seq s) = outside s := by
  unfold checkSequence
  dsimp only
  split <;> rfl

theorem takeEcho_outside (c : Chair) (id : Byte) (turnaround : Nat) (s : State) :
    outside (takeEcho c id turnaround s) = outside s := by
  unfold takeEcho
  split
  · rfl
  · dsimp only
    split
    · split <;> rfl
    · rfl

theorem deliver_outside (c : Chair) (seq : Byte) (m : UpMsg) (s : State) : outside (deliver c seq m s) = outside s := by
  have checked := checkSequence_outside c seq s
  cases m with
  | hello latency monitor => exact (lockLink_outside ..).trans (loseLink_outside ..)
  | goPress =>
    refine Eq.trans ?_ checked
    simp only [deliver, takePress]
    split
    · exact chairGo_outside _
    · rfl
  | patchAck tag okay =>
    refine Eq.trans ?_ checked
    simp only [deliver, takeAck]
    split
    · exact acknowledge_outside ..
    · rfl
  | echo id turnaround => exact (takeEcho_outside ..).trans checked
  | idle => exact checked

theorem lineActivity_outside (c : Chair) (s : State) : outside (lineActivity c s) = outside s := by
  unfold lineActivity
  dsimp only
  split <;> rfl

theorem arrive_outside (c : Chair) (m : UplinkCheck) (s : State) : outside (arrive c m s) = outside s := by
  unfold arrive
  split
  · exact lineActivity_outside c s
  · extract_lets s1
    split
    · exact fillBucket_outside ..
    · exact fillBucket_outside ..
    · split
      · exact deliver_outside ..
      · split
        · exact lockLink_outside ..
        · rfl

theorem silenceTimeout_outside (c : Chair) (s : State) : outside (silenceTimeout c s) = outside s := by
  unfold silenceTimeout
  split
  · exact loseLink_outside ..
  · rfl

/-! ## Every decision and every event -/

theorem decideResume_book (major minor bars : Nat) (s : State) : (decideResume major minor bars s).1.book = s.book := by
  unfold decideResume
  split
  · rfl
  · dsimp only
    rw [resumeAt_book]

theorem setHeld_outside (n : Option CueNumber) (s : State) : outside (setHeld n s) = outside s := rfl

theorem decideStandbySet_outside (major minor : Nat) (s : State) :
    outside (decideStandbySet major minor s).1 = outside s := by
  unfold decideStandbySet
  dsimp only
  split
  · rfl
  · split
    · rfl
    · split
      · rfl
      · split
        · rfl
        · split
          · rw [setHeld_outside, moveStandby_outside]
            rfl
          · rfl

theorem decideMove_outside {move : State → State} (h : ∀ s, outside (move s) = outside s) (s : State) :
    outside (decideMove move s).1 = outside s := by
  unfold decideMove
  split
  · exact h s
  · rfl

theorem decideRig_outside (chair : Nat) (entries : List Entry) (s : State) :
    outside (decideRig chair entries s).1 = outside s := by
  unfold decideRig
  split
  · rfl
  · split
    · rfl
    · split
      · exact takeRequest_outside ..
      · rfl

theorem decideFaultSet_sound (source window action : Nat) (hs : s.book.Sound) :
    (decideFaultSet source window action s).1.book.Sound := by
  unfold decideFaultSet
  split
  · exact hs
  · split
    · exact hs
    · split
      · exact hs
      · exact revise_sound (sound_of_view (applyFault_view ..) (sound_of_tables hs rfl rfl rfl rfl))

/-- Every decision keeps the book sound. -/
theorem decision_sound (i : Instr) (d : State → Decision) (s : State) (hd : decisionOf i = some d)
    (hs : s.book.Sound) : (d s).1.book.Sound := by
  cases i <;> cases hd
  case recordWrite w => exact bookChange_sound (writeRecord_sound hs) hs
  case recordRead k =>
    simp only [decideRead]
    split
    · exact hs
    · split
      · exact hs
      · split <;> exact hs
  case recordRetire k =>
    have from_ := bookChange_sound (change := retireFrom k) (retireFrom_sound hs) hs
    cases k
    case chair | role | settings => exact hs
    all_goals exact from_
  case cursorSet k =>
    simp only [decideCursorSet]
    split
    · exact hs
    · split
      · exact hs
      · exact sound_of_tables hs rfl rfl rfl rfl
  case cursorRead =>
    simp only [decideCursorRead]
    split
    · exact hs
    · split
      · exact sound_of_tables hs rfl rfl rfl rfl
      · exact hs
  case bookClear =>
    simp only [decideClear]
    split
    · exact hs
    · split
      · exact hs
      · dsimp only
        rw [forgetFired_book, clearBook_book]; exact empty_sound
  case bookInfo => simp only [decideInfo]; split <;> exact hs
  case bookLoad slot => simp only [decideLoad]; split <;> exact hs
  case bookSave slot => simp only [decideSave]; split <;> exact hs
  case castSet role key => exact bookChange_sound (writeRole_sound hs) hs
  case songCut n => exact decideRunning_sound n .cut cutRuns_outside hs
  case songRestore n => exact decideRunning_sound n .playing restoreRuns_outside hs
  case showOpen =>
    simp only [decideShowOpen]
    split
    · exact hs
    · split
      · exact hs
      · dsimp only
        rw [openShow_book]; exact hs
  case showClose =>
    simp only [decideShowClose]
    split
    · dsimp only
      rw [closeShow_book]; exact hs
    · exact hs
  case go => exact sound_of_outside (decideGo_outside s .control) hs
  case standbySet major minor => exact sound_of_outside (decideStandbySet_outside ..) hs
  case standbyNext => exact sound_of_outside (decideMove_outside standbyNext_outside s) hs
  case standbyBack => exact sound_of_outside (decideMove_outside standbyBack_outside s) hs
  case vampRelease =>
    simp only [decideVampRelease]
    split
    · exact hs
    · split
      · exact hs
      · split
        · exact sound_of_view (vampRelease_view s) hs
        · exact hs
  case stop =>
    simp only [decideStop]
    split
    · exact sound_of_view (stopRequest_view s .host) hs
    · exact hs
  case resume major minor bars => rw [decideResume_book]; exact hs
  case stationSet w => exact bookChange_sound (writeChair_sound hs) hs
  case rigWrite chair entries => exact sound_of_outside (decideRig_outside ..) hs
  case realign chair =>
    simp only [decideRealign]
    split
    · exact hs
    · exact sound_of_view (realignChair_view ..) hs
  case videoSelect mode =>
    simp only [decideVideo]
    split
    · exact hs
    · exact sound_of_view (setVideoMode_view ..) hs
  case faultSet source window action => exact decideFaultSet_sound source window action hs
  case faultRead source =>
    simp only [decideFaultRead]
    split
    · exact hs
    · split <;> exact hs
  case faultClear => exact hs
  case padReseed => exact sound_of_view (reseedPad_view s) hs
  case statusRead part chair => simp only [decideStatus]; split <;> exact hs
  case eventMask mask => simp only [decideMask]; split <;> exact hs
  case stopRecordRead => exact hs
  case systemReset =>
    show s.bookAfterReset.Sound
    unfold State.bookAfterReset
    split
    · exact empty_sound
    · exact sound_of_tables hs rfl rfl rfl rfl

/-- Every event keeps the book sound. -/
theorem event_sound (i : Instr) (f : State → State) (s : State) (hf : eventOf i = some f) (hs : s.book.Sound) :
    (f s).book.Sound := by
  have save := fun readBack => save_book readBack s
  cases i <;> cases hf
  case ownerAnswer => exact sound_of_view (ownerAnswer_view s) hs
  case beatProduction => exact sound_of_outside (beatReached_outside s) hs
  case songEnd => exact sound_of_outside (songEnd_outside s) hs
  case barTrigger => exact sound_of_outside (barTrigger_outside s) hs
  case followTimerExpiry => exact sound_of_outside (followExpiry_outside s) hs
  case goGuardExpiry => exact sound_of_outside (guardExpiry_outside s) hs
  case countInBeat => exact sound_of_outside (countInBeat_outside s) hs
  case countInEnd => rw [countInEnd_book]; exact hs
  case syncLock => exact hs
  case syncUnlock => exact hs
  case clickSend c => exact sound_of_outside (sendClick_outside s c) hs
  case patchTimeout c => exact sound_of_outside (patchTimeout_outside s c) hs
  case probePeriod c => exact sound_of_view (probePeriod_view s c) hs
  case probeLost c => exact sound_of_view (probeLost_view s c) hs
  case lineActivity c => exact sound_of_view (lineActivity_view s c) hs
  case holdOffExpiry c => exact sound_of_view (holdOffExpiry_view s c) hs
  case trainFrame c => exact sound_of_view (trainFrame_view s c) hs
  case trainingTimeout c => exact sound_of_view (trainingTimeout_view s c) hs
  case silenceTimeout c => exact sound_of_outside (silenceTimeout_outside c s) hs
  case leakStep => exact sound_of_view (leakStep_view s) hs
  case uplinkDamaged c bytes => exact sound_of_outside (arrive_outside ..) hs
  case hello c seq version latency flags => exact sound_of_outside (arrive_outside ..) hs
  case goPress c seq => exact sound_of_outside (arrive_outside ..) hs
  case patchAck c seq tag result => exact sound_of_outside (arrive_outside ..) hs
  case echo c seq id turnaround => exact sound_of_outside (arrive_outside ..) hs
  case idle c seq => exact sound_of_outside (arrive_outside ..) hs
  case downlinkGrant c => exact sound_of_view (grant_view s c) hs
  case cameraFrameStart cam => exact sound_of_view (frameStart_view s cam) hs
  case cameraFrameArrival cam widths image => exact sound_of_view (frameArrival_view ..) hs
  case signalWatchExpiry cam => exact sound_of_view (signalWatchExpiry_view s cam) hs
  case failoverExpiry => exact sound_of_view (failoverExpiry_view s) hs
  case outputFrameBoundary => exact sound_of_view (frameBoundary_view s) hs
  case padSample bytes => rw [padFrame_book]; exact hs
  case padLoss => exact sound_of_view (padLoss_view s) hs
  case holdPoint => exact sound_of_view (holdPointReached_view s) hs
  case stopPoint => exact sound_of_view (stopPointReached_view s) hs
  case stopLineDebounce => exact sound_of_view (lineDebounce_view s) hs
  case faultSampleStep => exact sound_of_view (sampleStep_view s) hs
  case armingExpiry => exact sound_of_view (armingExpiry_view s) hs
  case imageHeaderRead bytes => exact headerRead_sound bytes hs
  case imageRecordInstall code length payload => exact recordInstall_sound code length payload hs
  case imageBodyEnd => exact bodyEnd_sound hs
  case slotEraseDone readBack => rw [(save readBack).1]; exact hs
  case eraseTimeout => rw [(save []).2.1]; exact hs
  case imageRecordWrite readBack => rw [(save readBack).2.2.1]; exact hs
  case programTimeout => rw [(save []).2.2.2.1]; exact hs
  case imageHeaderWrite readBack => rw [(save readBack).2.2.2.2]; exact hs

/-- A sound book is kept by every part of a step. -/
theorem kept_sound : Kept fun s => s.book.Sound where
  queue := fun _ _ h => h
  time := fun _ _ h => h
  port := fun _ _ h => h
  stop := fun _ _ h => h
  decision := decision_sound
  event := event_sound
  powerOn := fun boot s _ => by
    unfold powerOn
    dsimp only
    split <;> exact empty_sound
  assertReset := fun _ h => h

/-- Settles O58, from what each decision and each event keeps. -/
theorem everyStepKeepsTheBookSound : Obligations.EveryStepKeepsTheBookSound :=
  fun _ _ hs ht => kept_sound.step_keeps hs ht

end Sys2Proof.Proofs

/-! PROOFS. The invariant of the run states while a cue fires and its requests are handed on (R20, R25, R36, R48). -/

namespace Sys2Proof.Proofs

open Sys2Proof.Machine Sys2Proof.Laws

/-! ## Run entries -/

theorem runState_of_open {s : State} (ho : s.cue.isOpen = true) (k : CueNumber) :
    s.runState k = ((s.cue.entry? k).map (·.state)).getD .pending := by simp [State.runState, ho]

theorem runState_of_closed {s : State} (ho : s.cue.isOpen = false) (k : CueNumber) : s.runState k = .pending := by
  simp [State.runState, ho]

theorem runState_of_entry {s : State} (ho : s.cue.isOpen = true) {k : CueNumber} {e : RunEntry}
    (he : s.cue.entry? k = some e) : s.runState k = e.state := by simp [runState_of_open ho, he]

theorem open_of_runState {s : State} {k : CueNumber} (h : s.runState k ≠ .pending) : s.cue.isOpen = true := by
  by_contra ho
  exact h (runState_of_closed (by simpa using ho) k)

theorem entry_of_runState {s : State} {k : CueNumber} (h : s.runState k ≠ .pending) :
    ∃ e : RunEntry, s.cue.entry? k = some e ∧ e.state = s.runState k := by
  have ho := open_of_runState h
  cases he : s.cue.entry? k with
  | none => exact absurd (by simp [runState_of_open ho, he]) h
  | some e => exact ⟨e, rfl, (runState_of_entry ho he).symm⟩

theorem runState_congr {s t : State} (ho : t.cue.isOpen = s.cue.isOpen) {k : CueNumber}
    (he : t.cue.entry? k = s.cue.entry? k) : t.runState k = s.runState k := by simp only [State.runState, ho, he]

/-- The entry of a cue after a change of every entry that keeps its cue. -/
theorem find?_map_entry (l : List RunEntry) (f : RunEntry → RunEntry) (hf : ∀ r, (f r).cue = r.cue) (k : CueNumber) :
    (l.map f).find? (fun r => decide (r.cue = k)) = (l.find? fun r => decide (r.cue = k)).map f := by
  rw [List.find?_map]
  congr 2
  funext r
  simp [hf]

theorem entry?_mapRun (n : CueNumber) {f : RunEntry → RunEntry} (hf : ∀ r, (f r).cue = r.cue) (s : State) (k : CueNumber) :
    (mapRun n f s).cue.entry? k = if k = n then (s.cue.entry? k).map f else s.cue.entry? k := by
  have kept : ∀ r : RunEntry, (if r.cue = n then f r else r).cue = r.cue := fun r => by split <;> simp [hf]
  show (s.cue.runs.map _).find? _ = _
  rw [find?_map_entry _ _ kept]
  show (s.cue.entry? k).map _ = _
  cases he : s.cue.entry? k with
  | none => simp
  | some e =>
    have hk : e.cue = k := by simpa using List.find?_some he
    by_cases hkn : k = n <;> simp [hk, hkn]

/-- The entry that a run state taken gives. -/
def newState (st : RunState) (r : RunEntry) : RunEntry := { r with state := st, mark := none }

theorem setRun_eq (n : CueNumber) (st : RunState) (s : State) :
    setRun n st s = if s.cue.held = some n ∧ st ≠ .pending then setHeld none (mapRun n (newState st) s)
      else mapRun n (newState st) s := rfl

theorem entry?_setRun (n : CueNumber) (st : RunState) (s : State) (k : CueNumber) :
    (setRun n st s).cue.entry? k = if k = n then (s.cue.entry? k).map (newState st) else s.cue.entry? k := by
  rw [setRun_eq, ← entry?_mapRun n (f := newState st) (fun _ => rfl)]
  split <;> rfl

theorem setRun_held (n : CueNumber) (st : RunState) (s : State) :
    (setRun n st s).cue.held = if s.cue.held = some n ∧ st ≠ .pending then none else s.cue.held := by
  rw [setRun_eq]; split <;> rfl

theorem setRun_standby (n : CueNumber) (st : RunState) (s : State) : (setRun n st s).cue.standby = s.cue.standby := by
  rw [setRun_eq]; split <;> rfl

theorem setRun_patch (n : CueNumber) (st : RunState) (s : State) : (setRun n st s).patch = s.patch := by
  rw [setRun_eq]; split <;> rfl

/-! ## The slots -/

theorem slotHolds_iff (s : State) (k : CueNumber) :
    s.slotHolds k = true ↔ ∃ c : Chair, s.patch[c].holds k = true := by
  simp only [State.slotHolds, List.any_eq_true]
  constructor
  · rintro ⟨d, hd, hk⟩
    obtain ⟨i, hi, rfl⟩ := Vector.mem_iff_getElem.1 (Vector.mem_toList_iff.1 hd)
    exact ⟨⟨i, hi⟩, hk⟩
  · rintro ⟨c, hk⟩
    exact ⟨s.patch[c], Vector.mem_toList_iff.2 (Vector.getElem_mem c.isLt), hk⟩

theorem isOf_iff (r : PatchReq) (k : CueNumber) : r.isOf k = true ↔ ∃ sel, r = .cue k false sel := by
  cases r with
  | cue m detached sel => cases detached <;> simp [PatchReq.isOf]
  | restore sel => simp [PatchReq.isOf]
  | adHoc => simp [PatchReq.isOf]

theorem holds_iff (d : Dispatch) (k : CueNumber) :
    d.holds k = true ↔ (∃ f, d.flight = some f ∧ f.req.isOf k = true) ∨ ∃ r, d.waiting = some r ∧ r.isOf k = true := by
  simp [Dispatch.holds, Option.any_eq_true]

theorem slotHolds_iff_holdsRequestOf (s : State) (k : CueNumber) : s.slotHolds k = true ↔ s.holdsRequestOf k := by
  simp only [slotHolds_iff, holds_iff, isOf_iff, State.holdsRequestOf]
  constructor
  · rintro ⟨c, ⟨f, hf, sel, hr⟩ | ⟨r, hr, sel, rfl⟩⟩
    · exact ⟨c, sel, .inr ⟨f, hf, hr⟩⟩
    · exact ⟨c, sel, .inl hr⟩
  · rintro ⟨c, sel, hr | ⟨f, hf, hr⟩⟩
    · exact ⟨c, .inr ⟨_, hr, sel, rfl⟩⟩
    · exact ⟨c, .inl ⟨f, hf, sel, hr⟩⟩

theorem slotHolds_onDispatch (c : Chair) (f : Dispatch → Dispatch) (s : State) (k : CueNumber) :
    (onDispatch c f s).slotHolds k = true ↔
      (f s.patch[c]).holds k = true ∨ ∃ d : Chair, d ≠ c ∧ s.patch[d].holds k = true := by
  rw [slotHolds_iff]
  have entry : ∀ d : Chair, (onDispatch c f s).patch[d] = if d = c then f s.patch[d] else s.patch[d] :=
    fun d => modifyAt_getElem s.patch c d f
  simp only [entry]
  constructor
  · rintro ⟨d, hd⟩
    by_cases hdc : d = c
    · subst hdc; exact .inl (by simpa using hd)
    · exact .inr ⟨d, hdc, by simpa [hdc] using hd⟩
  · rintro (h | ⟨d, hdc, hd⟩)
    · exact ⟨c, by simpa using h⟩
    · exact ⟨d, by simpa [hdc] using hd⟩

/-! ## The invariant -/

/-- The cue is PENDING, or a resume has marked it to return so. -/
def Waits (e : RunEntry) : Prop := e.state = .pending ∨ (e.state = .firing ∧ e.mark = some .pending)

/-- The run states but for the standby, while cues of `loose` are FIRING though no slot holds a request of them; a waiting
cue is one of `free`, the cues of no CUT song. -/
structure RunsCore (free : Cue → Prop) (loose : CueNumber → Prop) (s : State) : Prop where
  book : s.book.Sound
  shut : s.cue.isOpen = false → s.cue.held = none ∧
    ∀ (c : Chair) (r : PatchReq) (n : CueNumber), s.patch[c].waiting = some r → r.isOf n = false
  busy : s.busy = true → s.cue.isOpen = false
  entries : s.cue.isOpen = true → ∀ n : CueNumber, (s.cue.entry? n).isSome = (s.book.cue? n).isSome
  waits : s.cue.isOpen = true → ∀ (n : CueNumber) (e : RunEntry) (c : Cue), s.cue.entry? n = some e →
    s.book.cue? n = some c → Waits e → free c
  held : ∀ n : CueNumber, s.cue.held = some n → (s.book.cue? n).isSome = true ∧ s.runState n = .pending
  firing : s.cue.isOpen = true → ∀ n : CueNumber, s.runState n = .firing ↔ s.slotHolds n = true ∨ loose n

/-- The standby, and it alone, is in STANDBY, but that while a GO fires the standby `fired` that cue has left STANDBY, and
the standby may have moved to an earlier cue (R36, R47). -/
structure StandbyOf (free : Cue → Prop) (fired : Option CueNumber) (s : State) : Prop where
  shut : s.cue.isOpen = false → s.cue.standby = none
  only : s.cue.isOpen = true → ∀ n : CueNumber, s.runState n = .standby ↔ s.cue.standby = some n ∧ fired ≠ some n
  cue : ∀ n : CueNumber, s.cue.standby = some n → ∃ c : Cue, s.book.cue? n = some c ∧ c.trigger = .go ∧ free c
  fired : ∀ n : CueNumber, fired = some n → (∀ e : RunEntry, s.cue.entry? n = some e → e.mark = none) ∧
    ∃ m : CueNumber, s.cue.standby = some m ∧ (m = n ∨ m.before n = true)

/-- The invariant of the run states while a cue fires. -/
structure RunsWithin (free : Cue → Prop) (loose : CueNumber → Prop) (fired : Option CueNumber) (s : State) : Prop where
  core : RunsCore free loose s
  standby : StandbyOf free fired s

/-- No cue. -/
abbrev noCue : CueNumber → Prop := fun _ => False

/-- Outside a fire the invariant says what `runsSound` says. -/
theorem runsWithin_iff (s : State) :
    RunsWithin (fun c => ¬s.book.ofCutSong c) noCue none s ↔ s.book.Sound ∧ s.runsSound := by
  constructor
  · rintro ⟨core, standby⟩
    refine ⟨core.book, ⟨fun ho => ⟨standby.shut ho, (core.shut ho).1, fun c n sel hw => ?_⟩, core.busy, core.entries,
      fun ho n => ?_, standby.cue, fun ho c hc hp => ?_, fun ho c hc e he hf hm => ?_, core.held, fun ho n => ?_⟩⟩
    · exact absurd ((core.shut ho).2 c _ n hw) (by simp [PatchReq.isOf])
    · simpa using (standby.only ho n).symm
    · have hq := cue?_of_mem core.book hc
      obtain ⟨e, he⟩ := Option.isSome_iff_exists.1 ((core.entries ho c.number).trans (by rw [hq]; rfl))
      exact core.waits ho _ e c he hq (.inl (by rw [← runState_of_entry ho he]; exact hp))
    · exact core.waits ho _ e c he (cue?_of_mem core.book hc) (.inr ⟨hf, hm⟩)
    · simpa [slotHolds_iff_holdsRequestOf] using core.firing ho n
  · rintro ⟨hb, hs⟩
    refine ⟨⟨hb, fun ho => ⟨(hs.closed ho).2.1, fun c r n hw => ?_⟩, hs.busy, hs.entries, fun ho n e c he hc hw => ?_,
      hs.held, fun ho n => ?_⟩, ⟨fun ho => (hs.closed ho).1, fun ho n => ?_, hs.standbyCue, fun _ h => by cases h⟩⟩
    · by_contra hr
      obtain ⟨sel, rfl⟩ := (isOf_iff r n).1 (by simpa using hr)
      exact (hs.closed ho).2.2 c n sel hw
    · obtain ⟨hmem, rfl⟩ := cue?_key hc
      rcases hw with hp | ⟨hf, hm⟩
      · exact hs.pending ho c hmem (by rw [runState_of_entry ho he]; exact hp)
      · exact hs.marks ho c hmem e he hf hm
    · simpa [slotHolds_iff_holdsRequestOf] using hs.firing ho n
    · simpa using (hs.standby ho n).symm

section rules
variable {free : Cue → Prop} {loose loose' : CueNumber → Prop} {fired : Option CueNumber} {s t : State}

theorem core_of_view (hv : runsView t = runsView s) (h : RunsCore free loose s) : RunsCore free loose t := by
  have view : ∀ x : State, RunsCore free loose (runsView x) ↔ RunsCore free loose x := fun x =>
    ⟨fun h => ⟨h.book, h.shut, h.busy, h.entries, h.waits, h.held, h.firing⟩,
     fun h => ⟨h.book, h.shut, h.busy, h.entries, h.waits, h.held, h.firing⟩⟩
  exact (view t).1 (hv ▸ (view s).2 h)

theorem standby_of_view (hv : runsView t = runsView s) (h : StandbyOf free fired s) : StandbyOf free fired t := by
  have view : ∀ x : State, StandbyOf free fired (runsView x) ↔ StandbyOf free fired x := fun x =>
    ⟨fun h => ⟨h.shut, h.only, h.cue, h.fired⟩, fun h => ⟨h.shut, h.only, h.cue, h.fired⟩⟩
  exact (view t).1 (hv ▸ (view s).2 h)

theorem within_of_view (hv : runsView t = runsView s) (h : RunsWithin free loose fired s) :
    RunsWithin free loose fired t := ⟨core_of_view hv h.core, standby_of_view hv h.standby⟩

/-- A cue of the open show has an entry. -/
theorem entry_of_cue (h : RunsCore free loose s) (ho : s.cue.isOpen = true) {n : CueNumber} {c : Cue}
    (hc : s.book.cue? n = some c) : ∃ e : RunEntry, s.cue.entry? n = some e :=
  Option.isSome_iff_exists.1 ((h.entries ho n).trans (by rw [hc]; rfl))

/-- A PENDING cue of the open show is of no CUT song. -/
theorem free_of_pending (h : RunsCore free loose s) (ho : s.cue.isOpen = true) {n : CueNumber} {c : Cue}
    (hc : s.book.cue? n = some c) (hp : s.runState n = .pending) : free c := by
  obtain ⟨e, he⟩ := entry_of_cue h ho hc
  exact h.waits ho n e c he hc (.inl (by rw [← runState_of_entry ho he]; exact hp))

/-! ## One run entry changed -/

/-- The state `t` is `s` with the entry of one cue changed. -/
structure Edits (n : CueNumber) (f : RunEntry → RunEntry) (s t : State) : Prop where
  book : t.book = s.book
  isOpen : t.cue.isOpen = s.cue.isOpen
  loader : t.loader = s.loader
  patch : t.patch = s.patch
  standby : t.cue.standby = s.cue.standby
  entry : ∀ k : CueNumber, t.cue.entry? k = if k = n then (s.cue.entry? k).map f else s.cue.entry? k

theorem mapRun_edits (n : CueNumber) {f : RunEntry → RunEntry} (hf : ∀ r, (f r).cue = r.cue) (s : State) :
    Edits n f s (mapRun n f s) := ⟨rfl, rfl, rfl, rfl, rfl, entry?_mapRun n hf s⟩

theorem setRun_edits (n : CueNumber) (st : RunState) (s : State) : Edits n (newState st) s (setRun n st s) :=
  ⟨outside_book (setRun_outside s n st), outside_isOpen (setRun_outside s n st), outside_loader (setRun_outside s n st),
   setRun_patch n st s, setRun_standby n st s, entry?_setRun n st s⟩

variable {n : CueNumber} {f : RunEntry → RunEntry}

theorem edits_runState (h : Edits n f s t) {k : CueNumber} (hk : k ≠ n) : t.runState k = s.runState k :=
  runState_congr h.isOpen (by rw [h.entry, if_neg hk])

theorem edits_runState_self (h : Edits n f s t) (ho : s.cue.isOpen = true) {e : RunEntry} (he : s.cue.entry? n = some e) :
    t.runState n = (f e).state :=
  runState_of_entry (h.isOpen.trans ho) (by rw [h.entry, if_pos rfl, he]; rfl)

/-- What the change of one entry must respect. -/
theorem core_edits (h : RunsCore free loose s) (ht : Edits n f s t)
    (hwait : s.cue.isOpen = true → ∀ e, s.cue.entry? n = some e → Waits (f e) →
      Waits e ∨ ∀ c, s.book.cue? n = some c → free c)
    (hheld : ∀ k, t.cue.held = some k → s.cue.held = some k ∧ t.runState k = .pending)
    (hloose : ∀ k, k ≠ n → (loose' k ↔ loose k))
    (hfire : s.cue.isOpen = true → (t.runState n = .firing ↔ s.slotHolds n = true ∨ loose' n)) :
    RunsCore free loose' t where
  book := by rw [ht.book]; exact h.book
  shut := fun ho => by
    rw [ht.isOpen] at ho
    rw [ht.patch]
    refine ⟨?_, (h.shut ho).2⟩
    cases hk : t.cue.held with
    | none => rfl
    | some k => simpa [(h.shut ho).1] using (hheld k hk).1
  busy := fun hb => by
    rw [ht.isOpen]
    exact h.busy (by simpa only [State.busy, ht.loader] using hb)
  entries := fun ho k => by
    rw [ht.book, ← h.entries (ht.isOpen ▸ ho), ht.entry]
    split <;> simp
  waits := fun ho k e c he hc hw => by
    rw [ht.isOpen] at ho
    rw [ht.book] at hc
    rw [ht.entry] at he
    split at he
    next hk =>
      subst hk
      obtain ⟨e', he', rfl⟩ := Option.map_eq_some_iff.1 he
      rcases hwait ho e' he' hw with hw' | hfree
      · exact h.waits ho k e' c he' hc hw'
      · exact hfree c hc
    · exact h.waits ho k e c he hc hw
  held := fun k hk => by
    rw [ht.book]
    exact ⟨(h.held k (hheld k hk).1).1, (hheld k hk).2⟩
  firing := fun ho k => by
    rw [ht.isOpen] at ho
    have same : t.slotHolds k = s.slotHolds k := by simp only [State.slotHolds, ht.patch]
    rw [same]
    by_cases hk : k = n
    · subst hk; exact hfire ho
    · rw [edits_runState ht hk, hloose k hk]
      exact h.firing ho k

/-- The standby is kept where the cue neither enters nor leaves STANDBY. -/
theorem standby_edits (h : StandbyOf free fired s) (ht : Edits n f s t)
    (hstate : s.cue.isOpen = true → (t.runState n = .standby ↔ s.runState n = .standby))
    (hmark : fired = some n → ∀ e, e.mark = none → (f e).mark = none) : StandbyOf free fired t where
  shut := by rw [ht.isOpen, ht.standby]; exact h.shut
  only := fun ho k => by
    rw [ht.isOpen] at ho
    rw [ht.standby, ← h.only ho k]
    by_cases hk : k = n
    · subst hk; exact hstate ho
    · rw [edits_runState ht hk]
  cue := by rw [ht.standby, ht.book]; exact h.cue
  fired := fun k hk => by
    rw [ht.standby]
    refine ⟨fun e he => ?_, (h.fired k hk).2⟩
    rw [ht.entry] at he
    split at he
    next hkn =>
      subst hkn
      obtain ⟨e', he', rfl⟩ := Option.map_eq_some_iff.1 he
      exact hmark hk e' ((h.fired k hk).1 e' he')
    · exact (h.fired k hk).1 e he

/-! ## A cue takes a run state -/

theorem runState_setRun (h : RunsCore free loose s) (ho : s.cue.isOpen = true) (hc : (s.book.cue? n).isSome = true)
    (st : RunState) (k : CueNumber) : (setRun n st s).runState k = if k = n then st else s.runState k := by
  split
  next hk =>
    subst hk
    obtain ⟨e, he⟩ := Option.isSome_iff_exists.1 ((h.entries ho k).trans hc)
    exact edits_runState_self (setRun_edits k st s) ho he
  next hk => exact edits_runState (setRun_edits n st s) hk

theorem setRun_core (h : RunsCore free loose s) {st : RunState} (hc : (s.book.cue? n).isSome = true)
    (hwait : st = .pending → ∀ c, s.book.cue? n = some c → free c) (hloose : ∀ k, k ≠ n → (loose' k ↔ loose k))
    (hfire : s.cue.isOpen = true → (st = .firing ↔ s.slotHolds n = true ∨ loose' n)) :
    RunsCore free loose' (setRun n st s) := by
  refine core_edits h (setRun_edits n st s) (fun _ e _ hw => .inr (hwait ?_)) (fun k hk => ?_) hloose fun ho => ?_
  · rcases hw with hw | ⟨-, hw⟩
    · exact hw
    · cases hw
  · rw [setRun_held] at hk
    split at hk
    · cases hk
    next hn =>
      refine ⟨hk, ?_⟩
      have hp := (h.held k hk).2
      by_cases ho : s.cue.isOpen = true
      · rw [runState_setRun h ho hc]
        split
        next hkn =>
          subst hkn
          by_contra hst
          exact hn ⟨hk, hst⟩
        · exact hp
      · simp [(h.shut (by simpa using ho)).1] at hk
  · rw [runState_setRun h ho hc, if_pos rfl]
    exact hfire ho

/-- A cue that is not FIRING takes a state other than FIRING. -/
theorem setRun_core_quiet (h : RunsCore free loose s) {st : RunState} (hc : (s.book.cue? n).isSome = true)
    (hwait : st = .pending → ∀ c, s.book.cue? n = some c → free c) (hst : st ≠ .firing)
    (hn : s.runState n ≠ .firing) : RunsCore free loose (setRun n st s) :=
  setRun_core h hc hwait (fun _ _ => Iff.rfl) fun ho => iff_of_false hst fun hh => hn ((h.firing ho n).2 hh)

theorem setRun_standbyOf (h : StandbyOf free fired s) (hcore : RunsCore free loose s) {st : RunState}
    (hc : (s.book.cue? n).isSome = true) (hst : st ≠ .standby) (hn : s.runState n ≠ .standby) :
    StandbyOf free fired (setRun n st s) :=
  standby_edits h (setRun_edits n st s)
    (fun ho => by rw [runState_setRun hcore ho hc, if_pos rfl]; exact iff_of_false hst hn) fun _ _ _ => rfl

theorem cancelTimer_view (n : CueNumber) (s : State) : runsView (cancelTimer n s) = runsView s := rfl

theorem passCue_core (h : RunsCore free loose s) (hc : (s.book.cue? n).isSome = true) (hn : s.runState n ≠ .firing) :
    RunsCore free loose (passCue n s) :=
  core_of_view (cancelTimer_view n _) (setRun_core_quiet h hc (by simp) (by simp) hn)

theorem passCue_within (h : RunsWithin free loose fired s) (hc : (s.book.cue? n).isSome = true)
    (hn : s.runState n ≠ .firing) (hs : s.runState n ≠ .standby) : RunsWithin free loose fired (passCue n s) :=
  ⟨passCue_core h.core hc hn,
   standby_of_view (cancelTimer_view n _) (setRun_standbyOf h.standby h.core hc (by simp) hs)⟩

theorem runState_passCue (h : RunsCore free loose s) (ho : s.cue.isOpen = true) (hc : (s.book.cue? n).isSome = true)
    (k : CueNumber) : (passCue n s).runState k = if k = n then .passed else s.runState k :=
  runState_setRun h ho hc .passed k

/-! ## The held cue -/

theorem handStandby_view (s : State) : runsView (handStandby s) = runsView s := rfl

theorem setHeld_core (h : RunsCore free loose s) {m : Option CueNumber}
    (hm : ∀ n, m = some n → s.cue.isOpen = true ∧ (s.book.cue? n).isSome = true ∧ s.runState n = .pending) :
    RunsCore free loose (setHeld m s) where
  book := h.book
  shut := fun ho => by
    refine ⟨?_, (h.shut ho).2⟩
    cases m with
    | none => rfl
    | some n => exact absurd (hm n rfl).1 (by simpa using ho)
  busy := h.busy
  entries := h.entries
  waits := h.waits
  held := fun k hk => (hm k hk).2
  firing := h.firing

theorem setHeld_within (h : RunsWithin free loose fired s) {m : Option CueNumber}
    (hm : ∀ n, m = some n → s.cue.isOpen = true ∧ (s.book.cue? n).isSome = true ∧ s.runState n = .pending) :
    RunsWithin free loose fired (setHeld m s) :=
  ⟨setHeld_core h.core hm, ⟨h.standby.shut, h.standby.only, h.standby.cue, h.standby.fired⟩⟩

end rules

end Sys2Proof.Proofs

/-! PROOFS. The standby's moves, and what the completion of a cue keeps of the run states (R36 to R39, R42, R46, R47). -/

namespace Sys2Proof.Proofs

open Sys2Proof.Machine Sys2Proof.Laws

theorem before_trans {a b c : CueNumber} (h : a.before b = true) (k : b.before c = true) : a.before c = true := by
  simp only [CueNumber.before, Bool.or_eq_true, Bool.and_eq_true, decide_eq_true_eq] at *
  omega

theorem before_irrefl (a : CueNumber) : a.before a = false := by simp [CueNumber.before]

theorem ne_of_before {a b : CueNumber} (h : a.before b = true) : a ≠ b := by
  rintro rfl
  simp [before_irrefl] at h

variable {free : Cue → Prop} {loose : CueNumber → Prop} {fired : Option CueNumber} {s : State}

/-! ## The GO cues ahead (R36) -/

theorem mem_pendingGo {m : CueNumber} (hm : m ∈ s.pendingGo) :
    ∃ c ∈ s.book.cues, c.number = m ∧ c.trigger = .go ∧ s.runState m = .pending := by
  simp only [State.pendingGo, List.mem_map, List.mem_filter, Bool.and_eq_true, decide_eq_true_eq, isGo_iff] at hm
  obtain ⟨c, ⟨hc, hgo, hp⟩, rfl⟩ := hm
  exact ⟨c, hc, rfl, hgo, hp⟩

/-- A cue that may be made the standby: a PENDING GO cue of the book that is of no CUT song. -/
def MayStand (free : Cue → Prop) (s : State) (m : CueNumber) : Prop :=
  ∃ c : Cue, s.book.cue? m = some c ∧ c.trigger = .go ∧ free c ∧ s.runState m = .pending

theorem mayStand_of_mem (h : RunsCore free loose s) (ho : s.cue.isOpen = true) {m : CueNumber} (hm : m ∈ s.pendingGo) :
    MayStand free s m := by
  obtain ⟨c, hc, rfl, hgo, hp⟩ := mem_pendingGo hm
  have hq := cue?_of_mem h.book hc
  exact ⟨c, hq, hgo, free_of_pending h ho hq hp, hp⟩

theorem firstGoAfter_mem {n : Option CueNumber} {m : CueNumber} (h : s.firstGoAfter n = some m) : m ∈ s.pendingGo :=
  List.mem_of_find?_eq_some h

theorem lastGoBefore_mem {n : Option CueNumber} {m : CueNumber} (h : s.lastGoBefore n = some m) : m ∈ s.pendingGo :=
  List.mem_of_mem_filter (List.mem_of_getLast? h)

/-! ## The standby placed (R36) -/

/-- The standby field alone. -/
def standbyField (x : Option CueNumber) (s : State) : State := { s with cue := { s.cue with standby := x } }

theorem placeStandby_some (m : CueNumber) (s : State) :
    placeStandby (some m) s = handStandby (setRun m .standby (standbyField (some m) s)) := rfl

theorem placeStandby_none (s : State) : placeStandby none s = handStandby (standbyField none s) := rfl

theorem standbyField_core (h : RunsCore free loose s) (x : Option CueNumber) : RunsCore free loose (standbyField x s) :=
  ⟨h.book, h.shut, h.busy, h.entries, h.waits, h.held, h.firing⟩

/-- Where no cue is in STANDBY, a cue that may stand is made the standby; while `fired` fires, one before it. -/
theorem placeStandby_within (h : RunsCore free loose s) (ho : s.cue.isOpen = true)
    (hnone : ∀ k, s.runState k ≠ .standby) {x : Option CueNumber} (hx : ∀ m, x = some m → MayStand free s m)
    (hfired : ∀ n, fired = some n → (∀ e, s.cue.entry? n = some e → e.mark = none) ∧ ∃ m, x = some m ∧ m.before n = true) :
    RunsWithin free loose fired (placeStandby x s) := by
  have hcore := standbyField_core h x
  have hnone' : ∀ k, (standbyField x s).runState k ≠ .standby := hnone
  cases x with
  | none =>
    rw [placeStandby_none]
    refine within_of_view (handStandby_view _) ⟨hcore, fun _ => rfl, fun _ k => ?_, fun k hk => (nomatch hk), fun n hn => ?_⟩
    · exact iff_of_false (hnone' k) fun hk => nomatch hk.1
    · obtain ⟨-, m, hm, -⟩ := hfired n hn
      cases hm
  | some m =>
    obtain ⟨c, hc, hgo, hfree, hp⟩ := hx m rfl
    have hsome : ((standbyField (some m) s).book.cue? m).isSome = true := Option.isSome_iff_exists.2 ⟨c, hc⟩
    have hp' : (standbyField (some m) s).runState m = .pending := hp
    have run := runState_setRun hcore ho hsome .standby
    have book : (setRun m .standby (standbyField (some m) s)).book = s.book :=
      outside_book (setRun_outside (standbyField (some m) s) m .standby)
    have isOpen : (setRun m .standby (standbyField (some m) s)).cue.isOpen = s.cue.isOpen :=
      outside_isOpen (setRun_outside (standbyField (some m) s) m .standby)
    have standby : (setRun m .standby (standbyField (some m) s)).cue.standby = some m := setRun_standby ..
    rw [placeStandby_some]
    refine within_of_view (handStandby_view _)
      ⟨setRun_core_quiet hcore hsome (by simp) (by simp) (by simp [hp']), fun hclosed => ?_, fun _ k => ?_, fun k hk => ?_,
       fun n hn => ?_⟩
    · rw [isOpen, ho] at hclosed
      cases hclosed
    · rw [run, standby]
      by_cases hk : k = m
      · subst hk
        simp only [if_true, true_iff, true_and]
        intro hf
        obtain ⟨-, k', hk', hb⟩ := hfired k hf
        cases hk'
        exact ne_of_before hb rfl
      · rw [if_neg hk]
        exact iff_of_false (hnone' k) fun hh => hk (Option.some.inj hh.1).symm
    · rw [standby] at hk
      cases hk
      exact ⟨c, by rw [book]; exact hc, hgo, hfree⟩
    · obtain ⟨hmark, m', hm', hb⟩ := hfired n hn
      cases hm'
      refine ⟨fun e he => ?_, m, standby, .inr hb⟩
      rw [entry?_setRun, if_neg (ne_of_before hb).symm] at he
      exact hmark e he

/-- The standby goes to the first or last PENDING GO cue asked for, or to none, where no cue is in STANDBY. -/
theorem placeStandby_next (h : RunsCore free loose s) (ho : s.cue.isOpen = true) (hnone : ∀ k, s.runState k ≠ .standby)
    {x : Option CueNumber} (hx : ∀ m, x = some m → m ∈ s.pendingGo) : RunsWithin free loose none (placeStandby x s) :=
  placeStandby_within h ho hnone (fun m hm => mayStand_of_mem h ho (hx m hm)) fun _ hn => by cases hn

/-! ## The standby released and moved (R38, R39) -/

theorem releaseStandby_eq (s : State) :
    (∃ m, s.cue.standby = some m ∧ s.runState m = .standby ∧ releaseStandby s = setRun m .pending s) ∨
      (∀ m, s.cue.standby = some m → s.runState m ≠ .standby) ∧ releaseStandby s = s := by
  unfold releaseStandby
  split
  next m hm =>
    split
    next hs => exact .inl ⟨m, hm, hs, rfl⟩
    next hs => exact .inr ⟨fun k hk => by cases hm.symm.trans hk; exact hs, rfl⟩
  next hm => exact .inr ⟨fun k hk => (by rw [hm] at hk; cases hk), rfl⟩

/-- After its release no cue is in STANDBY, and the others keep their entries. -/
theorem releaseStandby_core (h : RunsWithin free loose fired s) (ho : s.cue.isOpen = true) :
    RunsCore free loose (releaseStandby s) ∧ (∀ k, (releaseStandby s).runState k ≠ .standby) ∧
      ∀ k, s.runState k ≠ .standby → (releaseStandby s).cue.entry? k = s.cue.entry? k := by
  rcases releaseStandby_eq s with ⟨m, hm, hs, he⟩ | ⟨hs, he⟩
  · obtain ⟨c, hc, -, hfree⟩ := h.standby.cue m hm
    have hsome : (s.book.cue? m).isSome = true := by rw [hc]; rfl
    rw [he]
    refine ⟨setRun_core_quiet h.core hsome (fun _ c' hc' => by cases hc.symm.trans hc'; exact hfree) (by simp) (by simp [hs]),
      fun k => ?_, fun k hk => ?_⟩
    · rw [runState_setRun h.core ho hsome]
      split
      · simp
      next hk =>
        intro hstand
        exact hk (Option.some.inj (((h.standby.only ho k).1 hstand).1.symm.trans hm))
    · rw [entry?_setRun, if_neg]
      rintro rfl
      exact hk hs
  · rw [he]
    exact ⟨h.core, fun k hk => hs k ((h.standby.only ho k).1 hk).1 hk, fun _ _ => rfl⟩

theorem releaseStandby_frame (s : State) :
    (releaseStandby s).book = s.book ∧ (releaseStandby s).cue.isOpen = s.cue.isOpen :=
  ⟨outside_book (releaseStandby_outside s), outside_isOpen (releaseStandby_outside s)⟩

theorem moveStandby_within (h : RunsWithin free loose fired s) (ho : s.cue.isOpen = true) {m : CueNumber}
    (hm : MayStand free s m) (hbefore : ∀ n, fired = some n → m.before n = true) :
    RunsWithin free loose fired (moveStandby m s) := by
  obtain ⟨hcore, hnone, hentry⟩ := releaseStandby_core h ho
  obtain ⟨hbook, hopen⟩ := releaseStandby_frame s
  obtain ⟨c, hc, hgo, hfree, hp⟩ := hm
  refine placeStandby_within hcore (hopen.trans ho) hnone (fun k hk => ?_) fun n hn => ?_
  · cases hk
    exact ⟨c, by rw [hbook]; exact hc, hgo, hfree,
      (runState_congr hopen (hentry m (by simp [hp]))).trans hp⟩
  · refine ⟨fun e he => (h.standby.fired n hn).1 e ?_, m, rfl, hbefore n hn⟩
    rw [← hentry n fun hs => ((h.standby.only ho n).1 hs).2 hn]
    exact he

theorem standbyNext_within (h : RunsWithin free loose none s) (ho : s.cue.isOpen = true) :
    RunsWithin free loose none (standbyNext s) := by
  have move : ∀ x m, s.firstGoAfter x = some m → RunsWithin free loose none (moveStandby m s) := fun x m hm =>
    moveStandby_within h ho (mayStand_of_mem h.core ho (firstGoAfter_mem hm)) fun _ hn => by cases hn
  unfold standbyNext
  split
  · split
    next hm => exact move _ _ hm
    · exact h
  · split
    next hm => exact move _ _ hm
    · exact h

theorem standbyBack_within (h : RunsWithin free loose none s) (ho : s.cue.isOpen = true) :
    RunsWithin free loose none (standbyBack s) := by
  have move : ∀ x m, s.lastGoBefore x = some m → RunsWithin free loose none (moveStandby m s) := fun x m hm =>
    moveStandby_within h ho (mayStand_of_mem h.core ho (lastGoBefore_mem hm)) fun _ hn => by cases hn
  unfold standbyBack
  split
  · split
    next hm => exact move _ _ hm
    · exact h
  · split
    next hm => exact move _ _ hm
    · exact h

/-! ## Cues passed along a list (R37, R42) -/

theorem passCue_frame (n : CueNumber) (s : State) :
    (passCue n s).book = s.book ∧ (passCue n s).cue.isOpen = s.cue.isOpen :=
  ⟨outside_book (passCue_outside s n), outside_isOpen (passCue_outside s n)⟩

theorem passCue_standby (n : CueNumber) (s : State) : (passCue n s).cue.standby = s.cue.standby :=
  setRun_standby n .passed s

/-- Cues of the book that are not FIRING are passed one after another, and no other cue changes. -/
theorem passCues_core (l : List CueNumber) (h : RunsCore free loose s)
    (hl : ∀ n ∈ l, (s.book.cue? n).isSome = true ∧ s.runState n ≠ .firing) :
    RunsCore free loose (l.foldl (fun s m => passCue m s) s) ∧
      (s.cue.isOpen = true → ∀ k,
        (l.foldl (fun s m => passCue m s) s).runState k = if k ∈ l then .passed else s.runState k) := by
  induction l generalizing s with
  | nil => exact ⟨h, fun _ k => by simp⟩
  | cons n l ih =>
    obtain ⟨hn, hf⟩ := hl n (by simp)
    obtain ⟨hbook, hopen⟩ := passCue_frame n s
    have next := ih (passCue_core h hn hf) fun m hm => by
      rw [hbook]
      refine ⟨(hl m (by simp [hm])).1, ?_⟩
      by_cases ho : s.cue.isOpen = true
      · rw [runState_passCue h ho hn]
        split
        · simp
        · exact (hl m (by simp [hm])).2
      · rw [runState_of_closed (by rw [hopen]; simpa using ho)]
        simp
    refine ⟨next.1, fun ho k => ?_⟩
    rw [List.foldl_cons, next.2 (hopen.trans ho), runState_passCue h ho hn]
    by_cases hk : k ∈ l <;> by_cases hkn : k = n <;> simp [hk, hkn]

theorem passCues_within (l : List CueNumber) (h : RunsWithin free loose fired s)
    (hl : ∀ n ∈ l, (s.book.cue? n).isSome = true ∧ s.runState n ≠ .firing ∧ s.runState n ≠ .standby) :
    RunsWithin free loose fired (l.foldl (fun s m => passCue m s) s) := by
  induction l generalizing s with
  | nil => exact h
  | cons n l ih =>
    obtain ⟨hn, hf, hs⟩ := hl n (by simp)
    obtain ⟨hbook, hopen⟩ := passCue_frame n s
    refine ih (passCue_within h hn hf hs) fun m hm => ?_
    rw [hbook]
    refine ⟨(hl m (by simp [hm])).1, ?_⟩
    by_cases ho : s.cue.isOpen = true
    · rw [runState_passCue h.core ho hn]
      split
      · simp
      · exact (hl m (by simp [hm])).2
    · rw [runState_of_closed (by rw [hopen]; simpa using ho)]
      simp

theorem passBarCues_within (h : RunsWithin free loose fired s) (song : Nat) :
    RunsWithin free loose fired (passBarCues song s) := by
  refine passCues_within _ h fun n hn => ?_
  simp only [List.mem_map, List.mem_filter, Bool.and_eq_true, decide_eq_true_eq] at hn
  obtain ⟨c, ⟨hc, -, hp⟩, rfl⟩ := hn
  exact ⟨cue?_isSome_of_mem hc, by simp [hp], by simp [hp]⟩

/-- The standby goes on when the GO cue `n` fires; the standby field may stand on `n` itself or on a cue before it (R37). -/
theorem standbyAfterFire_within (h : RunsWithin free loose (some n) s) (ho : s.cue.isOpen = true) :
    RunsWithin free loose none (standbyAfterFire n s) := by
  unfold standbyAfterFire
  extract_lets passed t
  obtain ⟨-, m, hm, hmn⟩ := h.standby.fired n rfl
  have mem : ∀ k, k ∈ passed ↔ ∃ c ∈ s.book.cues, c.number = k ∧ c.isGo = true ∧ k.before n = true ∧
      (s.runState k = .pending ∨ s.runState k = .standby) := by
    intro k
    simp only [passed, List.mem_map, List.mem_filter, Bool.and_eq_true, Bool.or_eq_true, decide_eq_true_eq]
    constructor
    · rintro ⟨c, ⟨hc, ⟨hgo, hb⟩, hr⟩, rfl⟩; exact ⟨c, hc, rfl, hgo, hb, hr⟩
    · rintro ⟨c, hc, rfl, hgo, hb, hr⟩; exact ⟨c, ⟨hc, ⟨hgo, hb⟩, hr⟩, rfl⟩
  have walk := passCues_core passed h.core fun k hk => by
    obtain ⟨c, hc, rfl, -, -, hr⟩ := (mem k).1 hk
    exact ⟨cue?_isSome_of_mem hc, by rcases hr with hr | hr <;> simp [hr]⟩
  have frame : outside t = outside s := outside_foldl _ (fun s m => passCue_outside s m) _ s
  have hopen : t.cue.isOpen = true := (outside_isOpen frame).trans ho
  refine placeStandby_next walk.1 hopen (fun k => ?_) fun k hk => firstGoAfter_mem hk
  rw [walk.2 ho]
  split
  · simp
  next hk =>
    intro hs
    obtain ⟨hst, hne⟩ := (h.standby.only ho k).1 hs
    obtain ⟨c, hc, hgo, -⟩ := h.standby.cue k hst
    obtain ⟨hmem, hnum⟩ := cue?_key hc
    have hkm : m = k := Option.some.inj (hm.symm.trans hst)
    rcases hmn with hmn | hmn
    · exact hne (by rw [← hmn, hkm])
    · exact hk ((mem k).2 ⟨c, hmem, hnum, (isGo_iff c).2 hgo, hkm ▸ hmn, .inr hs⟩)

/-! ## Completion (R46, R47) -/

/-- A cue that is loose and in no slot returns to PENDING, and may become the standby or the held cue. -/
theorem returnPending_within {c : Cue} (h : RunsWithin free (fun k => loose k ∨ k = c.number) fired s)
    (ho : s.cue.isOpen = true) (hc : s.book.cue? c.number = some c) (hfree : free c)
    (hslot : ¬s.slotHolds c.number = true) (hloose : ¬loose c.number) :
    RunsWithin free loose fired (returnPending c s) := by
  unfold returnPending
  extract_lets t
  have hsome : (s.book.cue? c.number).isSome = true := by rw [hc]; rfl
  have hfiring : s.runState c.number = .firing := (h.core.firing ho _).2 (.inr (.inr rfl))
  have run := runState_setRun h.core ho hsome .pending
  have hbook : t.book = s.book := outside_book (setRun_outside ..)
  have hopen : t.cue.isOpen = true := (outside_isOpen (setRun_outside ..)).trans ho
  have hstandby : t.cue.standby = s.cue.standby := setRun_standby ..
  have ht : RunsWithin free loose fired t :=
    ⟨setRun_core h.core hsome (fun _ c' hc' => by cases hc.symm.trans hc'; exact hfree)
        (fun k hk => by simp [hk]) (fun _ => iff_of_false (by simp) (by simp [hslot, hloose])),
     setRun_standbyOf h.standby h.core hsome (by simp) (by simp [hfiring])⟩
  have hpend : t.runState c.number = .pending := by rw [run, if_pos rfl]
  have hc' : t.book.cue? c.number = some c := by rw [hbook]; exact hc
  clear_value t
  split_ifs with hgo hheld
  · simp only [Bool.and_eq_true] at hgo
    obtain ⟨⟨hgo, -⟩, hmove⟩ := hgo
    refine moveStandby_within ht hopen ⟨c, hc', (isGo_iff c).1 hgo, hfree, hpend⟩ fun n hn => ?_
    obtain ⟨-, m, hm, hmn⟩ := h.standby.fired n hn
    rw [hstandby, hm] at hmove
    rcases hmn with rfl | hmn
    · exact hmove
    · exact before_trans hmove hmn
  · refine setHeld_within (s := { t with cue := { t.cue with holdCandidate := none } }) (within_of_view (s := t) rfl ht) fun k hk => ?_
    cases hk
    exact ⟨hopen, Option.isSome_iff_exists.2 ⟨c, hc'⟩, hpend⟩
  · exact ht

/-- The completion record is written, and CUE_DONE flagged. -/
def completed (n : CueNumber) (requests failed : Nat) (s : State) : State :=
  flag .cueDone { s with cue := { s.cue with completion := some { cue := n, requests := requests, failed := failed } } }

theorem completed_view (n : CueNumber) (requests failed : Nat) (s : State) :
    runsView (completed n requests failed s) = runsView s := rfl

theorem completeCue_eq {n : CueNumber} {e : RunEntry} {c : Cue} (he : s.cue.entry? n = some e)
    (hc : s.book.cue? n = some c) :
    completeCue n s = match e.mark with
      | none | some .complete => setRun n .complete (completed n c.patchActions e.failed s)
      | some .passed => setRun n .passed (completed n c.patchActions e.failed s)
      | some .pending => returnPending c (completed n c.patchActions e.failed s) := by
  unfold completeCue
  rw [he, hc]
  rfl

/-- A cue that is loose and in no slot completes. -/
theorem completeCue_within {n : CueNumber} (h : RunsWithin free (fun k => loose k ∨ k = n) fired s)
    (ho : s.cue.isOpen = true) (hslot : ¬s.slotHolds n = true) (hloose : ¬loose n) :
    RunsWithin free loose fired (completeCue n s) := by
  have hfiring : s.runState n = .firing := (h.core.firing ho n).2 (.inr (.inr rfl))
  obtain ⟨e, he, hstate⟩ := entry_of_runState (s := s) (k := n) (by simp [hfiring])
  have hsome : (s.book.cue? n).isSome = true := by rw [← h.core.entries ho, he]; rfl
  obtain ⟨c, hc⟩ := Option.isSome_iff_exists.1 hsome
  obtain ⟨-, hnum⟩ := cue?_key hc
  rw [completeCue_eq he hc]
  have ht := within_of_view (completed_view n c.patchActions e.failed s) h
  have hslot' : ¬(completed n c.patchActions e.failed s).slotHolds n = true := hslot
  have hsome' : ((completed n c.patchActions e.failed s).book.cue? n).isSome = true := hsome
  have hopen : (completed n c.patchActions e.failed s).cue.isOpen = true := ho
  have hc' : (completed n c.patchActions e.failed s).book.cue? n = some c := hc
  have hfiring' : (completed n c.patchActions e.failed s).runState n = .firing := hfiring
  generalize completed n c.patchActions e.failed s = t at *
  have take : ∀ st : RunState, st ≠ .firing → st ≠ .standby → st ≠ .pending →
      RunsWithin free loose fired (setRun n st t) := fun st hf hs hp =>
    ⟨setRun_core ht.core hsome' (fun h => absurd h hp) (fun k hk => by simp [hk])
        (fun _ => iff_of_false hf (by simp [hslot', hloose])),
     setRun_standbyOf ht.standby ht.core hsome' hs (by simp [hfiring'])⟩
  cases hm : e.mark with
  | none => exact take .complete (by simp) (by simp) (by simp)
  | some mark =>
    cases mark with
    | complete => exact take .complete (by simp) (by simp) (by simp)
    | passed => exact take .passed (by simp) (by simp) (by simp)
    | pending =>
      subst hnum
      exact returnPending_within ht hopen hc' (h.core.waits ho _ e c he hc (.inr ⟨by rw [hstate, hfiring], hm⟩)) hslot' hloose

/-- A cue that fires completes where no slot holds a request of it. -/
theorem settleCue_within {n : CueNumber} (h : RunsWithin free (fun k => loose k ∨ k = n) fired s)
    (ho : s.cue.isOpen = true) (hloose : loose n → s.slotHolds n = true) :
    RunsWithin free loose fired (if s.slotHolds n then s else completeCue n s) := by
  split
  next hslot =>
    refine ⟨⟨h.core.book, h.core.shut, h.core.busy, h.core.entries, h.core.waits, h.core.held, fun ho k => ?_⟩, h.standby⟩
    rw [h.core.firing ho k]
    by_cases hk : k = n
    · subst hk; simp [hslot]
    · simp [hk]
  next hslot => exact completeCue_within h ho hslot fun hl => hslot (hloose hl)

/-- Neither the state nor the mark of an entry changes where the count of failed requests does. -/
theorem failed_within {n : CueNumber} {f : RunEntry → Nat} (h : RunsWithin free loose fired s) :
    RunsWithin free loose fired (mapRun n (fun r => { r with failed := f r }) s) := by
  have ht := mapRun_edits n (f := fun r => { r with failed := f r }) (fun _ => rfl) s
  have same : ∀ k, (mapRun n (fun r => { r with failed := f r }) s).runState k = s.runState k := by
    intro k
    simp only [State.runState, ht.isOpen, ht.entry]
    by_cases hk : k = n
    · cases s.cue.entry? k <;> simp [hk]
    · simp [hk]
  refine ⟨core_edits h.core ht (fun _ e _ hw => .inl hw) (fun k hk => ⟨hk, ?_⟩) (fun _ _ => Iff.rfl) fun ho => ?_,
    standby_edits h.standby ht (fun _ => by rw [same]) fun _ _ he => he⟩
  · rw [same]; exact (h.core.held k hk).2
  · rw [same]; exact h.core.firing ho n

/-- The outcome of a request of a cue reaches the Cue Engine. -/
theorem cueResolved_within {n : CueNumber} (o : ReqOutcome) (h : RunsWithin free (fun k => loose k ∨ k = n) fired s)
    (hloose : loose n → s.slotHolds n = true) : RunsWithin free loose fired (cueResolved n o s) := by
  unfold cueResolved
  split
  next hf =>
    exact settleCue_within (failed_within h) hf.1 hloose
  next hf =>
    refine ⟨⟨h.core.book, h.core.shut, h.core.busy, h.core.entries, h.core.waits, h.core.held, fun ho k => ?_⟩, h.standby⟩
    exact absurd ⟨ho, (h.core.firing ho n).2 (.inr (.inr rfl))⟩ hf

end Sys2Proof.Proofs

/-! PROOFS. What the Patch Dispatcher's requests keep of the run states (R91 to R107). -/

namespace Sys2Proof.Proofs

open Sys2Proof.Machine Sys2Proof.Laws

variable {free : Cue → Prop} {loose loose' : CueNumber → Prop} {fired : Option CueNumber} {s : State} {c : Chair}

theorem within_congr (h : RunsWithin free loose fired s) (hl : ∀ k, loose k ↔ loose' k) :
    RunsWithin free loose' fired s := (funext fun k => propext (hl k) : loose = loose') ▸ h

theorem onDispatch_self (c : Chair) (f : Dispatch → Dispatch) (s : State) : (onDispatch c f s).patch[c] = f s.patch[c] :=
  (modifyAt_getElem s.patch c c f).trans (if_pos rfl)

/-- A change of one chair's slots: what leaves them becomes loose, and what enters them is loose no more. -/
theorem onDispatch_within (h : RunsWithin free loose fired s) {f : Dispatch → Dispatch}
    (hslot : ∀ k, (f s.patch[c]).holds k = true ∨ loose' k ↔ s.patch[c].holds k = true ∨ loose k)
    (hshut : s.cue.isOpen = false → ∀ r n, (f s.patch[c]).waiting = some r → r.isOf n = false) :
    RunsWithin free loose' fired (onDispatch c f s) := by
  refine ⟨⟨h.core.book, fun ho => ⟨(h.core.shut ho).1, fun d r n hw => ?_⟩, h.core.busy, h.core.entries, h.core.waits,
    h.core.held, fun ho k => ?_⟩, ⟨h.standby.shut, h.standby.only, h.standby.cue, h.standby.fired⟩⟩
  · by_cases hd : d = c
    · subst hd
      rw [onDispatch_self] at hw
      exact hshut ho r n hw
    · refine (h.core.shut ho).2 d r n (Eq.trans ?_ hw)
      rw [show (onDispatch c f s).patch[d] = _ from modifyAt_getElem s.patch c d f, if_neg hd]
  · have all : s.slotHolds k = true ↔ s.patch[c].holds k = true ∨ ∃ d : Chair, d ≠ c ∧ s.patch[d].holds k = true := by
      rw [slotHolds_iff]
      exact ⟨fun ⟨d, hd⟩ => if hdc : d = c then .inl (hdc ▸ hd) else .inr ⟨d, hdc, hd⟩,
        fun hh => hh.elim (fun hk => ⟨c, hk⟩) fun ⟨d, _, hd⟩ => ⟨d, hd⟩⟩
    have hk := hslot k
    rw [slotHolds_onDispatch]
    refine (h.core.firing ho k).trans ?_
    rw [all, or_right_comm, ← hk, or_right_comm]

/-- A change of a chair's dispatch state that leaves its slots. -/
theorem onDispatch_quiet (h : RunsWithin free loose fired s) {f : Dispatch → Dispatch}
    (hflight : (f s.patch[c]).flight = s.patch[c].flight) (hwaiting : (f s.patch[c]).waiting = s.patch[c].waiting) :
    RunsWithin free loose fired (onDispatch c f s) :=
  onDispatch_within h (fun k => by simp only [holds_iff, hflight, hwaiting])
    fun ho r n hw => (h.core.shut ho).2 c r n (hwaiting ▸ hw)

theorem onLink_view (c : Chair) (l : Link → Link) (s : State) : runsView (onLink c l s) = runsView s := rfl

theorem resolve_within {r : PatchReq} (o : ReqOutcome)
    (h : RunsWithin free (fun k => loose k ∨ r.isOf k = true) fired s)
    (hloose : ∀ k, loose k → r.isOf k = true → s.slotHolds k = true) :
    RunsWithin free loose fired (resolve c r o s) := by
  unfold resolve
  extract_lets t
  have ht : RunsWithin free (fun k => loose k ∨ r.isOf k = true) fired t := onDispatch_quiet h rfl rfl
  have slots : ∀ k, s.slotHolds k = true → t.slotHolds k = true := by
    intro k hk
    rw [slotHolds_iff] at hk ⊢
    obtain ⟨d, hd⟩ := hk
    refine ⟨d, ?_⟩
    rw [show t.patch[d] = _ from modifyAt_getElem s.patch c d _]
    split <;> exact hd
  clear_value t
  split
  next n sel =>
    refine cueResolved_within o (within_congr ht fun k => ?_) fun hl => slots n (hloose n hl (by simp [PatchReq.isOf]))
    simp [PatchReq.isOf, eq_comm]
  next hr =>
    refine within_congr ht fun k => ?_
    have : r.isOf k = false := by
      by_contra hk
      obtain ⟨sel, rfl⟩ := (isOf_iff r k).1 (by simpa using hk)
      exact hr _ _ rfl
    simp [this]

theorem send_within {r : PatchReq} {pre : CueNumber → Prop} (h : RunsWithin free pre fired s)
    (hpre : ∀ k, pre k ↔ loose k ∨ r.isOf k = true) (hflight : s.patch[c].flight = none)
    (hcontents : s.contents c r = none → ∀ k, loose k → r.isOf k = true → s.slotHolds k = true) :
    RunsWithin free loose fired (send c r s) := by
  unfold send
  split
  next hnone => exact resolve_within _ (within_congr h hpre) (hcontents hnone)
  · dsimp only
    refine within_of_view (onLink_view ..) (onDispatch_within h (fun k => ?_) fun ho r n hw => ?_)
    · simp only [holds_iff, hflight, hpre]
      simp only [Option.some.injEq, exists_eq_left', reduceCtorEq, false_and, exists_false, false_or]
      rw [or_assoc, or_comm, or_assoc]
    · exact (h.core.shut ho).2 c r n hw

theorem enqueue_within {r : PatchReq} (entries : List Entry) (h : RunsWithin free loose fired s)
    (hr : ∀ k, loose k ↔ r.isOf k = true) (hopen : ∀ k, r.isOf k = true → s.cue.isOpen = true) :
    RunsWithin free loose fired (enqueue c r entries s) := by
  unfold enqueue
  extract_lets old t
  have isOpen : t.cue.isOpen = s.cue.isOpen := rfl
  have enters : ∀ loose', (∀ k, (s.patch[c].flight.any (fun f => f.req.isOf k) = true ∨ r.isOf k = true) ∨ loose' k ↔
      s.patch[c].holds k = true ∨ loose k) → RunsWithin free loose' fired t := by
    intro loose' hslot
    refine onDispatch_within h (fun k => ?_) fun ho q n hq => ?_
    · rw [← hslot k]
      simp only [Dispatch.holds, Option.any_some, Bool.or_eq_true]
    · cases hq
      by_contra hk
      have := hopen n (by simpa using hk)
      rw [ho] at this
      cases this
  generalize hold : old = x
  cases x with
  | some q =>
    refine resolve_within _ (enters _ fun k => ?_) fun k hl hq => ?_
    · rw [hr k]
      simp only [Dispatch.holds, Option.any_some, Bool.or_eq_true, show s.patch[c].waiting = some q from hold]
      tauto
    · rw [slotHolds_iff]
      refine ⟨c, ?_⟩
      rw [show t.patch[c] = _ from onDispatch_self c _ s]
      simp [Dispatch.holds, (hr k).1 hl]
  | none =>
    refine enters _ fun k => ?_
    rw [hr k]
    simp only [Dispatch.holds, show s.patch[c].waiting = none from hold, Option.any_none, Bool.or_eq_true]
    simp only [Bool.false_eq_true]
    tauto

/-- A request is taken: one of a cue that is FIRING, or a RESTORE or AD_HOC request. -/
theorem takeRequest_within {r : PatchReq} (entries : List Entry) (h : RunsWithin free loose fired s)
    (hr : ∀ k, loose k ↔ r.isOf k = true) (hopen : ∀ k, r.isOf k = true → s.cue.isOpen = true)
    (hcontents : ∀ t : State, t.book = s.book → t.contents c r = none → ∀ k, r.isOf k = false) :
    RunsWithin free loose fired (takeRequest c r entries s) := by
  unfold takeRequest
  extract_lets t d
  have ht : RunsWithin free loose fired t := onDispatch_quiet h rfl rfl
  have hbook : t.book = s.book := rfl
  have hopen' : ∀ k, r.isOf k = true → t.cue.isOpen = true := hopen
  have hd : d = t.patch[c] := rfl
  clear_value t
  split
  next hempty =>
    split
    · exact onDispatch_quiet ht rfl rfl
    · split
      · have quiet : RunsWithin free loose fired
            (onDispatch c (fun d => { d with adhoc := if r.kind = .adHoc then entries else d.adhoc }) t) :=
          onDispatch_quiet ht rfl rfl
        refine send_within quiet (fun k => by rw [hr k, or_self]) ?_ fun hnone k _ hk => ?_
        · rw [onDispatch_self]
          simpa [hd] using hempty.1
        · rw [hcontents _ (by exact hbook) hnone k] at hk
          cases hk
      · exact enqueue_within entries ht hr hopen'
  · exact enqueue_within entries ht hr hopen'

/-- A request of no cue is taken. -/
theorem takeOther_within {r : PatchReq} (entries : List Entry) (h : RunsWithin free noCue fired s)
    (hr : ∀ k, r.isOf k = false) : RunsWithin free noCue fired (takeRequest c r entries s) :=
  takeRequest_within entries h (fun k => by simp [hr k]) (fun k hk => by simp [hr k] at hk) fun _ _ _ => hr

theorem promote_within (h : RunsWithin free noCue fired s) : RunsWithin free noCue fired (promote c s) := by
  unfold promote
  split
  next hfree =>
    split
    next r hw =>
      have out : RunsWithin free (fun k => r.isOf k = true) fired (onDispatch c (fun d => { d with waiting := none }) s) :=
        onDispatch_within h (fun k => by generalize s.patch[c] = d at hw; simp [Dispatch.holds, hw]) fun _ _ _ hq => nomatch hq
      refine send_within out (fun k => by simp) ?_ fun _ k hk => hk.elim
      rw [onDispatch_self]
      simpa using hfree.1
    · exact h
  · exact h

theorem land_within {f : Flight} (o : ReqOutcome) (k : Confirmed) (h : RunsWithin free noCue fired s)
    (hf : s.patch[c].flight = some f) : RunsWithin free noCue fired (land c f.req o k s) := by
  have out : RunsWithin free (fun k => noCue k ∨ f.req.isOf k = true) fired
      (onDispatch c (fun d => { d with flight := none, confirmed := k }) s) :=
    onDispatch_within h (fun k => by generalize s.patch[c] = d at hf; simp [Dispatch.holds, hf, or_comm]) fun ho r n hw => (h.core.shut ho).2 c r n hw
  exact promote_within (resolve_within o out fun _ hl => hl.elim)

theorem acknowledge_within (okay : Bool) (h : RunsWithin free noCue fired s) :
    RunsWithin free noCue fired (acknowledge c okay s) := by
  unfold acknowledge
  split
  · exact h
  next f hf => split <;> exact land_within _ _ h hf

theorem patchTimeout_within (h : RunsWithin free noCue fired s) : RunsWithin free noCue fired (patchTimeout c s) := by
  unfold patchTimeout
  split
  · exact h
  next f hf =>
    split
    · exact land_within _ _ h hf
    · exact h

theorem linkLost_within (h : RunsWithin free noCue fired s) : RunsWithin free noCue fired (linkLost c s) := by
  unfold linkLost
  split
  · exact h
  next f hf => exact land_within _ _ h hf

theorem relockRestore_within (h : RunsWithin free noCue fired s) :
    RunsWithin free noCue fired (relockRestore c s) := by
  unfold relockRestore
  split
  · exact promote_within h
  · split
    · split
      · exact takeOther_within _ h fun _ => rfl
      · exact h
    · exact h

/-! ## Requests forgotten and detached -/

theorem forgetPatch_within (n : Nat) (h : RunsWithin free noCue fired s) :
    RunsWithin free noCue fired (forgetPatch c n s) := by
  refine onDispatch_within h (fun k => ?_) fun ho r n hw => (h.core.shut ho).2 c r n hw
  have req : ∀ f : Flight, (if f.req.sel?.any fun t => decide (t.number = n) then { f with retired := true } else f).req =
      f.req := fun f => by split <;> rfl
  generalize s.patch[c] = d
  cases hf : d.flight <;> simp [Dispatch.holds, hf, req]

end Sys2Proof.Proofs

/-! PROOFS. What a fire, and all that follows at once from it, keeps of the run states (R30 to R45). -/

namespace Sys2Proof.Proofs

open Sys2Proof.Machine Sys2Proof.Laws

variable {free : Cue → Prop} {loose : CueNumber → Prop} {fired : Option CueNumber} {s : State}

/-! ## The clock leaves a song (R42, R65) -/

theorem abandonBeats_view (s : State) : runsView (abandonBeats s) = runsView s := rfl

theorem leaveSong_within (h : RunsWithin free loose fired s) : RunsWithin free loose fired (leaveSong s) := by
  unfold leaveSong
  extract_lets song s1 k s2
  have h2 : RunsWithin free loose fired s2 := within_of_view (runsView_clock s1 _) (within_of_view (abandonBeats_view s) h)
  clear_value s2 song
  cases song with
  | some n => exact passBarCues_within h2 n
  | none => exact h2

theorem parkClock_within (h : RunsWithin free loose fired s) : RunsWithin free loose fired (parkClock s) := by
  unfold parkClock
  extract_lets t
  have ht : RunsWithin free loose fired t := leaveSong_within h
  clear_value t
  exact within_of_view ((setClockState_view ..).trans (runsView_clock ..)) ht

theorem startSong_within (song bar lead : Nat) (h : RunsWithin free loose fired s) :
    RunsWithin free loose fired (startSong song bar lead s).1 := by
  unfold startSong
  split
  · exact h
  · exact h
  all_goals
    extract_lets s1 pos tick sub tempo k1 s2 s3 fixed produced
    have h1 : RunsWithin free loose fired s1 := by
      show RunsWithin free loose fired (if s.clock.state = .parked then s else leaveSong s)
      by_cases hp : s.clock.state = .parked
      · rw [if_pos hp]; exact h
      · rw [if_neg hp]; exact leaveSong_within h
    have h2 : runsView s2 = runsView s1 := runsView_clock s1 _
    have h3 : runsView s3 = runsView s2 := setClockState_view s2 _
    have h4 : runsView fixed.1 = runsView s3 := fixNext_view ..
    have h5 : runsView produced.1 = runsView fixed.1 := produceBeat_view ..
    have fix : RunsWithin free loose fired fixed.1 := within_of_view (h4.trans (h3.trans h2)) h1
    clear_value produced fixed
    split
    · exact fix
    · exact within_of_view h5 fix

theorem parkAction_within (h : RunsWithin free loose fired s) : RunsWithin free loose fired (parkAction s) := by
  unfold parkAction
  split <;> first | exact h | exact parkClock_within h

theorem songEnd_within (h : RunsWithin free loose fired s) : RunsWithin free loose fired (songEnd s) := by
  unfold songEnd
  split
  · exact parkClock_within h
  · exact h

/-! ## The hand-offs of a fire (R32 to R35) -/

theorem handTempo_within (c : Cue) (h : RunsWithin free loose fired s) :
    RunsWithin free loose fired (handTempo c s).1 := by
  unfold handTempo
  split
  · exact h
  · split
    · exact h
    · exact startSong_within _ _ _ h
  · exact within_of_view (holdAction_view s) h
  · exact within_of_view (releaseAction_view s) h
  · exact within_of_view (setTempoAction_view ..) h
  · exact parkAction_within h

theorem handVamp_view (c : Cue) (s : State) : runsView (handVamp c s) = runsView s := by
  unfold handVamp
  split
  · rfl
  · exact vampAction_view ..
  · exact vampRelease_view s

theorem handClick_view (s : State) (a : StationAction) : runsView (handClick s a) = runsView s := by
  unfold handClick
  split <;> rfl

/-- The requests that a cue hands over while it begins to fire are its own, of patches in the book. -/
theorem handPatches_within {c : Cue} (l : List StationAction) (h : RunsWithin free (fun k => k = c.number) fired s)
    (ho : s.cue.isOpen = true) (hl : ∀ a ∈ l, ∀ n, a.patch = some n → s.book.patch? a.chair n ≠ none) :
    RunsWithin free (fun k => k = c.number) fired (l.foldl (handPatch c) s) := by
  induction l generalizing s with
  | nil => exact h
  | cons a l ih =>
    have frame := handPatch_outside s c a
    refine ih ?_ ((outside_isOpen frame).trans ho) fun b hb n hn => ?_
    · unfold handPatch
      split
      · exact h
      next n hn =>
        split
        · refine takeRequest_within _ h (fun k => by simp [PatchReq.isOf, eq_comm]) (fun _ _ => ho)
            fun t hbook hnone => absurd ?_ (hl a (by simp) n hn)
          simpa [State.contents, PatchReq.sel?, hbook] using hnone
        · exact h
    · rw [outside_book frame]
      exact hl b (by simp [hb]) n hn

/-! ## A cue begins to fire (R35) -/

theorem beginFire_within {n : CueNumber} (h : RunsWithin free noCue none s) (ho : s.cue.isOpen = true)
    (hc : (s.book.cue? n).isSome = true)
    (hn : (s.runState n = .standby ∧ fired = some n) ∨ (s.runState n = .pending ∧ fired = none)) :
    RunsWithin free (fun k => k = n) fired (beginFire n s) := by
  have hs : RunsWithin free noCue none { s with cue := { s.cue with holdCandidate := none } } :=
    within_of_view (s := s) rfl h
  have hc' : (({ s with cue := { s.cue with holdCandidate := none } } : State).book.cue? n).isSome = true := hc
  have ho' : ({ s with cue := { s.cue with holdCandidate := none } } : State).cue.isOpen = true := ho
  have hn' : (({ s with cue := { s.cue with holdCandidate := none } } : State).runState n = .standby ∧ fired = some n) ∨
    (({ s with cue := { s.cue with holdCandidate := none } } : State).runState n = .pending ∧ fired = none) := hn
  unfold beginFire
  dsimp only
  generalize ({ s with cue := { s.cue with holdCandidate := none } } : State) = t at hs hc' ho' hn'
  refine failed_within ⟨setRun_core hs.core hc' (by simp) (fun k hk => by simp [hk]) (fun _ => by simp), ?_⟩
  rcases hn' with ⟨hst, rfl⟩ | ⟨hp, rfl⟩
  · have run := runState_setRun hs.core ho' hc' .firing
    have ht := setRun_edits n .firing t
    have stands : t.cue.standby = some n := ((hs.standby.only ho' n).1 hst).1
    refine ⟨by rw [ht.isOpen, ho']; simp, fun _ k => ?_, fun k hk => ?_, fun k hk => ⟨fun e he => ?_, n, ?_, .inl ?_⟩⟩
    · rw [run, ht.standby, stands]
      by_cases hk : k = n
      · simp [hk]
      · have := hs.standby.only ho' k
        rw [stands] at this
        simp [hk, this, Ne.symm hk]
    · rw [ht.book]
      exact hs.standby.cue k (ht.standby ▸ hk)
    · cases hk
      rw [ht.entry, if_pos rfl] at he
      obtain ⟨e', -, rfl⟩ := Option.map_eq_some_iff.1 he
      rfl
    · rw [ht.standby, stands]
    · exact Option.some.inj hk
  · exact setRun_standbyOf hs.standby hs.core hc' (by simp) (by simp [hp])

/-! ## The whole fire (R32, R43) -/

theorem startGuard_view (s : State) : runsView (startGuard s) = runsView s := rfl

theorem startFollow_view (n : CueNumber) (s : State) : runsView (startFollow n s).1 = runsView s := by
  unfold startFollow
  split
  · rfl
  · split
    · dsimp only
      split
      · split
        · rfl
        · split
          · rfl
          · split <;> rfl
      · rfl
    · rfl

theorem flag_view (g : EventFlag) (s : State) : runsView (flag g s) = runsView s := rfl

/-- What a fire for a cause asks of the cue: the standby by a GO, the held cue by a GO, or a PENDING cue that is no GO cue
by a trigger or timer (R30, R41, R44). -/
def Ready (cause : FireCause) (n : CueNumber) (c : Cue) (s : State) : Prop :=
  match cause with
  | .standby => s.runState n = .standby
  | .held => s.runState n = .pending
  | .timed => s.runState n = .pending ∧ c.isGo = false

/-- The standby that a fire for a cause takes. -/
def takenBy (cause : FireCause) (n : CueNumber) : Option CueNumber := if cause = .standby then some n else none

theorem fireCue_within {cause : FireCause} {n : CueNumber} (h : RunsWithin free noCue none s) (ho : s.cue.isOpen = true)
    (ready : ∀ c, s.book.cue? n = some c → Ready cause n c s) :
    RunsWithin free noCue none (fireCue cause n s).1 := by
  unfold fireCue
  split
  · exact h
  next c hc =>
    have hready := ready c hc
    obtain ⟨hmem, hnum⟩ := cue?_key hc
    extract_lets s1 s2 s3 tempo s4 e o s5 s6 s7 follow
    have hgo : cause = .standby → c.isGo = true := by
      rintro rfl
      obtain ⟨c', hc', hgo, -⟩ := h.standby.cue n ((h.standby.only ho n).1 hready).1
      cases hc.symm.trans hc'
      exact (isGo_iff c).2 hgo
    have begun : RunsWithin free (fun k => k = n) (takenBy cause n) (beginFire n s) :=
      beginFire_within h ho (by rw [hc]; rfl) (by
        cases cause with
        | standby => exact .inl ⟨hready, rfl⟩
        | held => exact .inr ⟨hready, rfl⟩
        | timed => exact .inr ⟨hready.1, rfl⟩)
    have frame := beginFire_outside s n
    have h1 : RunsWithin free (fun k => k = n) (takenBy cause n) s1 := by
      subst hnum
      refine handPatches_within _ begun ((outside_isOpen frame).trans ho) fun a ha p hp => ?_
      rw [outside_book frame]
      exact (h.core.book.cuesNamed c hmem).patches a ha p hp
    have o1 : outside s1 = outside s := (outside_foldl _ (fun s a => handPatch_outside s c a) _ _).trans frame
    have open1 : s1.cue.isOpen = true := (outside_isOpen o1).trans ho
    have h2 : RunsWithin free noCue (takenBy cause n) s2 :=
      settleCue_within (within_congr h1 fun k => by simp) open1 False.elim
    have open2 : s2.cue.isOpen = true := by
      refine (outside_isOpen (?_ : outside s2 = outside s1)).trans open1
      show outside (if s1.slotHolds n = true then s1 else completeCue n s1) = _
      split
      · rfl
      · exact completeCue_outside ..
    have v3 : runsView s3 = runsView s2 := runsView_foldl handClick_view _ _
    have h4 : RunsWithin free noCue (takenBy cause n) s4 :=
      within_of_view (handVamp_view ..) (handTempo_within c (within_of_view v3 h2))
    have open4 : s4.cue.isOpen = true :=
      (outside_isOpen ((handVamp_outside ..).trans (handTempo_outside ..))).trans ((runsView_isOpen v3).trans open2)
    have v5 : runsView s5 = runsView s4 := rfl
    have h5 := within_of_view v5 h4
    have open5 : s5.cue.isOpen = true := open4
    have h6 : RunsWithin free noCue none s6 := by
      show RunsWithin free noCue none (if cause = .held then s5 else if c.isGo = true then standbyAfterFire n s5 else s5)
      cases cause with
      | standby => simpa [hgo rfl] using standbyAfterFire_within h5 open5
      | held => exact h5
      | timed =>
        have hno : c.isGo = false := hready.2
        simp only [hno, reduceCtorEq, if_false, Bool.false_eq_true]
        exact h5
    have v7 : runsView s7 = runsView s6 := by
      show runsView (if cause = .timed then s6 else startGuard s6) = _
      split
      · rfl
      · exact startGuard_view s6
    have h8 : RunsWithin free noCue none follow.1 := within_of_view ((startFollow_view n s7).trans v7) h6
    exact within_of_view (flag_view ..) h8

/-- What stands may fire for a trigger or timer. -/
theorem ready_of_stands {a : AtOnce} (h : s.atOnceStands a = true) :
    s.cue.isOpen = true ∧ ∀ c, s.book.cue? a.cue = some c → Ready .timed a.cue c s := by
  cases a with
  | bar t =>
    simp only [State.atOnceStands, State.triggerStands] at h
    split at h
    next c hc =>
      simp only [Bool.and_eq_true, decide_eq_true_eq] at h
      obtain ⟨⟨⟨ho, hp⟩, -⟩, hfall⟩ := h
      refine ⟨ho, fun c' hc' => ⟨hp, ?_⟩⟩
      cases hc.symm.trans hc'
      cases htr : c.trigger <;> simp_all [Cue.fallsOn, Cue.isGo]
    · cases h
  | follow n =>
    simp only [State.atOnceStands, State.followStands] at h
    split at h
    next c hc =>
      simp only [Bool.and_eq_true, decide_eq_true_eq] at h
      obtain ⟨⟨ho, hp⟩, hfollow⟩ := h
      refine ⟨ho, fun c' hc' => ⟨hp, ?_⟩⟩
      cases hc.symm.trans hc'
      cases htr : c.trigger <;> simp_all [Cue.isFollow, Cue.isGo]
    · cases h

theorem runFires_within (fuel : Nat) (l : List AtOnce) (h : RunsWithin free noCue none s) :
    RunsWithin free noCue none (runFires fuel l s) := by
  induction fuel generalizing l s with
  | zero => simpa only [runFires] using h
  | succ k ih =>
    cases l with
    | nil => simpa only [runFires] using h
    | cons a rest =>
      simp only [runFires]
      split
      next hst =>
        obtain ⟨ho, ready⟩ := ready_of_stands hst
        exact ih _ (fireCue_within h ho ready)
      · exact ih _ h

theorem settleFires_within (r : State × List AtOnce) (h : RunsWithin free noCue none r.1) :
    RunsWithin free noCue none (settleFires r) := runFires_within _ _ h

theorem settleBars_within (r : State × List BarTrigger) (h : RunsWithin free noCue none r.1) :
    RunsWithin free noCue none (settleBars r) := settleFires_within (r.1, r.2.map .bar) h

theorem fire_within {cause : FireCause} {n : CueNumber} (h : RunsWithin free noCue none s) (ho : s.cue.isOpen = true)
    (ready : ∀ c, s.book.cue? n = some c → Ready cause n c s) : RunsWithin free noCue none (fire cause n s) :=
  settleFires_within _ (fireCue_within h ho ready)

/-! ## GO, triggers, timers and beats (R29, R30, R41, R44, R55) -/

theorem ignoreGo_view (kind : GoKind) (s : State) : runsView (ignoreGo kind s) = runsView s := by cases kind <;> rfl

theorem decideGo_within (kind : GoKind) (h : RunsWithin free noCue none s) :
    RunsWithin free noCue none (decideGo kind s).1 := by
  have ignored := within_of_view (ignoreGo_view kind s) h
  unfold decideGo
  split
  · exact h
  next ho =>
    have ho : s.cue.isOpen = true := by simpa using ho
    split
    · exact ignored
    · split
      · exact ignored
      · split
        · exact ignored
        next _ n hheld => exact fire_within h ho fun _ _ => (h.core.held n hheld).2
        next n _ hst =>
          split
          · exact fire_within h ho fun _ _ => (h.standby.only ho n).2 ⟨hst, by simp⟩
          · exact ignored

theorem chairGo_within (h : RunsWithin free noCue none s) : RunsWithin free noCue none (chairGo s) := by
  unfold chairGo
  split
  · exact within_of_view (vampRelease_view s) h
  · exact decideGo_within _ h

theorem barTrigger_within (h : RunsWithin free noCue none s) : RunsWithin free noCue none (barTrigger s) := by
  unfold barTrigger
  split
  · exact h
  next t rest _ =>
    split
    · extract_lets k s1
      have h1 : RunsWithin free noCue none s1 := within_of_view (s := s) rfl h
      clear_value s1
      split
      next hst =>
        obtain ⟨ho, ready⟩ := ready_of_stands (a := .bar t) hst
        exact fire_within h1 ho ready
      · exact h1
    · exact h

theorem followExpiry_within (h : RunsWithin free noCue none s) : RunsWithin free noCue none (followExpiry s) := by
  unfold followExpiry
  split
  · exact h
  next t rest _ =>
    split
    · extract_lets k s1
      have h1 : RunsWithin free noCue none s1 := within_of_view (s := s) rfl h
      clear_value s1
      split
      next hst =>
        obtain ⟨ho, ready⟩ := ready_of_stands (a := .follow t.cue) hst
        exact fire_within h1 ho ready
      · exact h1
    · exact h

theorem guardExpiry_view (s : State) : runsView (guardExpiry s) = runsView s := by
  unfold guardExpiry
  split <;> rfl

theorem beatReached_within (h : RunsWithin free noCue none s) : RunsWithin free noCue none (beatReached s) := by
  unfold beatReached
  split
  · split
    · exact settleBars_within _ (within_of_view (produceBeat_view ..) h)
    · exact h
  · split
    · exact settleBars_within _ (within_of_view (produceBeat_view ..) h)
    · exact h
  · exact h

theorem countInEnd_within (h : RunsWithin free noCue none s) : RunsWithin free noCue none (countInEnd s) := by
  unfold countInEnd
  split
  · split
    · extract_lets k s1 s2 produced
      have v2 : runsView s2 = runsView s := setClockState_view s1 _
      have v3 : runsView produced.1 = runsView s := (produceBeat_view ..).trans v2
      exact settleBars_within _ (within_of_view ((countInComplete_view _).trans v3) h)
    · exact h
  · exact h

end Sys2Proof.Proofs

/-! PROOFS. What the Book Store's changes of the book keep of the run states (R11 to R21), and the resume's rewrite (R47). -/

namespace Sys2Proof.Proofs

open Sys2Proof.Machine Sys2Proof.Laws

variable {free free' : Cue → Prop} {loose : CueNumber → Prop} {fired : Option CueNumber} {s t : State}

/-- The cues of no CUT song of a book. -/
abbrev Playing (b : Book) (c : Cue) : Prop := ¬b.ofCutSong c

/-- The run states are sound, and with them the book. -/
abbrev RunsOk (s : State) : Prop := RunsWithin (Playing s.book) noCue none s

theorem runsOk_of_within (h : RunsWithin (Playing s.book) noCue none t) (hb : t.book = s.book) : RunsOk t := by
  rw [RunsOk, hb]; exact h

theorem runsOk_of_view (hv : runsView t = runsView s) (h : RunsOk s) : RunsOk t :=
  runsOk_of_within (within_of_view hv h) (runsView_book hv)

theorem runsOk_of_outside (h : RunsWithin (Playing s.book) noCue none t) (ho : outside t = outside s) : RunsOk t :=
  runsOk_of_within h (outside_book ho)

/-! ## The closed show (R28) -/

/-- With the show closed no cue stands, none is held, and no slot waits with a request of a cue. -/
structure Shut (s : State) : Prop where
  isOpen : s.cue.isOpen = false
  standby : s.cue.standby = none
  held : s.cue.held = none
  waiting : ∀ (c : Chair) (r : PatchReq) (n : CueNumber), s.patch[c].waiting = some r → r.isOf n = false

theorem shut_of_runsOk (h : RunsOk s) (ho : s.cue.isOpen = false) : Shut s :=
  ⟨ho, h.standby.shut ho, (h.core.shut ho).1, (h.core.shut ho).2⟩

theorem runsOk_of_shut (h : Shut s) (hb : s.book.Sound) : RunsOk s := by
  have no : ∀ {p : Prop}, s.cue.isOpen = true → p := fun ho => by rw [h.isOpen] at ho; cases ho
  have noHeld : ∀ {p : Prop} {n}, s.cue.held = some n → p := fun hn => by rw [h.held] at hn; cases hn
  have noStandby : ∀ {p : Prop} {n}, s.cue.standby = some n → p := fun hn => by rw [h.standby] at hn; cases hn
  exact ⟨⟨hb, fun _ => ⟨h.held, h.waiting⟩, fun _ => h.isOpen, no, no, fun _ => noHeld, no⟩,
    ⟨fun _ => h.standby, no, fun _ => noStandby, fun _ hn => nomatch hn⟩⟩

theorem shut_of_frame (h : Shut s) (hc : t.cue = s.cue) (hp : t.patch = s.patch) : Shut t :=
  ⟨by rw [hc]; exact h.isOpen, by rw [hc]; exact h.standby, by rw [hc]; exact h.held, by rw [hp]; exact h.waiting⟩

theorem shut_of_view (hv : runsView t = runsView s) (h : Shut s) : Shut t := by
  have view : ∀ x : State, Shut (runsView x) ↔ Shut x := fun x =>
    ⟨fun h => ⟨h.isOpen, h.standby, h.held, h.waiting⟩, fun h => ⟨h.isOpen, h.standby, h.held, h.waiting⟩⟩
  exact (view t).1 (hv ▸ (view s).2 h)

/-- While the loader is busy, or the show closed, a change that leaves the cues, the slots and the book keeps the run
states sound. -/
theorem runsOk_of_closed (h : RunsOk s) (ho : s.cue.isOpen = false) (hb : t.book = s.book) (hc : t.cue = s.cue)
    (hp : t.patch = s.patch) : RunsOk t :=
  runsOk_of_shut (shut_of_frame (shut_of_runsOk h ho) hc hp) (by rw [hb]; exact h.core.book)

/-! ## The book changes under the run states -/

/-- A larger set of free cues, as far as the entries tell. -/
theorem within_free (h : RunsWithin free loose fired s)
    (hwait : ∀ n e c, s.cue.entry? n = some e → s.book.cue? n = some c → Waits e → free c → free' c)
    (hstand : ∀ n c, s.cue.standby = some n → s.book.cue? n = some c → free c → free' c) :
    RunsWithin free' loose fired s :=
  ⟨⟨h.core.book, h.core.shut, h.core.busy, h.core.entries,
      fun ho n e c he hc hw => hwait n e c he hc hw (h.core.waits ho n e c he hc hw), h.core.held, h.core.firing⟩,
    ⟨h.standby.shut, h.standby.only, fun n hn => by
      obtain ⟨c, hc, hgo, hf⟩ := h.standby.cue n hn
      exact ⟨c, hc, hgo, hstand n c hn hc hf⟩, h.standby.fired⟩⟩

/-- The book changes, and every cue number keeps or lacks its cue as before. -/
theorem within_book {b : Book} (h : RunsWithin free loose fired s) (hb : b.Sound)
    (hsome : ∀ n, (b.cue? n).isSome = (s.book.cue? n).isSome)
    (hwait : s.cue.isOpen = true → ∀ n e c, s.cue.entry? n = some e → b.cue? n = some c → Waits e → free' c)
    (hstand : ∀ n, s.cue.standby = some n → ∃ c, b.cue? n = some c ∧ c.trigger = .go ∧ free' c) :
    RunsWithin free' loose fired { s with book := b } :=
  ⟨⟨hb, h.core.shut, h.core.busy, fun ho n => (h.core.entries ho n).trans (hsome n).symm, hwait,
      fun n hn => ⟨(hsome n).trans (h.core.held n hn).1, (h.core.held n hn).2⟩, h.core.firing⟩,
    ⟨h.standby.shut, h.standby.only, hstand, h.standby.fired⟩⟩

/-- The book changes, and its cues stay. -/
theorem within_sameCues {b : Book} (h : RunsWithin free loose fired s) (hb : b.Sound)
    (hcue : ∀ n, b.cue? n = s.book.cue? n) (hfree : ∀ n c, b.cue? n = some c → free c → free' c) :
    RunsWithin free' loose fired { s with book := b } := by
  refine within_book h hb (fun n => by rw [hcue n]) (fun ho n e c he hc hw => ?_) fun n hn => ?_
  · exact hfree n c hc (h.core.waits ho n e c he ((hcue n).symm.trans hc) hw)
  · obtain ⟨c, hc, hgo, hf⟩ := h.standby.cue n hn
    exact ⟨c, (hcue n).trans hc, hgo, hfree n c ((hcue n).trans hc) hf⟩

/-- The book changes, its cues stay, and no song is cut. -/
theorem runsOk_book {b : Book} (h : RunsOk s) (hb : b.Sound) (hcue : ∀ n, b.cue? n = s.book.cue? n)
    (hcut : ∀ n r, b.song? n = some r → r.running = .cut → ∃ r', s.book.song? n = some r' ∧ r'.running = .cut) :
    RunsOk { s with book := b } := by
  refine within_sameCues h hb hcue fun n c _ hf hc => hf ?_
  obtain ⟨song, r, hs, hr, hcutr⟩ := hc
  obtain ⟨r', hr', hcut'⟩ := hcut song r hr hcutr
  exact ⟨song, r', hs, hr', hcut'⟩

theorem runsOk_tables {b : Book} (h : RunsOk s) (hsongs : b.songs = s.book.songs) (hsegments : b.segments = s.book.segments)
    (hpatches : b.patches = s.book.patches) (hcues : b.cues = s.book.cues) : RunsOk { s with book := b } :=
  runsOk_book h (sound_of_tables h.core.book hsongs hsegments hpatches hcues) (fun n => by rw [Book.cue?, hcues]; rfl)
    fun n r hr hc => ⟨r, by rw [Book.song?, hsongs] at hr; exact hr, hc⟩

theorem runsOk_revise (h : RunsOk s) : RunsOk (revise s) := runsOk_tables h rfl rfl rfl rfl

/-! ## Cue writes and retirements (R15, R19) -/

/-- A cue write counts anew, and cuts no song. -/
theorem ofCutSong_putCue (b : Book) (q c : Cue) : (b.putCue q).ofCutSong c ↔ b.ofCutSong c := by
  simp only [Book.ofCutSong, song?_putCue, Option.map_eq_some_iff]
  constructor
  · rintro ⟨n, _, hn, ⟨r, hr, rfl⟩, hc⟩; exact ⟨n, r, hn, hr, hc⟩
  · rintro ⟨n, r, hn, hr, hc⟩; exact ⟨n, _, hn, ⟨r, hr, rfl⟩, hc⟩

theorem ofCutSong_dropCue (b : Book) (k : CueNumber) (c : Cue) : (b.dropCue k).ofCutSong c ↔ b.ofCutSong c := by
  simp only [Book.ofCutSong, song?_dropCue, Option.map_eq_some_iff]
  constructor
  · rintro ⟨n, _, hn, ⟨r, hr, rfl⟩, hc⟩; exact ⟨n, r, hn, hr, hc⟩
  · rintro ⟨n, r, hn, hr, hc⟩; exact ⟨n, _, hn, ⟨r, hr, rfl⟩, hc⟩

/-- An amendment is taken only of a cue that is not FIRING, and of the standby cue only as a GO cue of no CUT song. -/
theorem cueLocked_eq_false {q : Cue} (h : s.cueLocked q = false) (ho : s.cue.isOpen = true)
    (hq : (s.book.cue? q.number).isSome = true) :
    s.runState q.number ≠ .firing ∧ (s.runState q.number = .standby → q.trigger = .go ∧ ¬s.book.ofCutSong q) := by
  simp only [State.cueLocked, ho, hq, Bool.true_and] at h
  refine ⟨fun hf => by simp [hf] at h, fun hs => ?_⟩
  simp only [hs, Bool.or_eq_false_iff, Bool.not_eq_false', isGo_iff, cueCut_eq_false] at h
  exact h

theorem amendRun_runsOk {q : Cue} (h : RunsOk s) (hput : (s.book.putCue q).Sound)
    (hq : (s.book.cue? q.number).isSome = true) (hlock : s.cueLocked q = false) :
    RunsOk (amendRun q { s with book := s.book.putCue q }) := by
  -- the amended cue may wait in a CUT song until it is passed
  have cue : ∀ n, (s.book.putCue q).cue? n = if n = q.number then some q else s.book.cue? n := cue?_putCue s.book q
  have put : RunsWithin (fun c => Playing (s.book.putCue q) c ∨ c = q) noCue none { s with book := s.book.putCue q } := by
    refine within_book h hput (fun n => ?_) (fun ho n e c he hc hw => ?_) fun n hn => ?_
    · rw [cue]; split
      next hn => rw [hn, hq]; rfl
      · rfl
    · rw [cue] at hc
      split at hc
      · exact .inr (Option.some.inj hc).symm
      · exact .inl fun hcut => h.core.waits ho n e c he hc hw ((ofCutSong_putCue ..).1 hcut)
    · obtain ⟨c, hc, hgo, hf⟩ := h.standby.cue n hn
      rw [cue]
      split
      next hnq =>
        subst hnq
        have ho : s.cue.isOpen = true := by
          by_contra ho
          rw [h.standby.shut (by simpa using ho)] at hn
          cases hn
        obtain ⟨hgo', hcut⟩ := (cueLocked_eq_false hlock ho hq).2 ((h.standby.only ho _).2 ⟨hn, by simp⟩)
        exact ⟨q, rfl, hgo', .inr rfl⟩
      · exact ⟨c, hc, hgo, .inl fun hcut => hf ((ofCutSong_putCue ..).1 hcut)⟩
  have strengthen : ∀ {t : State}, t.book = s.book.putCue q →
      RunsWithin (fun c => Playing (s.book.putCue q) c ∨ c = q) noCue none t →
      (∀ e, t.cue.entry? q.number = some e → Waits e → ¬s.book.ofCutSong q) →
      (t.cue.standby = some q.number → ¬s.book.ofCutSong q) → RunsOk t := by
    intro t hb ht hwait hstand
    rw [RunsOk, hb]
    refine within_free ht (fun n e c he hc hw hf => ?_) fun n c hn hc hf => ?_
    · rcases hf with hf | rfl
      · exact hf
      · rw [hb, cue] at hc
        have hn : n = c.number := by
          by_contra hne
          rw [if_neg hne] at hc
          exact hne (cue?_key hc).2.symm
        subst hn
        exact fun hcut => hwait e he hw ((ofCutSong_putCue ..).1 hcut)
    · rcases hf with hf | rfl
      · exact hf
      · rw [hb, cue] at hc
        have hnc : n = c.number := by
          by_contra hne
          rw [if_neg hne] at hc
          exact hne (cue?_key hc).2.symm
        subst hnc
        exact fun hcut => hstand hn ((ofCutSong_putCue ..).1 hcut)
  have stands : s.cue.standby = some q.number → ¬s.book.ofCutSong q := fun hn => by
    have ho : s.cue.isOpen = true := by
      by_contra ho
      rw [h.standby.shut (by simpa using ho)] at hn
      cases hn
    exact ((cueLocked_eq_false hlock ho hq).2 ((h.standby.only ho _).2 ⟨hn, by simp⟩)).2
  unfold amendRun
  split
  next ho =>
    have ho' : s.cue.isOpen = true := ho
    split
    next hp =>
      have hcue : ((s.book.putCue q).cue? q.number).isSome = true := by rw [cue, if_pos rfl]; rfl
      refine strengthen (outside_book (passCue_outside ..)) (passCue_within put hcue (by simp [hp.1]) (by simp [hp.1])) ?_ ?_
      · intro e he hw
        have := runState_passCue put.core ho hcue q.number
        rw [if_pos rfl, runState_of_entry ((passCue_frame ..).2.trans ho) he] at this
        rcases hw with hw | ⟨hw, -⟩ <;> simp [this] at hw
      · rw [passCue_standby]; exact stands
    next hp =>
      have waits : ∀ e, s.cue.entry? q.number = some e → Waits e → ¬s.book.ofCutSong q := by
        intro e he hw hcut
        rcases hw with hw | ⟨hw, -⟩
        · exact hp ⟨(runState_of_entry (s := s) ho' he).trans hw, (cueCut_iff ..).2 ((ofCutSong_putCue ..).2 hcut)⟩
        · exact (cueLocked_eq_false hlock ho' hq).1 ((runState_of_entry ho' he).trans hw)
      split
      · exact strengthen rfl put waits stands
      · exact strengthen rfl (within_of_view (cancelTimer_view ..) put) waits stands
  next ho =>
    have ho' : s.cue.isOpen = false := by simpa using ho
    exact runsOk_of_shut (shut_of_frame (shut_of_runsOk h ho') rfl rfl) hput

theorem entry?_append (l : List RunEntry) (e : RunEntry) (k : CueNumber) (hk : l.find? (fun r => decide (r.cue = e.cue)) = none) :
    (l ++ [e]).find? (fun r => decide (r.cue = k)) = if k = e.cue then some e else l.find? fun r => decide (r.cue = k) := by
  rw [List.find?_append]
  by_cases h : k = e.cue
  · subst h; simp [hk]
  · simp [h, Ne.symm h]

/-- The run states with an entry added at their end. -/
def appendRun (e : RunEntry) (s : State) : State := { s with cue := { s.cue with runs := s.cue.runs ++ [e] } }

/-- The entry of a cue created while the show is open (R15). -/
def createdEntry (q : Cue) (s : State) : RunEntry := { cue := q.number, state := s.firstRun q, mark := none, failed := 0 }

theorem createRun_eq (q : Cue) (s : State) : createRun q s =
    if s.cue.isOpen then
      if s.firstRun q = .pending ∧ q.isGo = true ∧ s.cue.standby = none then
        placeStandby (some q.number) (appendRun (createdEntry q s) s)
      else appendRun (createdEntry q s) s
    else s := rfl

theorem firstRun_cases (s : State) (q : Cue) :
    s.firstRun q = .passed ∨ (s.firstRun q = .pending ∧ ¬s.book.ofCutSong q) := by
  unfold State.firstRun
  split
  · exact .inl rfl
  next hc =>
    have hc : ¬s.book.ofCutSong q := fun h => hc ((cueCut_iff ..).2 h)
    split
    · split
      · exact .inl rfl
      · exact .inr ⟨rfl, hc⟩
    · exact .inr ⟨rfl, hc⟩

/-- A new cue has its entry, PASSED or, if it is of no CUT song, PENDING. -/
theorem appendRun_runsOk {q : Cue} {e : RunEntry} (h : RunsOk s) (ho : s.cue.isOpen = true)
    (hput : (s.book.putCue q).Sound) (hq : s.book.cue? q.number = none) (hcue : e.cue = q.number)
    (he : e.state = .passed ∨ (e.state = .pending ∧ ¬s.book.ofCutSong q)) :
    RunsOk (appendRun e { s with book := s.book.putCue q }) ∧
      ∀ n, (appendRun e { s with book := s.book.putCue q }).runState n = if n = q.number then e.state else s.runState n := by
  have none_ : s.cue.entry? q.number = none := by
    rw [← Option.not_isSome_iff_eq_none, h.core.entries ho, hq]; simp
  have cue : ∀ n, (appendRun e { s with book := s.book.putCue q }).book.cue? n = if n = q.number then some q else s.book.cue? n :=
    cue?_putCue s.book q
  have entry_ : ∀ n, (appendRun e { s with book := s.book.putCue q }).cue.entry? n = if n = q.number then some e else s.cue.entry? n := by
    intro n
    rw [← hcue]
    exact entry?_append _ e n (hcue ▸ none_)
  have ht : (appendRun e { s with book := s.book.putCue q }).cue.isOpen = true := ho
  have run : ∀ n, (appendRun e { s with book := s.book.putCue q }).runState n = if n = q.number then e.state else s.runState n := by
    intro n
    split
    next hn => exact runState_of_entry ht (by rw [entry_, if_pos hn])
    next hn => exact runState_congr (ht.trans ho.symm) (by rw [entry_, if_neg hn])
  have quiet : e.state ≠ .firing ∧ e.state ≠ .standby := by
    rcases he with he | ⟨he, -⟩ <;> simp [he]
  have idle : ¬s.slotHolds q.number = true := fun hs => by
    have := (h.core.firing ho q.number).2 (.inl hs)
    simp [runState_of_open ho, none_] at this
  have stands : ∀ n, s.cue.standby = some n → n ≠ q.number := by
    rintro n hn rfl
    obtain ⟨c, hc, -⟩ := h.standby.cue _ hn
    rw [hq] at hc
    cases hc
  have shut : ∀ {p : Prop}, s.cue.isOpen = false → p := fun hc => by rw [ho] at hc; cases hc
  refine ⟨⟨⟨hput, shut, h.core.busy, fun _ n => ?_, fun _ n e' c he' hc hw => ?_, fun n hn => ?_, fun _ n => ?_⟩,
    ⟨shut, fun _ n => ?_, fun n hn => ?_, fun n hn => nomatch hn⟩⟩, run⟩
  · rw [entry_, cue]
    split
    · rfl
    · exact h.core.entries ho n
  · rw [entry_] at he'
    rw [cue] at hc
    split at he'
    next hn =>
      rw [if_pos hn] at hc
      cases he'; cases hc
      rcases hw with hw | ⟨hw, -⟩
      · rcases he with he | ⟨-, hcut⟩
        · rw [he] at hw; cases hw
        · exact fun hc => hcut ((ofCutSong_putCue ..).1 hc)
      · exact absurd hw quiet.1
    next hn =>
      rw [if_neg hn] at hc
      exact fun hc' => h.core.waits ho n e' c he' hc hw ((ofCutSong_putCue ..).1 hc')
  · obtain ⟨hsome, hp⟩ := h.core.held n hn
    have hne : n ≠ q.number := by rintro rfl; rw [hq] at hsome; cases hsome
    rw [run, if_neg hne, cue, if_neg hne]
    exact ⟨hsome, hp⟩
  · rw [run]
    split
    next hn =>
      subst hn
      exact iff_of_false quiet.1 fun hh => hh.elim idle id
    · exact h.core.firing ho n
  · rw [run]
    split
    next hn =>
      subst hn
      exact iff_of_false quiet.2 fun hh => stands _ hh.1 rfl
    · exact h.standby.only ho n
  · obtain ⟨c, hc, hgo, hf⟩ := h.standby.cue n hn
    refine ⟨c, ?_, hgo, fun hc' => hf ((ofCutSong_putCue ..).1 hc')⟩
    rw [cue, if_neg (stands n hn)]
    exact hc

theorem createRun_runsOk {q : Cue} (h : RunsOk s) (hput : (s.book.putCue q).Sound) (hq : s.book.cue? q.number = none) :
    RunsOk (createRun q { s with book := s.book.putCue q }) := by
  rw [createRun_eq]
  split
  next ho =>
    have first := firstRun_cases { s with book := s.book.putCue q } q
    rw [show ¬Book.ofCutSong (State.book { s with book := s.book.putCue q }) q ↔ ¬s.book.ofCutSong q from
      not_congr (ofCutSong_putCue ..)] at first
    obtain ⟨ht, run⟩ := appendRun_runsOk (e := createdEntry q { s with book := s.book.putCue q }) h ho hput hq rfl first
    have hopen : (appendRun (createdEntry q { s with book := s.book.putCue q }) { s with book := s.book.putCue q }).cue.isOpen = true := ho
    have hcue : (appendRun (createdEntry q { s with book := s.book.putCue q }) { s with book := s.book.putCue q }).book.cue? q.number = some q := by
      exact (cue?_putCue ..).trans (if_pos rfl)
    split
    next hp =>
      obtain ⟨hp, hgo, hnone⟩ := hp
      have stands := run q.number
      rw [if_pos rfl] at stands
      refine runsOk_of_outside (placeStandby_within ht.core hopen (fun n hn => ?_) (fun m hm => ?_) fun _ hn => nomatch hn)
        (placeStandby_outside ..)
      · exact absurd (((ht.standby.only hopen n).1 hn).1.symm.trans hnone) (by simp)
      · cases hm
        refine ⟨q, hcue, (isGo_iff q).1 hgo, ?_, stands.trans hp⟩
        exact free_of_pending ht.core hopen hcue (stands.trans hp)
    · exact ht
  next ho =>
    have ho' : s.cue.isOpen = false := by simpa using ho
    exact runsOk_of_shut (shut_of_frame (shut_of_runsOk h ho') rfl rfl) hput

/-! ## Retirement of a cue (R19) -/

/-- The run states without a cue's entry and without its hold. -/
def dropEntry (n : CueNumber) (s : State) : State :=
  { s with cue := { s.cue with
    runs := s.cue.runs.filter fun r => !decide (r.cue = n)
    held := if s.cue.held = some n then none else s.cue.held } }

theorem dropRun_view (n : CueNumber) (s : State) : runsView (dropRun n s) = runsView (dropEntry n s) := by
  unfold dropRun dropEntry
  extract_lets s1 k s2
  have held : s2.cue.held = s.cue.held := rfl
  rw [held]
  split <;> rfl

theorem entry?_dropEntry (n : CueNumber) (s : State) (k : CueNumber) :
    (dropEntry n s).cue.entry? k = if k = n then none else s.cue.entry? k := by
  show (s.cue.runs.filter _).find? _ = _
  rw [List.find?_filter]
  split
  next h => rw [List.find?_eq_none]; intro r _; simp [h]
  next h =>
    show _ = s.cue.runs.find? _
    congr 1; funext r
    by_cases hr : r.cue = k <;> simp [hr, h]

theorem dropRun_runsOk {n : CueNumber} (h : RunsOk s)
    (hn : s.cue.isOpen = true → s.runState n ≠ .firing ∧ s.runState n ≠ .standby) :
    RunsOk (dropRun n { s with book := s.book.dropCue n }) := by
  refine runsOk_of_view (dropRun_view ..) ?_
  have hb := dropCue_sound h.core.book n
  have cue : ∀ k, (s.book.dropCue n).cue? k = if k = n then none else s.book.cue? k := cue?_dropCue s.book n
  have entry_ := entry?_dropEntry n { s with book := s.book.dropCue n }
  have run : ∀ k, k ≠ n → (dropEntry n { s with book := s.book.dropCue n }).runState k = s.runState k :=
    fun k hk => by
      refine runState_congr ?_ ?_
      · rfl
      · rw [entry_ k, if_neg hk]
  have gone : (dropEntry n { s with book := s.book.dropCue n }).runState n = .pending := by
    unfold State.runState
    rw [entry_, if_pos rfl]
    split <;> rfl
  have kept : ∀ k c, (s.book.dropCue n).cue? k = some c → k ≠ n ∧ s.book.cue? k = some c := by
    intro k c hc
    rw [cue] at hc
    split at hc
    · cases hc
    next hk => exact ⟨hk, hc⟩
  have stands : ∀ k, s.cue.standby = some k → k ≠ n := by
    rintro k hk rfl
    by_cases ho : s.cue.isOpen = true
    · exact (hn ho).2 ((h.standby.only ho k).2 ⟨hk, by simp⟩)
    · rw [h.standby.shut (by simpa using ho)] at hk
      cases hk
  refine ⟨⟨hb, fun ho => ⟨?_, (h.core.shut ho).2⟩, h.core.busy, fun ho k => ?_, fun ho k e c he hc hw => ?_, fun k hk => ?_,
    fun ho k => ?_⟩, ⟨h.standby.shut, fun ho k => ?_, fun k hk => ?_, fun k hk => nomatch hk⟩⟩
  · show (if s.cue.held = some n then none else s.cue.held) = none
    rw [(h.core.shut ho).1]
    rfl
  · rw [entry_, show (dropEntry n { s with book := s.book.dropCue n }).book.cue? k = _ from cue k]
    split
    · rfl
    · exact h.core.entries ho k
  · obtain ⟨hk, hc⟩ := kept k c hc
    rw [entry_, if_neg hk] at he
    exact fun hc' => h.core.waits ho k e c he hc hw ((ofCutSong_dropCue ..).1 hc')
  · have hk' : (if s.cue.held = some n then none else s.cue.held) = some k := hk
    split at hk'
    · cases hk'
    next hne =>
      have hkn : k ≠ n := by rintro rfl; exact hne hk'
      obtain ⟨hsome, hp⟩ := h.core.held k hk'
      rw [run k hkn, show (dropEntry n { s with book := s.book.dropCue n }).book.cue? k = _ from cue k, if_neg hkn]
      exact ⟨hsome, hp⟩
  · by_cases hk : k = n
    · subst hk
      rw [gone]
      exact iff_of_false (by simp) fun hh => (hn ho).1 ((h.core.firing ho k).2 hh)
    · rw [run k hk]
      exact h.core.firing ho k
  · by_cases hk : k = n
    · subst hk
      rw [gone]
      exact iff_of_false (by simp) fun hh => stands k hh.1 rfl
    · rw [run k hk]
      exact h.standby.only ho k
  · obtain ⟨c, hc, hgo, hf⟩ := h.standby.cue k hk
    exact ⟨c, (cue k).trans ((if_neg (stands k hk)).trans hc), hgo, fun hc' => hf ((ofCutSong_dropCue ..).1 hc')⟩

/-! ## Every write and retirement (R11 to R19) -/

theorem writeSong_runsOk {w : SongWrite} (h : RunsOk s) (hw : writeSong w s = .ok t) : RunsOk t := by
  have hb := writeSong_sound h.core.book hw
  obtain ⟨-, rfl⟩ := writeSong_cases hw
  refine runsOk_book h hb (fun _ => rfl) fun n r hr hc => ?_
  rw [song?_putRecord] at hr
  split at hr
  next hn =>
    cases hr
    subst hn
    cases hold : s.book.song? w.number with
    | none => simp [Book.songRecord, hold] at hc
    | some r => exact ⟨r, rfl, by simpa [Book.songRecord, hold] using hc⟩
  · exact ⟨r, hr, hc⟩

theorem writeCue_runsOk {w : CueWrite} (h : RunsOk s) (hw : writeCue w s = .ok t) : RunsOk t := by
  obtain ⟨q, hn, hv, hlock, hroom, rfl⟩ := writeCue_cases hw
  have put : (s.book.putCue q).Sound := putCue_sound h.core.book hn hv hroom
  split
  next hnew => exact createRun_runsOk h put (by simpa using hnew)
  next hold => exact amendRun_runsOk h put (by simpa [Option.isSome_iff_ne_none] using hold) hlock

theorem writeSettings_runsOk {w : SettingsWrite} (h : RunsOk s) (hw : writeSettings w s = .ok t) : RunsOk t := by
  obtain ⟨set, rfl⟩ := writeSettings_cases hw
  exact runsOk_of_view (videoSettings_view ..) (runsOk_tables h rfl rfl rfl rfl)

theorem writeRecord_runsOk {w : RecordWrite} (h : RunsOk s) (hw : writeRecord w s = .ok t) : RunsOk t := by
  cases w with
  | song w => exact writeSong_runsOk h hw
  | segment w =>
    have hb := writeRecord_sound (w := .segment w) h.core.book hw
    obtain ⟨g, r, -, -, -, rfl⟩ := writeSegment_cases hw
    exact runsOk_book h hb (fun _ => rfl) fun n r hr hc => ⟨r, hr, hc⟩
  | patch w =>
    have hb := writeRecord_sound (w := .patch w) h.core.book hw
    obtain ⟨p, -, rfl⟩ := writePatch_cases hw
    exact runsOk_book h hb (fun _ => rfl) fun n r hr hc => ⟨r, hr, hc⟩
  | cue w => exact writeCue_runsOk h hw
  | chair w =>
    obtain ⟨c, r, rfl⟩ := writeChair_cases hw
    exact runsOk_of_view (takeTrims_view _) (runsOk_tables h rfl rfl rfl rfl)
  | role role key =>
    obtain ⟨i, v, rfl⟩ := writeRole_cases hw
    exact runsOk_tables h rfl rfl rfl rfl
  | settings w => exact writeSettings_runsOk h hw

theorem retireFrom_runsOk {k : RecordKey} (h : RunsOk s) (hr : retireFrom k s = .ok t) : RunsOk t := by
  have hb := retireFrom_sound h.core.book hr
  rcases retireFrom_cases hr with ⟨n, hr⟩ | ⟨song, bar, hr⟩ | ⟨c, n, hr⟩ | ⟨n, hr⟩
  · obtain ⟨r, -, -, rfl⟩ := retireSong_cases hr
    refine runsOk_book h hb (fun _ => rfl) fun m r hr hc => ?_
    rw [song?_dropSong] at hr
    split at hr
    · cases hr
    · exact ⟨r, hr, hc⟩
  · obtain rfl := retireSegment_cases hr
    exact runsOk_book h hb (fun _ => rfl) fun n r hr hc => ⟨r, hr, hc⟩
  · obtain ⟨p, -, -, rfl⟩ := retirePatch_cases hr
    have dropped : RunsOk { s with book := s.book.dropPatch c n } :=
      runsOk_book h hb (fun _ => rfl) fun n r hr hc => ⟨r, hr, hc⟩
    exact runsOk_of_outside (forgetPatch_within n dropped) rfl
  · obtain ⟨hn, rfl⟩ := retireCue_cases hr
    exact dropRun_runsOk h hn

theorem bookChange_runsOk {change : State → Except Status State}
    (hc : ∀ {t}, change s = .ok t → RunsOk t) (hs : RunsOk s) : RunsOk (bookChange change s).1 := by
  unfold bookChange
  split
  · exact hs
  · split
    · exact hs
    next h => exact runsOk_revise (hc h)

end Sys2Proof.Proofs

/-! PROOFS. What SONG CUT and SONG RESTORE do to the run states, and that they keep them sound (R20, R21). -/

namespace Sys2Proof.Proofs

open Sys2Proof.Machine Sys2Proof.Laws

variable {free free' : Cue → Prop} {loose : CueNumber → Prop} {fired : Option CueNumber} {s t : State}

/-! ## Walks that change the entries of some cues -/

/-- In the states of `P`, which it keeps, a step changes the entry of the cue it is given by `f`, and no other. -/
def StepsBy (P : State → Prop) (step : State → Cue → State) (f : RunEntry → RunEntry) : Prop :=
  ∀ (s : State) (q : Cue), P s → P (step s q) ∧
    ∀ k, (step s q).cue.entry? k = if k = q.number then (s.cue.entry? k).map f else s.cue.entry? k

/-- A walk changes the entries of the cues on its list. -/
theorem entry?_walk {P : State → Prop} {step : State → Cue → State} {f : RunEntry → RunEntry} (hstep : StepsBy P step f)
    (hf : ∀ e, f (f e) = f e) (l : List Cue) (hs : P s) (k : CueNumber) :
    (l.foldl step s).cue.entry? k = if k ∈ l.map (·.number) then (s.cue.entry? k).map f else s.cue.entry? k := by
  induction l generalizing s with
  | nil => simp
  | cons q l ih =>
    obtain ⟨hnext, hentry⟩ := hstep s q hs
    rw [List.foldl_cons, ih hnext, hentry]
    by_cases hk : k ∈ l.map (·.number)
    · by_cases hq : k = q.number
      · cases s.cue.entry? k <;> simp [hq, hf]
      · simp only [hk, hq, if_true, if_false, List.map_cons, List.mem_cons, false_or]
    · by_cases hq : k = q.number
      · subst hq
        simp only [if_neg hk, if_true, List.map_cons, List.mem_cons, true_or]
      · simp only [hk, hq, if_false, List.map_cons, List.mem_cons, false_or]

/-! ## SONG CUT (R20) -/

/-- What a cut makes of the entry of one of the song's cues. -/
def cutEntry (e : RunEntry) : RunEntry :=
  match e.state with
  | .pending | .standby => newState .passed e
  | .firing => { e with mark := e.mark.map fun _ => .passed }
  | .complete | .passed => e

theorem cutEntry_cutEntry (e : RunEntry) : cutEntry (cutEntry e) = cutEntry e := by
  obtain ⟨cue, state, mark, failed⟩ := e
  cases state <;> cases mark <;> rfl

theorem cutCue_outside (s : State) (q : Cue) : outside (cutCue s q) = outside s := by
  unfold cutCue
  split
  · exact passCue_outside ..
  · exact passCue_outside ..
  · rfl
  · rfl
  · rfl

theorem entry?_passCue (n : CueNumber) (s : State) (k : CueNumber) :
    (passCue n s).cue.entry? k = if k = n then (s.cue.entry? k).map (newState .passed) else s.cue.entry? k :=
  entry?_setRun n .passed s k

/-- The entry of a cue changed by `f`, where `f` is what happens to entries in its run state. -/
theorem map_entry_of_state {f g : RunEntry → RunEntry} (ho : s.cue.isOpen = true) {n : CueNumber}
    (h : ∀ e, s.cue.entry? n = some e → e.state = s.runState n → g e = f e) (k : CueNumber) :
    (if k = n then (s.cue.entry? k).map g else s.cue.entry? k) =
      if k = n then (s.cue.entry? k).map f else s.cue.entry? k := by
  split
  next hk =>
    subst hk
    cases he : s.cue.entry? k with
    | none => rfl
    | some e => simp only [Option.map_some, h e he (runState_of_entry ho he).symm]
  · rfl

theorem ite_map_id (n k : CueNumber) (s : State) :
    s.cue.entry? k = if k = n then (s.cue.entry? k).map id else s.cue.entry? k := by simp

theorem cutCue_steps : StepsBy (fun s => s.cue.isOpen = true) cutCue cutEntry := by
  intro s q ho
  refine ⟨(outside_isOpen (cutCue_outside s q)).trans ho, fun k => ?_⟩
  cases hr : s.runState q.number with
  | pending | standby =>
    rw [show cutCue s q = passCue q.number s by simp [cutCue, hr], entry?_passCue]
    exact map_entry_of_state ho (fun e _ he => by simp [cutEntry, he, hr]) k
  | firing =>
    rw [show cutCue s q = mapRun q.number (fun r => { r with mark := r.mark.map fun _ => .passed }) s by simp [cutCue, hr],
      entry?_mapRun q.number (f := fun r => { r with mark := r.mark.map fun _ => .passed }) (fun _ => rfl)]
    exact map_entry_of_state ho (fun e _ he => by simp [cutEntry, he, hr]) k
  | complete | passed =>
    rw [show cutCue s q = s by simp [cutCue, hr]]
    refine (ite_map_id ..).trans (map_entry_of_state ho (fun e _ he => ?_) k)
    simp [cutEntry, he, hr]

/-- The marks of a FIRING cue change, but none to return to PENDING a cue that is not free. -/
theorem mark_core (h : RunsCore free loose s) {n : CueNumber} {f : RunEntry → Option ReturnMark}
    (hf : ∀ e, f e = some .pending → e.mark = some .pending ∨ ∀ c, s.book.cue? n = some c → free c) :
    RunsCore free loose (mapRun n (fun r => { r with mark := f r }) s) := by
  have ht := mapRun_edits n (f := fun r => { r with mark := f r }) (fun _ => rfl) s
  have same : ∀ k, (mapRun n (fun r => { r with mark := f r }) s).runState k = s.runState k := by
    intro k
    simp only [State.runState, ht.isOpen, ht.entry]
    by_cases hk : k = n
    · cases s.cue.entry? k <;> simp [hk]
    · simp [hk]
  refine core_edits h ht (fun _ e he hw => ?_) (fun k hk => ⟨hk, ?_⟩) (fun _ _ => Iff.rfl) fun ho => ?_
  · rcases hw with hw | ⟨hw, hm⟩
    · exact .inl (.inl hw)
    · exact (hf e hm).imp (fun hm => .inr ⟨hw, hm⟩) id
  · rw [same]; exact (h.held k hk).2
  · rw [same]; exact h.firing ho n

theorem mark_standby (h : StandbyOf free none s) {n : CueNumber} {f : RunEntry → Option ReturnMark}
    (hr : s.runState n = .firing) : StandbyOf free none (mapRun n (fun r => { r with mark := f r }) s) := by
  have ht := mapRun_edits n (f := fun r => { r with mark := f r }) (fun _ => rfl) s
  refine standby_edits h ht (fun ho => ?_) fun hf => nomatch hf
  obtain ⟨e, he, hes⟩ := entry_of_runState (s := s) (k := n) (by simp [hr])
  rw [edits_runState_self ht ho he, ← hes]

theorem cutCue_core (h : RunsCore free loose s) {q : Cue} (hq : (s.book.cue? q.number).isSome = true) :
    RunsCore free loose (cutCue s q) := by
  unfold cutCue
  split
  next hr => exact passCue_core h hq (by simp [hr])
  next hr => exact passCue_core h hq (by simp [hr])
  · exact mark_core h fun e he => by cases hm : e.mark <;> simp [hm] at he
  · exact h
  · exact h

theorem cutCue_standby (s : State) (q : Cue) : (cutCue s q).cue.standby = s.cue.standby := by
  unfold cutCue
  split
  · exact passCue_standby ..
  · exact passCue_standby ..
  · rfl
  · rfl
  · rfl

theorem cutCues_core (l : List Cue) (h : RunsCore free loose s) (hl : ∀ q ∈ l, (s.book.cue? q.number).isSome = true) :
    RunsCore free loose (l.foldl cutCue s) := by
  induction l generalizing s with
  | nil => exact h
  | cons q l ih =>
    refine ih (cutCue_core h (hl q (by simp))) fun r hr => ?_
    rw [outside_book (cutCue_outside s q)]
    exact hl r (by simp [hr])

theorem cutCues_standby (l : List Cue) (s : State) : (l.foldl cutCue s).cue.standby = s.cue.standby := by
  induction l generalizing s with
  | nil => rfl
  | cons q l ih => exact (ih _).trans (cutCue_standby s q)

theorem mem_cuesOf (b : Book) (song : Nat) (q : Cue) : q ∈ b.cuesOf song ↔ q ∈ b.cues ∧ q.song = some song := by
  simp [Book.cuesOf]

/-- A cue of the song is one of those that the cut and the restore walk along. -/
theorem mem_numbers_cuesOf {b : Book} (hb : b.Sound) {song : Nat} {k : CueNumber} :
    k ∈ (b.cuesOf song).map (·.number) ↔ ∃ q, b.cue? k = some q ∧ q.song = some song := by
  simp only [List.mem_map, mem_cuesOf]
  constructor
  · rintro ⟨q, ⟨hq, hs⟩, rfl⟩; exact ⟨q, cue?_of_mem hb hq, hs⟩
  · rintro ⟨q, hq, hs⟩
    obtain ⟨hmem, hn⟩ := cue?_key hq
    exact ⟨q, ⟨hmem, hs⟩, hn⟩

/-- What a book does with the flag of one song decides which cues are of a CUT song. -/
theorem ofCutSong_setRunning (b : Book) (n : Nat) (f : Running) (c : Cue) :
    (b.setRunning n f).ofCutSong c ↔
      (c.song ≠ some n ∧ b.ofCutSong c) ∨ (c.song = some n ∧ b.song? n ≠ none ∧ f = .cut) := by
  simp only [Book.ofCutSong, song?_setRunning, Option.map_eq_some_iff]
  constructor
  · rintro ⟨m, _, hm, ⟨r, hr, rfl⟩, hc⟩
    by_cases hmn : m = n
    · subst hmn
      exact .inr ⟨hm, by simp [hr], by simpa using hc⟩
    · exact .inl ⟨by rw [hm]; simpa using hmn, m, r, hm, hr, by simpa [hmn] using hc⟩
  · rintro (⟨hne, m, r, hm, hr, hc⟩ | ⟨hn, hs, rfl⟩)
    · have hmn : m ≠ n := by rintro rfl; exact hne hm
      exact ⟨m, _, hm, ⟨r, hr, rfl⟩, by simpa [hmn] using hc⟩
    · obtain ⟨r, hr⟩ := Option.ne_none_iff_exists'.1 hs
      exact ⟨n, _, hn, ⟨r, hr, rfl⟩, by simp⟩

theorem cutEntry_state (e : RunEntry) : (cutEntry e).state ≠ .pending ∧ (cutEntry e).state ≠ .standby ∧ ¬Waits (cutEntry e) := by
  obtain ⟨cue, state, mark, failed⟩ := e
  cases state <;> cases mark <;> simp [cutEntry, newState, Waits]

/-- The state of a cut's walk: the book has the new flag, and no cue of the song waits any more. -/
theorem cutRuns_within {b : Book} {song : Nat} (h : RunsWithin free noCue none s) (ho : s.cue.isOpen = true)
    (hfree : ∀ c, free c → c.song ≠ some song → Playing b c) (hb : s.book = b) :
    RunsWithin (Playing b) noCue none (cutRuns song s) := by
  subst hb
  unfold cutRuns
  extract_lets old t
  have frame : outside t = outside s := outside_foldl _ cutCue_outside _ s
  have hopen : t.cue.isOpen = true := (outside_isOpen frame).trans ho
  have hbook : t.book = s.book := outside_book frame
  have core : RunsCore free noCue t := cutCues_core _ h.core fun q hq => cue?_isSome_of_mem ((mem_cuesOf ..).1 hq).1
  have entry_ : ∀ k, t.cue.entry? k =
      if k ∈ (s.book.cuesOf song).map (·.number) then (s.cue.entry? k).map cutEntry else s.cue.entry? k :=
    entry?_walk cutCue_steps cutEntry_cutEntry (s.book.cuesOf song) ho
  have standby_ : t.cue.standby = s.cue.standby := cutCues_standby ..
  have walked : ∀ k, k ∈ (s.book.cuesOf song).map (·.number) ↔ ∃ q, s.book.cue? k = some q ∧ q.song = some song :=
    fun k => mem_numbers_cuesOf h.core.book
  -- a cue that waits after the walk is of another song
  have core' : RunsCore (Playing s.book) noCue t := by
    refine ⟨core.book, core.shut, core.busy, core.entries, fun _ k e c he hc hw => ?_, core.held, core.firing⟩
    refine hfree c (core.waits hopen k e c he hc hw) fun hsong => ?_
    rw [hbook] at hc
    have he' := (entry_ k).symm.trans he
    rw [if_pos ((walked k).2 ⟨c, hc, hsong⟩)] at he'
    obtain ⟨e', -, rfl⟩ := Option.map_eq_some_iff.1 he'
    exact (cutEntry_state e').2.2 hw
  -- a cue in STANDBY after the walk was in STANDBY, and is of another song
  have stands : ∀ k, t.runState k = .standby → k ∉ (s.book.cuesOf song).map (·.number) ∧ s.runState k = .standby := by
    intro k hk
    obtain ⟨e, he, hes⟩ := entry_of_runState (s := t) (k := k) (by simp [hk])
    have he' := (entry_ k).symm.trans he
    split at he'
    · obtain ⟨e', -, rfl⟩ := Option.map_eq_some_iff.1 he'
      exact absurd (hes.trans hk) (cutEntry_state e').2.1
    next hmem => exact ⟨hmem, (runState_of_entry ho he').trans (hes.trans hk)⟩
  have held : ∀ k, s.cue.standby = some k → t.runState k ≠ .passed → k ∉ (s.book.cuesOf song).map (·.number) := by
    intro k hk hp hmem
    have hs := (h.standby.only ho k).2 ⟨hk, by simp⟩
    obtain ⟨e, he, hes⟩ := entry_of_runState (s := s) (k := k) (by simp [hs])
    refine hp (runState_of_entry hopen (e := cutEntry e) ?_ |>.trans ?_)
    · exact (entry_ k).trans (by rw [if_pos hmem, he]; rfl)
    · simp [cutEntry, hes, hs, newState]
  clear_value t
  have kept : (∀ n, s.cue.standby = some n → t.runState n ≠ .passed) → RunsWithin (Playing s.book) noCue none t := by
    refine fun hn => ⟨core', ⟨fun hc => absurd hopen (by simp [hc]), fun _ k => ?_, fun k hk => ?_, fun _ hk => nomatch hk⟩⟩
    · rw [standby_, ← h.standby.only ho k]
      refine ⟨fun hk => (stands k hk).2, fun hk => ?_⟩
      have hks := ((h.standby.only ho k).1 hk).1
      have hmem := held k hks (hn k hks)
      rw [runState_congr (hopen.trans ho.symm) ((entry_ k).trans (if_neg hmem))]
      exact hk
    · rw [standby_] at hk
      obtain ⟨c, hc, hgo, hf⟩ := h.standby.cue k hk
      exact ⟨c, by rw [hbook]; exact hc, hgo, hfree c hf fun hsong => held k hk (hn k hk) ((walked k).2 ⟨c, hc, hsong⟩)⟩
  generalize hold : old = x
  cases x with
  | none =>
    have hold : s.cue.standby = none := hold
    exact kept fun n hn => by rw [hold] at hn; cases hn
  | some n =>
    have hold : s.cue.standby = some n := hold
    dsimp only
    split
    next hp =>
      refine placeStandby_next core' hopen (fun k hk => ?_) fun k hk => firstGoAfter_mem hk
      have hks := ((h.standby.only ho k).1 (stands k hk).2).1
      rw [hold] at hks
      cases hks
      rw [hp] at hk
      cases hk
    next hp => exact kept fun m hm => by rw [hold] at hm; cases hm; exact hp

/-! ## SONG RESTORE (R21) -/

theorem restoreCue_outside (s : State) (q : Cue) : outside (restoreCue s q) = outside s := by
  unfold restoreCue
  split
  · split
    · exact setRun_outside ..
    · rfl
  all_goals rfl

theorem restoreMark_eq (m : ReturnMark) :
    (fun r : RunEntry => if r.mark = some .passed then { r with mark := some m } else r) =
      fun r => { r with mark := if r.mark = some .passed then some m else r.mark } := by
  funext r; split <;> rfl

/-- One of the song's cues comes back: the cue is free again. -/
theorem restoreCue_within (h : RunsWithin free loose none s) {q : Cue} (hq : s.book.cue? q.number = some q)
    (hfree : free q) : RunsWithin free loose none (restoreCue s q) := by
  have here : ∀ c, s.book.cue? q.number = some c → free c := fun c hc => by cases hq.symm.trans hc; exact hfree
  have hsome : (s.book.cue? q.number).isSome = true := by rw [hq]; rfl
  unfold restoreCue
  split
  next hr =>
    split
    · exact ⟨setRun_core_quiet h.core hsome (fun _ => here) (by simp) (by simp [hr]),
        setRun_standbyOf h.standby h.core hsome (by simp) (by simp [hr])⟩
    · exact h
  next hr =>
    dsimp only
    rw [restoreMark_eq]
    exact ⟨mark_core h.core fun _ _ => .inr here, mark_standby h.standby hr⟩
  · exact h
  · exact h
  · exact h

theorem restoreRuns_within {song : Nat} (h : RunsWithin free noCue none s) (ho : s.cue.isOpen = true)
    (hfree : ∀ c, c.song = some song → free c) : RunsWithin free noCue none (restoreRuns song s) := by
  have walk : ∀ (l : List Cue) (s : State), RunsWithin free noCue none s →
      (∀ q ∈ l, s.book.cue? q.number = some q ∧ free q) → RunsWithin free noCue none (l.foldl restoreCue s) := by
    intro l
    induction l with
    | nil => exact fun s h _ => h
    | cons q l ih =>
      intro s h hl
      refine ih _ (restoreCue_within h (hl q (by simp)).1 (hl q (by simp)).2) fun r hr => ?_
      rw [outside_book (restoreCue_outside s q)]
      exact hl r (by simp [hr])
  unfold restoreRuns
  extract_lets t
  have ht : RunsWithin free noCue none t := walk _ s h fun q hq =>
    ⟨cue?_of_mem h.core.book ((mem_cuesOf ..).1 hq).1, hfree q ((mem_cuesOf ..).1 hq).2⟩
  have hopen : t.cue.isOpen = true := (outside_isOpen (outside_foldl _ restoreCue_outside _ s)).trans ho
  clear_value t
  split
  next hnone =>
    refine placeStandby_next ht.core hopen (fun k hk => ?_) fun k hk => firstGoAfter_mem hk
    have := ((ht.standby.only hopen k).1 hk).1
    rw [hnone] at this
    cases this
  · exact ht

/-! ## The running flag of a song (R20, R21) -/

theorem decideRunning_runsOk (n : Nat) (f : Running) {runs : Nat → State → State}
    (hruns : runs = cutRuns ∧ f = .cut ∨ runs = restoreRuns ∧ f = .playing) (h : RunsOk s) :
    RunsOk (decideRunning n f runs s).1 := by
  unfold decideRunning
  split
  · exact h
  · split
    · exact h
    · split
      · exact h
      · split
        · exact h
        · split
          · exact h
          · extract_lets t
            have hb : t.book.Sound := revise_sound (setRunning_sound h.core.book n f)
            have cue : ∀ k, t.book.cue? k = s.book.cue? k := fun _ => rfl
            have song : ∀ c, t.book.ofCutSong c ↔ (s.book.setRunning n f).ofCutSong c := fun _ => Iff.rfl
            have ht : ∀ {free : Cue → Prop}, (∀ k c, t.book.cue? k = some c → Playing s.book c → free c) →
                RunsWithin free noCue none t := fun hfree => within_sameCues (s := s) h hb cue hfree
            dsimp only
            split
            next ho =>
              rcases hruns with ⟨rfl, rfl⟩ | ⟨rfl, rfl⟩
              · refine runsOk_of_within (cutRuns_within (ht fun _ _ _ hf => hf) ho (fun c hc hs hcut => ?_) rfl)
                  (outside_book (cutRuns_outside ..))
                rcases (ofCutSong_setRunning ..).1 ((song c).1 hcut) with ⟨-, hc'⟩ | ⟨hs', -⟩
                · exact hc hc'
                · exact hs hs'
              · refine runsOk_of_outside (s := t) (restoreRuns_within (ht fun k c _ hc hcut => ?_) ho fun c hs hcut => ?_)
                  (restoreRuns_outside ..)
                · rcases (ofCutSong_setRunning ..).1 ((song c).1 hcut) with ⟨-, hc'⟩ | ⟨-, -, hf⟩
                  · exact hc hc'
                  · cases hf
                · rcases (ofCutSong_setRunning ..).1 ((song c).1 hcut) with ⟨hs', -⟩ | ⟨-, -, hf⟩
                  · exact hs' hs
                  · cases hf
            next ho =>
              have ho : s.cue.isOpen = false := Bool.eq_false_iff.2 ho
              exact runsOk_of_shut (shut_of_frame (shut_of_runsOk h ho) rfl rfl) hb

end Sys2Proof.Proofs

/-! PROOFS. Every step keeps the run states sound: the resume, the show's opening and closing, the links, the gestures and
the image loader, and the step itself (R25, R28, R47, R103, R169 to R182). -/

namespace Sys2Proof.Proofs

open Sys2Proof.Machine Sys2Proof.Laws

variable {s t : State}

/-! ## The resume's rewrite (R47) -/

/-- The rewrite keeps which cues are FIRING, puts none in STANDBY, and returns none of a CUT song. -/
theorem rewriteEntry_state (b : Book) (n : CueNumber) (e : RunEntry) :
    ((rewriteEntry b n e).state = .firing ↔ e.state = .firing) ∧ (rewriteEntry b n e).state ≠ .standby ∧
      ∀ c, b.cue? e.cue = some c → Waits (rewriteEntry b n e) → ¬b.ofCutSong c := by
  unfold rewriteEntry
  extract_lets cut
  have hcut : ∀ c, b.cue? e.cue = some c → cut = b.cueCut c := fun c hc => by
    show (match b.cue? e.cue with | some c => b.cueCut c | none => false) = _
    rw [hc]
  clear_value cut
  split
  next hf =>
    refine ⟨by simp [hf], by simp [hf], fun c hc hw => ?_⟩
    rw [← cueCut_eq_false, ← hcut c hc]
    rcases hw with hw | ⟨-, hw⟩
    · simp [hf] at hw
    · by_contra hcut
      rw [Bool.not_eq_false] at hcut
      simp [hcut] at hw
  next hf =>
    refine ⟨iff_of_false ?_ hf, ?_, fun c hc hw => ?_⟩
    · dsimp only; split_ifs <;> simp
    · dsimp only; split_ifs <;> simp
    · rw [← cueCut_eq_false, ← hcut c hc]
      by_contra hcut
      rw [Bool.not_eq_false] at hcut
      rcases hw with hw | ⟨hw, -⟩ <;> simp [hcut] at hw

/-- The run states rewritten, with no standby and no held cue. -/
def rewritten (n : CueNumber) (s : State) : State :=
  { s with cue := { s.cue with runs := s.cue.runs.map (rewriteEntry s.book n), standby := none, held := none } }

theorem entry?_rewritten (n : CueNumber) (s : State) (k : CueNumber) :
    (rewritten n s).cue.entry? k = (s.cue.entry? k).map (rewriteEntry s.book n) :=
  find?_map_entry s.cue.runs _ (fun e => by unfold rewriteEntry; dsimp only; split <;> rfl) k

theorem rewritten_core {n : CueNumber} (h : RunsOk s) (ho : s.cue.isOpen = true) :
    RunsCore (Playing s.book) noCue (rewritten n s) ∧ ∀ k, (rewritten n s).runState k ≠ .standby := by
  have ho' : (rewritten n s).cue.isOpen = true := ho
  have entry_ := entry?_rewritten n s
  have from_ : ∀ k e, (rewritten n s).cue.entry? k = some e → ∃ e', s.cue.entry? k = some e' ∧ e'.cue = k ∧
      rewriteEntry s.book n e' = e := by
    intro k e he
    rw [entry_] at he
    obtain ⟨e', he', rfl⟩ := Option.map_eq_some_iff.1 he
    exact ⟨e', he', by simpa using List.find?_some he', rfl⟩
  refine ⟨⟨h.core.book, fun hc => absurd ho (by rw [show s.cue.isOpen = false from hc]; simp), h.core.busy, fun _ k => ?_,
    fun _ k e c he hc hw => ?_, fun _ hn => (nomatch hn), fun _ k => ?_⟩, fun k hk => ?_⟩
  · rw [entry_, Option.isSome_map]
    exact h.core.entries ho k
  · obtain ⟨e', -, hk, rfl⟩ := from_ k e he
    exact (rewriteEntry_state ..).2.2 c (hk ▸ hc) hw
  · have same : (rewritten n s).runState k = .firing ↔ s.runState k = .firing := by
      rw [runState_of_open ho', runState_of_open ho, entry_]
      cases s.cue.entry? k with
      | none => simp
      | some e => simpa using (rewriteEntry_state s.book n e).1
    rw [same]
    exact h.core.firing ho k
  · obtain ⟨e, he, hes⟩ := entry_of_runState (s := rewritten n s) (k := k) (by simp [hk])
    obtain ⟨e', -, -, rfl⟩ := from_ k e he
    exact (rewriteEntry_state s.book n e').2.1 (hes.trans hk)

/-- The follow resume cue is held, or waits to be held. -/
def holdResume (n : CueNumber) (s : State) : State :=
  match s.book.cue? n with
  | some c =>
    if c.isFollow then
      if s.runState n = .pending then setHeld (some n) s
      else { s with cue := { s.cue with holdCandidate := some n } }
    else s
  | none => s

theorem rewriteRuns_eq (n : CueNumber) (s : State) : ∃ t, runsView t = runsView (rewritten n s) ∧
    rewriteRuns n s = holdResume n (placeStandby (t.pendingGo.find? fun m => !m.before n) t) :=
  ⟨{ s with
      cue := { s.cue with
        runs := s.cue.runs.map (rewriteEntry s.book n)
        timers := [], guard := none, triggers := [], standby := none, held := none, holdCandidate := none
        lastFired := (s.cueBefore n).map (·.number) }
      overlay := { s.overlay with lastCue := (s.cueBefore n).map fun c => (c.number, c.text) } }, rfl, rfl⟩

theorem holdResume_within {free : Cue → Prop} {n : CueNumber} (h : RunsWithin free noCue none s) (ho : s.cue.isOpen = true) :
    RunsWithin free noCue none (holdResume n s) := by
  unfold holdResume
  split
  next c hc =>
    split
    · split
      next hp =>
        refine setHeld_within h fun k hk => ?_
        cases hk
        exact ⟨ho, by rw [hc]; rfl, hp⟩
      · exact within_of_view (s := s) rfl h
    · exact h
  · exact h

theorem rewriteRuns_runsOk (n : CueNumber) (h : RunsOk s) (ho : s.cue.isOpen = true) : RunsOk (rewriteRuns n s) := by
  have frame := rewriteRuns_outside s n
  obtain ⟨t, hv, he⟩ := rewriteRuns_eq n s
  obtain ⟨core, hnone⟩ := rewritten_core (n := n) h ho
  have hopen : t.cue.isOpen = true := (runsView_isOpen hv).trans ho
  have run : ∀ k, t.runState k = (rewritten n s).runState k := fun k => by
    have hr : t.cue.runs = (rewritten n s).cue.runs := congrArg (fun x => x.cue.runs) hv
    refine runState_congr (runsView_isOpen hv) ?_
    simp only [CueEngine.entry?, hr]
  have placed := placeStandby_next (core_of_view hv core) hopen (fun k => by rw [run]; exact hnone k)
    (x := t.pendingGo.find? fun m => !m.before n) fun m hm => List.mem_of_find?_eq_some hm
  refine runsOk_of_outside ?_ frame
  rw [he]
  exact holdResume_within placed ((outside_isOpen (placeStandby_outside ..)).trans hopen)

/-! ## Resume (R169 to R174) -/

theorem onClicks_view (c : Chair) (k : ClickChair → ClickChair) (s : State) : runsView (onClicks c k s) = runsView s := rfl

theorem reconstructChair_runsOk (n : CueNumber) (c : Chair) (h : RunsOk s) : RunsOk (reconstructChair n s c) := by
  refine runsOk_of_outside ?_ (reconstructChair_outside s n c)
  unfold reconstructChair
  split
  · extract_lets d t enable
    have ht : RunsWithin (Playing s.book) noCue none t := by
      show RunsWithin _ _ _ (match s.reconstruction n c with
        | none => s
        | some sel => if d.confirmed ≠ .patch sel ∨ d.flight.isSome ∨ d.waiting.isSome then
            takeRequest c (.restore sel) [] s else s)
      split
      · exact h
      · split
        · exact takeOther_within _ h fun _ => rfl
        · exact h
    clear_value t
    exact within_of_view (onClicks_view ..) ht
  · exact h

theorem reconstructChairs_runsOk (n : CueNumber) (l : List Chair) (h : RunsOk s) :
    RunsOk (l.foldl (reconstructChair n) s) := by
  induction l generalizing s with
  | nil => exact h
  | cons c l ih => exact ih (reconstructChair_runsOk n c h)

theorem resumeAt_runsOk (q : Cue) (bars : Nat) (h : RunsOk s) (ho : s.cue.isOpen = true) : RunsOk (resumeAt q bars s) := by
  refine runsOk_of_within ?_ (resumeAt_book q bars s)
  unfold resumeAt
  extract_lets k held s1 s2
  have h1 : RunsOk s1 := runsOk_of_view (runsView_stop s _) h
  have h2 : RunsOk s2 := reconstructChairs_runsOk _ _ (rewriteRuns_runsOk q.number h1 ho)
  have hbook : s2.book = s.book :=
    (outside_book (outside_foldl _ (fun s c => reconstructChair_outside s q.number c) _ _)).trans
      ((outside_book (rewriteRuns_outside s1 q.number)).trans rfl)
  rw [RunsOk, hbook] at h2
  clear_value s2
  split
  · exact settleBars_within _ (within_of_view (resumeCounting_view ..) h2)
  · exact within_of_view (resumeParked_view s2) h2

theorem resumeCheck_open {n : CueNumber} {bars : Nat} {q : Cue} (h : s.resumeCheck n bars = .ok q) :
    s.cue.isOpen = true := by
  unfold State.resumeCheck at h
  split at h
  · cases h
  · split at h
    · cases h
    next ho => simpa using ho

theorem decideResume_runsOk (major minor bars : Nat) (h : RunsOk s) : RunsOk (decideResume major minor bars s).1 := by
  unfold decideResume
  split
  · exact h
  next q hq => exact resumeAt_runsOk q bars h (resumeCheck_open hq)

/-! ## Standby moves and gestures (R38, R39, R128) -/

theorem padSwipe_runsOk {move : State → State} (hm : s.cue.isOpen = true → RunsOk (move s)) (h : RunsOk s) :
    RunsOk (padSwipe move s) := by
  unfold padSwipe
  split
  next ho => exact hm ho.1
  · exact h

theorem standbyNext_runsOk (h : RunsOk s) (ho : s.cue.isOpen = true) : RunsOk (standbyNext s) :=
  runsOk_of_outside (standbyNext_within h ho) (standbyNext_outside s)

theorem standbyBack_runsOk (h : RunsOk s) (ho : s.cue.isOpen = true) : RunsOk (standbyBack s) :=
  runsOk_of_outside (standbyBack_within h ho) (standbyBack_outside s)

theorem handGesture_runsOk (k : Contact) (h : RunsOk s) : RunsOk (handGesture k s) := by
  unfold handGesture
  split
  · exact runsOk_of_outside (decideGo_within _ h) (decideGo_outside ..)
  · exact runsOk_of_view (tempoTap_view ..) h
  · exact padSwipe_runsOk (standbyNext_runsOk h) h
  · exact padSwipe_runsOk (standbyBack_runsOk h) h
  · exact h

theorem padFrame_runsOk (bytes : List Byte) (h : RunsOk s) : RunsOk (padFrame bytes s) := by
  have pad : ∀ p : Pad, RunsOk { s with pad := p } := fun _ => runsOk_of_view (s := s) rfl h
  unfold padFrame
  split
  · exact pad _
  · split
    · extract_lets taken s1
      have h1 : RunsOk s1 := pad _
      clear_value s1
      split
      next k _ => exact handGesture_runsOk k h1
      next => exact h1
    · exact pad _
    · exact pad _

theorem decideMove_runsOk {move : State → State} (hm : s.cue.isOpen = true → RunsOk (move s)) (h : RunsOk s) :
    RunsOk (decideMove move s).1 := by
  unfold decideMove
  split
  next ho => exact hm ho
  · exact h

theorem decideStandbySet_runsOk (major minor : Nat) (h : RunsOk s) : RunsOk (decideStandbySet major minor s).1 := by
  refine runsOk_of_outside ?_ (decideStandbySet_outside ..)
  unfold decideStandbySet
  extract_lets n
  split
  · exact h
  next ho =>
    have ho : s.cue.isOpen = true := by simpa using ho
    split
    · exact h
    · split
      · exact h
      next q hq =>
        split
        · exact h
        · split
          next hstand =>
            simp only [State.mayStand, Bool.and_eq_true, decide_eq_true_eq, isGo_iff] at hstand
            obtain ⟨-, hnum⟩ := cue?_key hq
            have hp : s.runState n = .pending := hnum ▸ hstand.2
            have waits : RunsWithin (Playing s.book) noCue none { s with cue := { s.cue with holdCandidate := none } } :=
              within_of_view (s := s) rfl h
            have stands : MayStand (Playing s.book) { s with cue := { s.cue with holdCandidate := none } } n :=
              ⟨q, hq, hstand.1, free_of_pending h.core ho hq hp, hp⟩
            exact setHeld_within (moveStandby_within waits ho stands fun _ hn => nomatch hn) fun _ hn => nomatch hn
          · exact h

/-! ## The links (R99 to R101, R112 to R117) -/

theorem loseLink_runsOk (c : Chair) (cause : LossCause) (h : RunsOk s) : RunsOk (loseLink c cause s) := by
  refine runsOk_of_outside ?_ (loseLink_outside c cause s)
  unfold loseLink
  extract_lets queued s1 s2 o s3
  have v2 : runsView s2 = runsView s1 := runsView_foldl (fun s k => finishPart_view s c _) _ s1
  have v3 : runsView s3 = runsView s2 := rfl
  have v1 : runsView s1 = runsView s := rfl
  exact linkLost_within (within_of_view (v3.trans (v2.trans v1)) h)

theorem lockLink_runsOk (c : Chair) (seq : Byte) (latency : Nat) (monitor : Bool) (h : RunsOk s) :
    RunsOk (lockLink c seq latency monitor s) := by
  refine runsOk_of_outside ?_ (lockLink_outside c seq latency monitor s)
  unfold lockLink
  extract_lets mark s1
  have v1 : runsView (makeProbe c (emptyFilter c s1)) = runsView s := rfl
  exact relockRestore_within (within_of_view v1 h)

theorem failTraining_view (c : Chair) (s : State) : runsView (failTraining c s) = runsView s := rfl

theorem fillBucket_runsOk (c : Chair) (h : RunsOk s) : RunsOk (fillBucket c s) := by
  unfold fillBucket
  extract_lets s1
  have h1 : RunsOk s1 := runsOk_of_view (onLink_view ..) h
  clear_value s1
  split
  · split
    · exact loseLink_runsOk c _ h1
    · exact runsOk_of_view (failTraining_view c s1) h1
    · exact h1
  · exact h1

theorem takePress_runsOk (h : RunsOk s) (c : Chair) : RunsOk (takePress c s) := by
  unfold takePress
  split
  · exact runsOk_of_outside (chairGo_within h) (chairGo_outside s)
  · exact runsOk_of_view (s := s) rfl h

theorem takeAck_runsOk (h : RunsOk s) (c : Chair) (tag : Byte) (okay : Bool) : RunsOk (takeAck c tag okay s) := by
  unfold takeAck
  split
  · exact runsOk_of_outside (acknowledge_within okay h) (acknowledge_outside ..)
  · exact runsOk_of_view (s := s) rfl h

theorem deliver_runsOk (c : Chair) (seq : Byte) (m : UpMsg) (h : RunsOk s) : RunsOk (deliver c seq m s) := by
  have checked : RunsOk (checkSequence c seq s) := runsOk_of_view (checkSequence_view ..) h
  cases m with
  | hello latency monitor => exact lockLink_runsOk c seq latency monitor (loseLink_runsOk c .relock h)
  | goPress => exact takePress_runsOk checked c
  | patchAck tag okay => exact takeAck_runsOk checked c tag okay
  | echo id turnaround => exact runsOk_of_view (takeEcho_view ..) checked
  | idle => exact checked

theorem arrive_runsOk (c : Chair) (m : UplinkCheck) (h : RunsOk s) : RunsOk (arrive c m s) := by
  unfold arrive
  split
  · exact runsOk_of_view (lineActivity_view ..) h
  · extract_lets s1
    have h1 : RunsOk s1 := runsOk_of_view (onLink_view ..) h
    clear_value s1
    have marked : ∀ f, RunsOk (markError c f s1) := fun _ => runsOk_of_view (s := s1) rfl h1
    split
    · exact fillBucket_runsOk c (marked _)
    · exact fillBucket_runsOk c (marked _)
    · split
      · exact deliver_runsOk c _ _ (runsOk_of_view (s := s1) rfl h1)
      · split
        · exact lockLink_runsOk c _ _ _ h1
        · exact h1

theorem silenceTimeout_runsOk (c : Chair) (h : RunsOk s) : RunsOk (silenceTimeout c s) := by
  unfold silenceTimeout
  split
  · exact loseLink_runsOk c _ h
  · exact h

/-! ## The show opens and closes (R27, R28, R103, R107) -/

theorem detachPatches_congr (h : runsView t = runsView s) : runsView (detachPatches t) = runsView (detachPatches s) := by
  have viewed : ∀ t : State, runsView (detachPatches t) = runsView (detachPatches (runsView t)) := fun _ => rfl
  rw [viewed t, h, ← viewed s]

theorem detachPatches_placeStandby (x : Option CueNumber) (s : State) :
    detachPatches (placeStandby x s) = placeStandby x (detachPatches s) := by
  cases x with
  | none => rfl
  | some m =>
    rw [placeStandby_some, placeStandby_some, setRun_eq, setRun_eq]
    have held : (standbyField (some m) (detachPatches s)).cue.held = (standbyField (some m) s).cue.held := rfl
    rw [held]
    split <;> rfl

theorem placeStandby_congr (x : Option CueNumber) (h : runsView t = runsView s) :
    runsView (placeStandby x t) = runsView (placeStandby x s) := by
  have viewed : ∀ t : State, runsView (placeStandby x t) = runsView (placeStandby x (runsView t)) := by
    intro t
    cases x with
    | none => rfl
    | some m =>
      rw [placeStandby_some, placeStandby_some, setRun_eq, setRun_eq]
      have held : (standbyField (some m) (runsView t)).cue.held = (standbyField (some m) t).cue.held := rfl
      rw [held]
      split <;> rfl
  rw [viewed t, h, ← viewed s]

/-- The Cue Engine and the Patch Dispatcher as the show opens. -/
def openedShow (s : State) : State := detachPatches { s with cue := CueEngine.opened s.book }

theorem openShow_view (s : State) : ∃ x : Option CueNumber, (∀ m, x = some m → m ∈ (openedShow s).pendingGo) ∧
    runsView (openShow s) = runsView (placeStandby x (openedShow s)) := by
  refine ⟨(openedShow s).firstGoAfter none, fun m hm => firstGoAfter_mem hm, ?_⟩
  unfold openShow
  extract_lets o s1 s2 s3 k s4
  have v4 : runsView s4 = runsView s3 := rfl
  have v3 : runsView s3 = runsView s2 := parkForShow_view s2
  have clicks : runsView (enableClicks s4) = runsView s4 := rfl
  have v2 : runsView (detachPatches s2) = runsView (placeStandby ((openedShow s).firstGoAfter none) (openedShow s)) := by
    have h2 : detachPatches s2 = placeStandby (s1.firstGoAfter none) (detachPatches s1) := detachPatches_placeStandby _ s1
    rw [h2]
    exact placeStandby_congr _ rfl
  have faults : ∀ x : State, runsView (openFaults x) = runsView x := fun _ => rfl
  rw [openStop_view, faults]
  exact (detachPatches_congr (clicks.trans (v4.trans v3))).trans v2

theorem detached_isOf (f : Flight) (n : CueNumber) :
    ({ f with req := match f.req with | .cue n _ sel => .cue n true sel | r => r } : Flight).req.isOf n = false := by
  cases f.req <;> simp [PatchReq.isOf]

/-- The run states of the opening show: every cue PENDING or, of a CUT song, PASSED, and no request of a cue in a slot. -/
theorem openedShow_core (h : RunsOk s) (ho : s.cue.isOpen = false) (hbusy : s.busy = false) :
    RunsCore (Playing s.book) noCue (openedShow s) ∧ ∀ k, (openedShow s).runState k ≠ .standby := by
  have hopen : (openedShow s).cue.isOpen = true := rfl
  have entry_ : ∀ k, (openedShow s).cue.entry? k = (s.book.cue? k).map (openEntry s.book) := by
    intro k
    show (s.book.cues.map _).find? _ = _
    rw [List.find?_map]
    rfl
  have run : ∀ k, (openedShow s).runState k = .pending ∨ (openedShow s).runState k = .passed := by
    intro k
    rw [runState_of_open hopen, entry_]
    cases s.book.cue? k with
    | none => exact .inl rfl
    | some c =>
      have state : (openEntry s.book c).state = if s.book.cueCut c then .passed else .pending := rfl
      simp only [Option.map_some, Option.getD_some, state]
      split <;> simp
  have quiet : ∀ k, (openedShow s).runState k ≠ .firing ∧ (openedShow s).runState k ≠ .standby := by
    intro k
    rcases run k with hr | hr <;> simp [hr]
  have idle : ∀ k, ¬(openedShow s).slotHolds k = true := by
    intro k hk
    obtain ⟨c, hc⟩ := (slotHolds_iff ..).1 hk
    have hpatch : (openedShow s).patch[c] = _ := tabulateChairs_getElem _ c
    rw [hpatch, holds_iff] at hc
    rcases hc with ⟨f, hf, hr⟩ | ⟨r, hr, hk⟩
    · obtain ⟨f', -, rfl⟩ := Option.map_eq_some_iff.1 hf
      exact absurd (hr.symm.trans (detached_isOf f' k)) (by simp)
    · exact absurd (hk.symm.trans ((h.core.shut ho).2 c r k hr)) (by simp)
  refine ⟨⟨h.core.book, fun hc => (nomatch hc), fun hb => ?_, fun _ k => ?_, fun _ k e c he hc hw => ?_, fun _ hn => (nomatch hn),
    fun _ k => iff_of_false (quiet k).1 fun hh => hh.elim (idle k) id⟩, fun k => (quiet k).2⟩
  · rw [show s.busy = true from hb] at hbusy
    cases hbusy
  · rw [entry_, Option.isSome_map]
    rfl
  · rw [entry_, show s.book.cue? k = some c from hc] at he
    cases he
    have state : (openEntry s.book c).state = if s.book.cueCut c then .passed else .pending := rfl
    rw [Waits, state] at hw
    rw [Playing, ← cueCut_eq_false]
    by_contra hcut
    rw [Bool.not_eq_false] at hcut
    rcases hw with hw | ⟨hw, -⟩ <;> simp [hcut] at hw

theorem openShow_runsOk (h : RunsOk s) (ho : s.cue.isOpen = false) (hbusy : s.busy = false) : RunsOk (openShow s) := by
  obtain ⟨core, hnone⟩ := openedShow_core h ho hbusy
  obtain ⟨x, hx, hv⟩ := openShow_view s
  exact runsOk_of_within (within_of_view hv (placeStandby_next core rfl hnone hx)) (openShow_book s)

/-- The Cue Engine and the Patch Dispatcher as the show closes. -/
theorem closeShow_shut (s : State) : Shut (closeShow s) := by
  unfold closeShow
  extract_lets s1 s2 s3
  have v2 : runsView s2 = runsView s1 := (parkForShow_view _).trans (cancelClicks_view _)
  have shut : Shut (emptyPending s2) := by
    have cue : ∀ {α : Type} (f : State → α), (∀ x, f (runsView x) = f x) → f s2 = f s1 := fun f hf => by
      rw [← hf s2, v2, hf]
    refine ⟨(runsView_isOpen v2).trans rfl, ?_, ?_, fun c r n hw => ?_⟩
    · exact cue (fun x => x.cue.standby) fun _ => rfl
    · exact cue (fun x => x.cue.held) fun _ => rfl
    · rw [show (emptyPending s2).patch[c] = _ from tabulateChairs_getElem _ c] at hw
      cases hw
  have h3 : Shut s3 := shut_of_view ((closeStop_view _).trans (closeFaults_view _)) shut
  clear_value s3
  exact shut_of_frame h3 rfl rfl

theorem closeShow_runsOk (h : RunsOk s) : RunsOk (closeShow s) :=
  runsOk_of_shut (closeShow_shut s) (by rw [closeShow_book]; exact h.core.book)

/-! ## Clearing and loading with the show closed (R24, R179 to R182) -/

theorem applyFaults_shut (new : Vector FaultSetting 70) (h : Shut s) : Shut (applyFaults new s) := by
  obtain ⟨set, hv⟩ := applyFaults_view s new
  exact shut_of_view hv (shut_of_frame h rfl rfl)

theorem forgetPatches_shut (h : Shut s) : Shut (forgetPatches s) :=
  ⟨h.isOpen, h.standby, h.held, fun c r n hw => by
    rw [show (forgetPatches s).patch[c] = _ from tabulateChairs_getElem _ c] at hw
    exact h.waiting c r n hw⟩

theorem bookOf_shut (b : Book) (h : Shut s) : Shut { s with book := b } := ⟨h.isOpen, h.standby, h.held, h.waiting⟩

theorem clearBook_shut (h : Shut s) : Shut (clearBook s) := by
  unfold clearBook
  extract_lets s1 old s2
  have h1 : Shut s1 := applyFaults_shut _ h
  have h2 : Shut s2 := shut_of_view (videoSettings_view ..) (bookOf_shut Book.empty h1)
  have h3 : Shut (takeTrims s2) := shut_of_view (takeTrims_view s2) h2
  generalize takeTrims s2 = x at h3
  exact forgetPatches_shut h3

theorem forgetFired_shut (h : Shut s) : Shut (forgetFired s) := ⟨h.isOpen, h.standby, h.held, h.waiting⟩

theorem failLoad_shut (r : LoaderResult) (h : Shut s) : Shut (failLoad r s) :=
  shut_of_frame (forgetFired_shut (clearBook_shut h)) rfl rfl

theorem failLoad_runsOk (r : LoaderResult) (h : Shut s) : RunsOk (failLoad r s) :=
  runsOk_of_shut (failLoad_shut r h) (failLoad_sound r s)

theorem shut_of_busy (h : RunsOk s) {st : LoaderState} (hst : s.loader.report.state = st) (hruns : st.runs = true) :
    Shut s :=
  shut_of_runsOk h (h.core.busy (by rw [State.busy, hst]; exact hruns))

theorem headerRead_runsOk (bytes : List Byte) (h : RunsOk s) : RunsOk (headerRead bytes s) := by
  unfold headerRead
  split
  next hst =>
    have shut := shut_of_busy h hst rfl
    split
    · exact failLoad_runsOk _ shut
    · split
      · exact failLoad_runsOk _ shut
      · extract_lets s1 l
        have h1 : Shut s1 := clearBook_shut shut
        have hb : s1.book.Sound := by rw [show s1.book = Book.empty from clearBook_book s]; exact empty_sound
        clear_value s1
        exact runsOk_of_shut (shut_of_frame h1 rfl rfl) hb
  · exact h

theorem applyFaults_runsOk (new : Vector FaultSetting 70) (h : RunsOk s) :
    RunsOk (applyFaults new s) ∧ (applyFaults new s).cue.isOpen = s.cue.isOpen := by
  obtain ⟨set, hv⟩ := applyFaults_view s new
  exact ⟨runsOk_of_view hv (runsOk_tables h rfl rfl rfl rfl), (runsView_isOpen hv).trans rfl⟩

theorem writeSettings_isOpen {w : SettingsWrite} (hw : writeSettings w s = .ok t) : t.cue.isOpen = s.cue.isOpen := by
  obtain ⟨set, rfl⟩ := writeSettings_cases hw
  exact (runsView_isOpen (videoSettings_view ..)).trans rfl

theorem writeRecord_isOpen {w : RecordWrite} (hw : writeRecord w s = .ok t) : t.cue.isOpen = s.cue.isOpen := by
  cases w with
  | song w => obtain ⟨-, rfl⟩ := writeSong_cases hw; rfl
  | segment w => obtain ⟨g, r, -, -, -, rfl⟩ := writeSegment_cases hw; rfl
  | patch w => obtain ⟨p, -, rfl⟩ := writePatch_cases hw; rfl
  | cue w =>
    obtain ⟨q, -, -, -, -, rfl⟩ := writeCue_cases hw
    split
    · exact (outside_isOpen (createRun_outside ..)).trans rfl
    · exact (outside_isOpen (amendRun_outside ..)).trans rfl
  | chair w =>
    obtain ⟨c, r, rfl⟩ := writeChair_cases hw
    exact (runsView_isOpen (takeTrims_view _)).trans rfl
  | role role key => obtain ⟨i, v, rfl⟩ := writeRole_cases hw; rfl
  | settings w => exact writeSettings_isOpen hw

theorem installSong_runsOk {payload : List Byte} (h : RunsOk s) (ho : s.cue.isOpen = false)
    (hi : installSong payload s = .ok t) : RunsOk t ∧ t.cue.isOpen = false := by
  have hb := installSong_sound h.core.book hi
  unfold installSong at hi
  split at hi
  · cases hi
  · split at hi
    · cases hi
    · split at hi
      · cases hi
      next hw =>
        cases hi
        have h' := writeSong_runsOk h hw
        have ho' := (writeRecord_isOpen (w := .song _) hw).trans ho
        split
        next hf =>
          rw [if_pos hf] at hb
          exact ⟨runsOk_of_shut (shut_of_frame (shut_of_runsOk h' ho') rfl rfl) hb, ho'⟩
        · exact ⟨h', ho'⟩

theorem installSettings_runsOk {payload : List Byte} (h : RunsOk s) (ho : s.cue.isOpen = false)
    (hi : installSettings payload s = .ok t) : RunsOk t ∧ t.cue.isOpen = false := by
  unfold installSettings at hi
  split at hi
  · cases hi
  · split at hi
    · cases hi
    · split at hi
      · cases hi
      next hw =>
        rw [← Except.ok.inj hi]
        obtain ⟨h', ho'⟩ := applyFaults_runsOk _ (writeSettings_runsOk h hw)
        exact ⟨h', ho'.trans ((writeSettings_isOpen hw).trans ho)⟩

theorem installRecord_runsOk {table : Table} {payload : List Byte} (h : RunsOk s) (ho : s.cue.isOpen = false)
    (hi : installRecord table payload s = .ok t) : RunsOk t ∧ t.cue.isOpen = false := by
  have fields : ∀ table : Table, (match whole (readFields table payload) with
      | .error st => .error st
      | .ok w => writeRecord w s) = Except.ok t → RunsOk t ∧ t.cue.isOpen = false := by
    intro table hi
    split at hi
    · cases hi
    · exact ⟨writeRecord_runsOk h hi, (writeRecord_isOpen hi).trans ho⟩
  cases table with
  | songs => exact installSong_runsOk h ho hi
  | settings => exact installSettings_runsOk h ho hi
  | segments => exact fields _ hi
  | patches => exact fields _ hi
  | cues => exact fields _ hi
  | chairs => exact fields _ hi
  | roles => exact fields _ hi

theorem recordInstall_runsOk (code : Byte) (length : BitVec 16) (payload : List Byte) (h : RunsOk s) :
    RunsOk (recordInstall code length payload s) := by
  unfold recordInstall
  split
  next hst _ =>
    have shut := shut_of_busy h hst rfl
    split
    · split
      · exact failLoad_runsOk _ shut
      · split
        · exact failLoad_runsOk _ shut
        · dsimp only
          split
          · have failed := failLoad_shut .brokenReference shut
            have hb := failLoad_sound .brokenReference s
            generalize failLoad .brokenReference s = x at failed hb
            exact runsOk_of_shut (shut_of_frame failed rfl rfl) hb
          next s' hi =>
            obtain ⟨h', ho'⟩ := installRecord_runsOk h shut.isOpen hi
            exact runsOk_of_closed h' ho' rfl rfl rfl
    · exact h
  · exact h

theorem endOperation_runsOk (st : LoaderState) (r : LoaderResult) (h : RunsOk s) (ho : s.cue.isOpen = false) :
    RunsOk (endOperation st r s) := runsOk_of_closed h ho rfl rfl rfl

theorem bodyEnd_runsOk (h : RunsOk s) : RunsOk (bodyEnd s) := by
  unfold bodyEnd
  split
  next hst _ =>
    have shut := shut_of_busy h hst rfl
    split
    · split
      · exact failLoad_runsOk _ shut
      · split
        · exact failLoad_runsOk _ shut
        · exact endOperation_runsOk _ _ h shut.isOpen
    · exact h
  · exact h

/-- The loader's steps of a save are taken with the show closed, and write neither the book nor the run states (R182). -/
theorem save_runsOk (readBack : List Byte) (h : RunsOk s) :
    RunsOk (eraseDone readBack s) ∧ RunsOk (eraseTimeout s) ∧ RunsOk (recordWritten readBack s) ∧
      RunsOk (programTimeout s) ∧ RunsOk (headerWritten readBack s) := by
  have failed : s.cue.isOpen = false → RunsOk (failSave s) := endOperation_runsOk _ _ h
  have shut : ∀ {st : LoaderState}, s.loader.report.state = st → st.runs = true → s.cue.isOpen = false :=
    fun hst hr => (shut_of_busy h hst hr).isOpen
  refine ⟨?_, ?_, ?_, ?_, ?_⟩
  · unfold eraseDone
    split
    next hst =>
      split
      · exact runsOk_of_closed h (shut hst rfl) rfl rfl rfl
      · exact failed (shut hst rfl)
    · exact h
  · unfold eraseTimeout
    split
    next hst => exact failed (shut hst.1 rfl)
    · exact h
  · unfold recordWritten
    split
    next hst =>
      split
      · split
        · exact runsOk_of_closed h (shut hst rfl) rfl rfl rfl
        · exact failed (shut hst rfl)
      · exact h
    · exact h
  · unfold programTimeout
    split
    next hst => exact failed (shut hst.1 rfl)
    · exact h
  · unfold headerWritten
    split
    next hst =>
      split
      · exact endOperation_runsOk _ _ h (shut hst.1 rfl)
      · exact failed (shut hst.1 rfl)
    · exact h

theorem operationCheck_closed {slot : Nat} (h : operationCheck slot s = none) : s.cue.isOpen = false := by
  unfold operationCheck at h
  split at h
  · cases h
  · split at h
    · cases h
    next ho => simpa using ho

/-! ## Every decision and every event -/

theorem resetBlocks_shut (b : Book) (s : State) : Shut (resetBlocks b s) :=
  ⟨rfl, rfl, rfl, fun c r n hw => by
    have empty : (resetBlocks b s).patch[c] = Dispatch.initial := Vector.getElem_replicate c.isLt
    rw [empty] at hw
    cases hw⟩

theorem decideFaultSet_runsOk (source window action : Nat) (h : RunsOk s) :
    RunsOk (decideFaultSet source window action s).1 := by
  unfold decideFaultSet
  split
  · exact h
  · split
    · exact h
    · split
      · exact h
      · exact runsOk_revise (runsOk_of_view (applyFault_view ..) (runsOk_tables h rfl rfl rfl rfl))

/-- Every decision keeps the run states sound. -/
theorem decision_runsOk (i : Instr) (d : State → Decision) (s : State) (hd : decisionOf i = some d) (h : RunsOk s) :
    RunsOk (d s).1 := by
  have hb := decision_sound i d s hd h.core.book
  have cursor : ∀ table pos, RunsOk { s with book := { s.book with cursorTable := table, cursorPos := pos } } :=
    fun _ _ => runsOk_tables h rfl rfl rfl rfl
  cases i <;> cases hd
  case recordWrite w => exact bookChange_runsOk (writeRecord_runsOk h) h
  case recordRead k =>
    simp only [decideRead]
    split
    · exact h
    · split
      · exact h
      · split <;> exact h
  case recordRetire k =>
    have from_ := bookChange_runsOk (change := retireFrom k) (retireFrom_runsOk h) h
    cases k
    case chair | role | settings => exact h
    all_goals exact from_
  case cursorSet k =>
    simp only [decideCursorSet]
    split
    · exact h
    · split
      · exact h
      · exact cursor _ _
  case cursorRead =>
    simp only [decideCursorRead]
    split
    · exact h
    · split
      · exact cursor _ _
      · exact h
  case bookClear =>
    simp only [decideClear] at hb ⊢
    by_cases ho : s.cue.isOpen = true
    · rw [if_pos ho]; exact h
    · rw [if_neg ho] at hb ⊢
      by_cases hbusy : s.busy = true
      · rw [if_pos hbusy]; exact h
      · rw [if_neg hbusy] at hb ⊢
        have shut := forgetFired_shut (clearBook_shut (shut_of_runsOk h (by simpa using ho)))
        exact runsOk_of_shut shut hb
  case bookInfo => simp only [decideInfo]; split <;> exact h
  case bookLoad slot =>
    simp only [decideLoad]
    split
    · exact h
    next hcheck => exact runsOk_of_closed h (operationCheck_closed hcheck) rfl rfl rfl
  case bookSave slot =>
    simp only [decideSave]
    split
    · exact h
    next hcheck => exact runsOk_of_closed h (operationCheck_closed hcheck) rfl rfl rfl
  case castSet role key => exact bookChange_runsOk (writeRecord_runsOk (w := .role role key) h) h
  case songCut n => exact decideRunning_runsOk n .cut (.inl ⟨rfl, rfl⟩) h
  case songRestore n => exact decideRunning_runsOk n .playing (.inr ⟨rfl, rfl⟩) h
  case showOpen =>
    simp only [decideShowOpen]
    split
    · exact h
    next ho =>
      split
      · exact h
      next hbusy => exact openShow_runsOk h (by simpa using ho) (by simpa using hbusy)
  case showClose =>
    simp only [decideShowClose]
    split
    · exact closeShow_runsOk h
    · exact h
  case go => exact runsOk_of_outside (decideGo_within .control h) (decideGo_outside ..)
  case standbySet major minor => exact decideStandbySet_runsOk major minor h
  case standbyNext => exact decideMove_runsOk (standbyNext_runsOk h) h
  case standbyBack => exact decideMove_runsOk (standbyBack_runsOk h) h
  case vampRelease =>
    simp only [decideVampRelease]
    split
    · exact h
    · split
      · exact h
      · split
        · exact runsOk_of_view (vampRelease_view s) h
        · exact h
  case stop =>
    simp only [decideStop]
    split
    · exact runsOk_of_view (stopRequest_view s .host) h
    · exact h
  case resume major minor bars => exact decideResume_runsOk major minor bars h
  case stationSet w => exact bookChange_runsOk (writeRecord_runsOk (w := .chair w) h) h
  case rigWrite chair entries =>
    refine runsOk_of_outside ?_ (decideRig_outside ..)
    unfold decideRig
    split
    · exact h
    · split
      · exact h
      · split
        · exact takeOther_within _ h fun _ => rfl
        · exact h
  case realign chair =>
    simp only [decideRealign]
    split
    · exact h
    · exact runsOk_of_view (realignChair_view ..) h
  case videoSelect mode =>
    simp only [decideVideo]
    split
    · exact h
    · exact runsOk_of_view (setVideoMode_view ..) h
  case faultSet source window action => exact decideFaultSet_runsOk source window action h
  case faultRead source =>
    simp only [decideFaultRead]
    split
    · exact h
    · split <;> exact h
  case faultClear => exact runsOk_of_view (s := s) rfl h
  case padReseed => exact runsOk_of_view (reseedPad_view s) h
  case statusRead part chair =>
    simp only [decideStatus]
    split
    · exact h
    · exact runsOk_of_view (s := s) rfl h
  case eventMask mask =>
    simp only [decideMask]
    split
    · exact h
    · exact runsOk_of_view (s := s) rfl h
  case stopRecordRead => exact h
  case systemReset => exact runsOk_of_shut (shut_of_frame (resetBlocks_shut s.bookAfterReset s) rfl rfl) hb

/-- Every event keeps the run states sound. -/
theorem event_runsOk (i : Instr) (f : State → State) (s : State) (hf : eventOf i = some f) (h : RunsOk s) :
    RunsOk (f s) := by
  have save := fun readBack => save_runsOk readBack h
  cases i <;> cases hf
  case ownerAnswer => exact runsOk_of_view (ownerAnswer_view s) h
  case beatProduction => exact runsOk_of_outside (beatReached_within h) (beatReached_outside s)
  case songEnd => exact runsOk_of_outside (songEnd_within h) (songEnd_outside s)
  case barTrigger => exact runsOk_of_outside (barTrigger_within h) (barTrigger_outside s)
  case followTimerExpiry => exact runsOk_of_outside (followExpiry_within h) (followExpiry_outside s)
  case goGuardExpiry => exact runsOk_of_view (guardExpiry_view s) h
  case countInBeat => exact runsOk_of_view (countInBeat_view s) h
  case countInEnd => exact runsOk_of_within (countInEnd_within h) (countInEnd_book s)
  case syncLock => exact runsOk_of_view (runsView_clock ..) h
  case syncUnlock => exact runsOk_of_view (runsView_clock ..) h
  case clickSend c => exact runsOk_of_view (sendClick_view s c) h
  case patchTimeout c => exact runsOk_of_outside (patchTimeout_within h) (patchTimeout_outside s c)
  case probePeriod c => exact runsOk_of_view (probePeriod_view s c) h
  case probeLost c => exact runsOk_of_view (probeLost_view s c) h
  case lineActivity c => exact runsOk_of_view (lineActivity_view s c) h
  case holdOffExpiry c => exact runsOk_of_view (holdOffExpiry_view s c) h
  case trainFrame c => exact runsOk_of_view (trainFrame_view s c) h
  case trainingTimeout c => exact runsOk_of_view (trainingTimeout_view s c) h
  case silenceTimeout c => exact silenceTimeout_runsOk c h
  case leakStep => exact runsOk_of_view (leakStep_view s) h
  case uplinkDamaged c bytes => exact arrive_runsOk _ _ h
  case hello c seq version latency flags => exact arrive_runsOk _ _ h
  case goPress c seq => exact arrive_runsOk _ _ h
  case patchAck c seq tag result => exact arrive_runsOk _ _ h
  case echo c seq id turnaround => exact arrive_runsOk _ _ h
  case idle c seq => exact arrive_runsOk _ _ h
  case downlinkGrant c => exact runsOk_of_view (grant_view s c) h
  case cameraFrameStart cam => exact runsOk_of_view (frameStart_view s cam) h
  case cameraFrameArrival cam widths image => exact runsOk_of_view (frameArrival_view ..) h
  case signalWatchExpiry cam => exact runsOk_of_view (signalWatchExpiry_view s cam) h
  case failoverExpiry => exact runsOk_of_view (failoverExpiry_view s) h
  case outputFrameBoundary => exact runsOk_of_view (frameBoundary_view s) h
  case padSample bytes => exact padFrame_runsOk bytes h
  case padLoss => exact runsOk_of_view (padLoss_view s) h
  case holdPoint => exact runsOk_of_view (holdPointReached_view s) h
  case stopPoint => exact runsOk_of_view (stopPointReached_view s) h
  case stopLineDebounce => exact runsOk_of_view (lineDebounce_view s) h
  case faultSampleStep => exact runsOk_of_view (sampleStep_view s) h
  case armingExpiry => exact runsOk_of_view (armingExpiry_view s) h
  case imageHeaderRead bytes => exact headerRead_runsOk bytes h
  case imageRecordInstall code length payload => exact recordInstall_runsOk code length payload h
  case imageBodyEnd => exact bodyEnd_runsOk h
  case slotEraseDone readBack => exact (save readBack).1
  case eraseTimeout => exact (save []).2.1
  case imageRecordWrite readBack => exact (save readBack).2.2.1
  case programTimeout => exact (save []).2.2.2.1
  case imageHeaderWrite readBack => exact (save readBack).2.2.2.2

theorem assertReset_runsOk (h : RunsOk s) : RunsOk (assertReset s) := by
  have loader : (if s.busy = true then Loader.initial else s.loader).report.state.runs = true → s.cue.isOpen = false := by
    split
    · intro hr; cases hr
    · exact h.core.busy
  exact ⟨⟨h.core.book, h.core.shut, loader, h.core.entries, h.core.waits, h.core.held, h.core.firing⟩,
    ⟨h.standby.shut, h.standby.only, h.standby.cue, h.standby.fired⟩⟩

/-- Sound run states are kept by every part of a step. -/
theorem kept_runsOk : Kept RunsOk where
  queue := fun s _ h => runsOk_of_view (s := s) rfl h
  time := fun s _ h => runsOk_of_view (s := s) rfl h
  port := fun s _ h => runsOk_of_view (s := s) rfl h
  stop := fun s _ h => runsOk_of_view (s := s) rfl h
  decision := decision_runsOk
  event := event_runsOk
  powerOn := fun boot s _ => by
    have shut := resetBlocks_shut Book.empty s
    unfold powerOn
    dsimp only
    split
    · exact runsOk_of_shut (shut_of_frame shut rfl rfl) empty_sound
    · exact runsOk_of_shut (shut_of_frame shut rfl rfl) empty_sound
  assertReset := fun _ h => assertReset_runsOk h

/-- Settles O59, from what each decision and each event keeps. -/
theorem everyStepKeepsTheRunStatesSound : Obligations.EveryStepKeepsTheRunStatesSound :=
  fun s t hb hr ht => ((runsWithin_iff t).1 (kept_runsOk.step_keeps ((runsWithin_iff s).2 ⟨hb, hr⟩) ht)).2

end Sys2Proof.Proofs

/-! PROOFS. The reset state (R189), and what a write or a retirement that is taken or refused leaves (R11 to R19). -/

namespace Sys2Proof.Proofs

open Sys2Proof.Machine Sys2Proof.Laws

variable {s t u : State}

/-! ## The reset state (R189) -/

theorem reset_source (i : Source) : State.reset.faults.sources[i] = { window := [], live := false, held := false } :=
  Vector.getElem_replicate i.isLt

theorem reset_buffer (j : Fin 3) : State.reset.video.buffers[j] = .free := Vector.getElem_replicate j.isLt

theorem reset_patch (c : Chair) : State.reset.patch[c] = Dispatch.initial := Vector.getElem_replicate c.isLt

theorem reset_faultsSound : State.reset.faultsSound := by
  have quiet : ∀ i : Source, State.reset.faults.sources[i].live = false := fun i => by rw [reset_source]
  exact ⟨fun i h => absurd ((quiet i).symm.trans h) (by simp), fun _ => ⟨rfl, rfl, quiet⟩⟩

theorem reset_runsSound : State.reset.runsSound := by
  have shut : Shut State.reset := ⟨rfl, rfl, rfl, fun c r n hw => by rw [reset_patch] at hw; cases hw⟩
  exact ((runsWithin_iff _).1 (runsOk_of_shut shut empty_sound)).2

theorem reset_videoSound : State.reset.videoSound where
  shown := fun j _ _ _ h => by rw [reset_buffer] at h; cases h
  complete := fun j _ _ _ h => by rw [reset_buffer] at h; cases h
  filling := fun j _ _ _ h => by rw [reset_buffer] at h; cases h
  failover := fun h => absurd rfl h
  due := fun h => nomatch h
  hold := ⟨fun h => absurd rfl h, fun h => nomatch h⟩
  revert := fun h => absurd rfl h
  lockTicks := fun c h => by cases c <;> cases h

/-- Settles O60: each invariant holds of the reset values of its block. -/
theorem resetMeetsTheInvariants : Obligations.ResetMeetsTheInvariants :=
  ⟨reset_faultsSound, fun _ => ⟨rfl, rfl⟩, empty_sound, reset_runsSound, reset_videoSound, rfl, rfl,
    fun i => by rw [reset_source]⟩

/-! ## A change of the book at the port (R11) -/

theorem bookChange_refused {change : State → Except Status State} {st : Status} (ha : s.accepts) (hb : s.busy = false)
    (h : change s.taking = .error st) : request (bookChange change) s = .next (owing (plain st) s.taking) := by
  have hb' : s.taking.busy = false := hb
  exact request_refused ha (by simp only [bookChange, hb', h, Bool.false_eq_true, if_false])

theorem bookChange_taken {change : State → Except Status State} (ha : s.accepts) (hb : s.busy = false)
    (h : change s.taking = .ok t) : request (bookChange change) s = .next (owing (plain .ok) (revise t)) := by
  have hb' : s.taking.busy = false := hb
  exact request_decided ha (by simp only [bookChange, hb', h, Bool.false_eq_true, if_false])

/-! ## Frames: what moves with the run states, and what moves with a write -/

/-- The state without the run states, the standby, the held cue and the follow timers. -/
def aroundRuns (s : State) : State :=
  { s with
    cue := { s.cue with runs := [], standby := none, held := none, timers := [] }
    overlay := { s.overlay with standby := none } }

/-- A frame holds of a walk along a list if it holds of each of its steps. -/
theorem aroundRuns_foldl {α : Type} {f : State → α → State} (h : ∀ s x, aroundRuns (f s x) = aroundRuns s) (l : List α)
    (s : State) : aroundRuns (l.foldl f s) = aroundRuns s := by
  induction l generalizing s with
  | nil => rfl
  | cons x xs ih => exact (ih (f s x)).trans (h s x)

theorem setRun_around (n : CueNumber) (st : RunState) (s : State) : aroundRuns (setRun n st s) = aroundRuns s := by
  rw [setRun_eq]; split <;> rfl

theorem passCue_around (n : CueNumber) (s : State) : aroundRuns (passCue n s) = aroundRuns s := setRun_around n .passed s

theorem placeStandby_around (x : Option CueNumber) (s : State) : aroundRuns (placeStandby x s) = aroundRuns s := by
  cases x with
  | none => rfl
  | some m => exact setRun_around m .standby (standbyField (some m) s)

theorem createRun_around (q : Cue) (s : State) : aroundRuns (createRun q s) = aroundRuns s := by
  rw [createRun_eq]
  split
  · split
    · exact placeStandby_around ..
    · rfl
  · rfl

theorem amendRun_around (q : Cue) (s : State) : aroundRuns (amendRun q s) = aroundRuns s := by
  unfold amendRun
  split
  · split
    · exact passCue_around ..
    · split <;> rfl
  · rfl

theorem dropRun_around (n : CueNumber) (s : State) : aroundRuns (dropRun n s) = aroundRuns s := by
  unfold dropRun
  dsimp only
  split <;> rfl

/-- What a change of the run states writes: the cue's and the overlay's fields, and of the Cue Engine four. -/
theorem eq_of_around (h : aroundRuns t = aroundRuns s) :
    t = { s with cue := t.cue, overlay := t.overlay } ∧
      t.cue = { s.cue with runs := t.cue.runs, standby := t.cue.standby, held := t.cue.held, timers := t.cue.timers } := by
  obtain ⟨pending, resetHeld, time, book, cue, clock, clicks, due, patch, links, leakDue, pad, video, overlay, faults, stop,
    loader, port⟩ := s
  obtain ⟨pending', resetHeld', time', book', cue', clock', clicks', due', patch', links', leakDue', pad', video', overlay',
    faults', stop', loader', port'⟩ := t
  simp only [aroundRuns, State.mk.injEq, CueEngine.mk.injEq] at h
  obtain ⟨rfl, rfl, rfl, rfl, hcue, rfl, rfl, rfl, rfl, rfl, rfl, rfl, rfl, -, rfl, rfl, rfl, rfl⟩ := h
  refine ⟨rfl, ?_⟩
  obtain ⟨hopen, -, -, -, hcandidate, -, htriggers, hguard, hfired, hcompletion, hpad, hchair⟩ := hcue
  cases cue'
  simp_all

/-- The state without the Video Switch. -/
def aroundVideo (s : State) : State := { s with video := Video.initial .f25 }

theorem updateRevert_around (s : State) : aroundVideo (updateRevert s) = aroundVideo s := by
  unfold updateRevert
  split
  · split <;> rfl
  · rfl

theorem moveFailover_around (c : Camera) (old new : CameraState) (s : State) :
    aroundVideo (moveFailover c old new s) = aroundVideo s := by
  unfold moveFailover
  split
  · split
    · rfl
    · split <;> rfl
  · rfl

theorem setCameraState_around (c : Camera) (st : CameraState) (s : State) :
    aroundVideo (setCameraState c st s) = aroundVideo s :=
  (updateRevert_around _).trans (moveFailover_around ..)

theorem recompareCam_around (c : Camera) (s : State) : aroundVideo (recompareCam s c) = aroundVideo s := by
  unfold recompareCam
  dsimp only
  split
  · exact setCameraState_around ..
  · rfl

theorem videoSettings_around (old : Settings) (s : State) : aroundVideo (videoSettings old s) = aroundVideo s := by
  unfold videoSettings
  refine (updateRevert_around _).trans ?_
  split
  · rfl
  · exact (recompareCam_around ..).trans (recompareCam_around ..)

/-- The part of the state that no write and no retirement changes; of the book its revision count, which the port raises,
and of the port its flags. -/
def besideWrites (s : State) : State :=
  { s with
    book := { Book.empty with revision := s.book.revision }
    cue := CueEngine.initial
    clicks := Vector.replicate 16 ClickChair.initial
    patch := Vector.replicate 16 Dispatch.initial
    video := Video.initial .f25
    overlay := Overlay.initial }

theorem beside_of_around (h : aroundRuns t = aroundRuns s) : besideWrites t = besideWrites s := by
  have viewed : ∀ x, besideWrites x = besideWrites (aroundRuns x) := fun _ => rfl
  rw [viewed t, h, ← viewed s]

theorem beside_of_aroundVideo (h : aroundVideo t = aroundVideo s) : besideWrites t = besideWrites s := by
  have viewed : ∀ x, besideWrites x = besideWrites (aroundVideo x) := fun _ => rfl
  rw [viewed t, h, ← viewed s]

theorem writeRecord_beside {w : RecordWrite} (h : writeRecord w s = .ok t) : besideWrites t = besideWrites s := by
  cases w with
  | song w => obtain ⟨-, rfl⟩ := writeSong_cases h; rfl
  | segment w => obtain ⟨g, r, -, -, -, rfl⟩ := writeSegment_cases h; rfl
  | patch w => obtain ⟨p, -, rfl⟩ := writePatch_cases h; rfl
  | cue w =>
    obtain ⟨q, -, -, -, -, rfl⟩ := writeCue_cases h
    split
    · exact (beside_of_around (createRun_around ..)).trans rfl
    · exact (beside_of_around (amendRun_around ..)).trans rfl
  | chair w =>
    obtain ⟨c, r, rfl⟩ := writeChair_cases h
    unfold takeTrims
    split <;> rfl
  | role role key => obtain ⟨i, v, rfl⟩ := writeRole_cases h; rfl
  | settings w =>
    obtain ⟨set, rfl⟩ := writeSettings_cases h
    exact (beside_of_aroundVideo (videoSettings_around ..)).trans rfl

theorem retireFrom_beside {k : RecordKey} (h : retireFrom k s = .ok t) : besideWrites t = besideWrites s := by
  rcases retireFrom_cases h with ⟨n, h⟩ | ⟨song, bar, h⟩ | ⟨c, n, h⟩ | ⟨n, h⟩
  · obtain ⟨r, -, -, rfl⟩ := retireSong_cases h; rfl
  · rw [retireSegment_cases h]; rfl
  · obtain ⟨p, -, -, rfl⟩ := retirePatch_cases h; rfl
  · obtain ⟨-, rfl⟩ := retireCue_cases h
    exact (beside_of_around (dropRun_around ..)).trans rfl

/-! ## Every write and retirement is taken whole or not at all (R11, R19) -/

theorem writeRecord_refusal {w : RecordWrite} {st : Status} (h : writeRecord w s = .error st) : st ≠ .ok := by
  rintro rfl
  cases w with
  | song w => simp only [writeRecord, writeSong] at h; (repeat' split at h) <;> simp at h
  | segment w => simp only [writeRecord, writeSegment] at h; (repeat' split at h) <;> simp at h
  | patch w => simp only [writeRecord, writePatch] at h; (repeat' split at h) <;> simp at h
  | cue w => simp only [writeRecord, writeCue] at h; (repeat' split at h) <;> simp at h
  | chair w => simp only [writeRecord, writeChair] at h; (repeat' split at h) <;> simp at h
  | role role key => simp only [writeRecord, writeRole] at h; (repeat' split at h) <;> simp at h
  | settings w => simp only [writeRecord, writeSettings] at h; (repeat' split at h) <;> simp at h

theorem retireFrom_refusal {k : RecordKey} {st : Status} (h : retireFrom k s = .error st) : st ≠ .ok := by
  rintro rfl
  simp only [retireFrom, retireSong, retireSegment, retirePatch, retireCue] at h
  (repeat' split at h) <;> simp at h

/-- What a write or a retirement makes of a request: a refusal, or a change that leaves everything beside it. -/
def Whole (s t : State) : Prop :=
  (∃ st : Status, st ≠ .ok ∧ t = owing (plain st) s.taking) ∨
    (t.port.owed = some (plain .ok) ∧ t.book.revision = (s.book.revision + 1) % 65536 ∧
      t.clock = s.clock ∧ t.links = s.links ∧ t.pad = s.pad ∧ t.faults = s.faults ∧ t.stop = s.stop ∧
      t.due = s.due ∧ t.time = s.time ∧ t.loader = s.loader ∧ t.port.flags = s.port.flags)

theorem bookChange_whole {change : State → Except Status State} (ha : s.accepts)
    (hrefuse : ∀ {st}, change s.taking = .error st → st ≠ .ok)
    (htake : ∀ {u}, change s.taking = .ok u → besideWrites u = besideWrites s.taking) :
    ∃ t, request (bookChange change) s = .next t ∧ Whole s t := by
  by_cases hb : s.busy = true
  · have hb' : s.taking.busy = true := hb
    exact ⟨_, request_refused ha (st := .busy) (by simp only [bookChange, hb', if_true]), .inl ⟨.busy, by simp, rfl⟩⟩
  · have hb : s.busy = false := by simpa using hb
    cases hc : change s.taking with
    | error st => exact ⟨_, bookChange_refused ha hb hc, .inl ⟨st, hrefuse hc, rfl⟩⟩
    | ok u =>
      have h := htake hc
      have revision : u.book.revision = s.book.revision := congrArg (fun x => x.book.revision) h
      refine ⟨_, bookChange_taken ha hb hc, .inr ⟨rfl, ?_, (congrArg State.clock h :), (congrArg State.links h :),
        (congrArg State.pad h :), (congrArg State.faults h :), (congrArg State.stop h :), (congrArg State.due h :), (congrArg State.time h :),
        (congrArg State.loader h :), (congrArg (fun x => x.port.flags) h :)⟩⟩
      show (u.book.revision + 1) % 65536 = _
      rw [revision]

/-- Settles O13: every such request is a change of the book at the port, which is refused or taken whole. -/
theorem writesAreTakenWholeOrNotAtAll : Obligations.WritesAreTakenWholeOrNotAtAll := by
  intro i s ha hi
  have write : ∀ w : RecordWrite, ∃ t, request (bookChange (writeRecord w)) s = .next t ∧ Whole s t := fun w =>
    bookChange_whole ha writeRecord_refusal writeRecord_beside
  rcases hi with ⟨w, rfl⟩ | ⟨k, rfl⟩ | ⟨w, rfl⟩ | ⟨role, key, rfl⟩
  · exact write w
  · have fixed : decideRetire k = refuse .invalid → ∃ t, exec (.recordRetire k) s = .next t ∧ Whole s t := fun hk =>
      ⟨_, request_refused ha (st := .invalid) (by rw [hk]), .inl ⟨.invalid, by simp, rfl⟩⟩
    have retire := bookChange_whole (change := retireFrom k) ha retireFrom_refusal retireFrom_beside
    cases k with
    | chair n => exact fixed rfl
    | role n => exact fixed rfl
    | settings => exact fixed rfl
    | song n => exact retire
    | segment song bar => exact retire
    | patch chair n => exact retire
    | cue major minor => exact retire
  · exact write (.chair w)
  · exact write (.role role key)

end Sys2Proof.Proofs

/-! PROOFS. Writes of songs, segments, patches and fixed records (R3, R7, R10 to R13, R16 to R18, R88, R137, R142). -/

namespace Sys2Proof.Proofs

open Sys2Proof.Machine Sys2Proof.Laws

variable {s t : State}

/-! ## Song writes (R11, R12) -/

theorem isCurrentSong_iff (s : State) (n : Nat) : s.isCurrentSong n = true ↔ s.currentSong = some n := by
  simp [State.isCurrentSong]

/-- The write changes the bars or the key role of the clock's current song (R12). -/
theorem songLocked_iff (s : State) (w : SongWrite) : s.songLocked w = true ↔
    ∃ r : Song, s.currentSong = some w.number ∧ s.book.song? w.number = some r ∧
      (r.firstBar ≠ w.firstBar ∨ r.lastBar ≠ w.lastBar ∨ r.keyRole ≠ w.keyRole) := by
  simp only [State.songLocked, Bool.and_eq_true, isCurrentSong_iff]
  cases s.book.song? w.number with
  | none => simp
  | some r => simp [or_assoc]

theorem writeSong_invalid {w : SongWrite} (hw : songWriteOk w = true) (hi : s.book.songInvalid w = true) :
    writeSong w s = .error .invalid := by simp [writeSong, hw, hi]

theorem writeSong_locked {w : SongWrite} (hw : songWriteOk w = true) (hi : s.book.songInvalid w = false)
    (hl : s.songLocked w = true) : writeSong w s = .error .inUse := by simp [writeSong, hw, hi, hl]

theorem writeSong_ok {w : SongWrite} (hw : songWriteOk w = true) (hi : s.book.songInvalid w = false)
    (hl : s.songLocked w = false) : writeSong w s = .ok { s with book := s.book.putSong (s.book.songRecord w) } := by
  simp [writeSong, hw, hi, hl]

/-- A created song is IN with no cues, and an amended one keeps both. -/
theorem songRecord_kept (b : Book) (w : SongWrite) :
    (b.song? w.number = none → (b.songRecord w).running = .playing ∧ (b.songRecord w).cueCount = 0) ∧
      ∀ old : Song, b.song? w.number = some old →
        (b.songRecord w).running = old.running ∧ (b.songRecord w).cueCount = old.cueCount :=
  ⟨fun h => by simp [Book.songRecord, h], fun old h => by simp [Book.songRecord, h]⟩

/-! ## Segment writes (R3, R11, R13) -/

/-- The write would alter the beats under way (R3). -/
theorem segmentLocked_iff (s : State) (g : Segment) : s.segmentLocked g = true ↔ s.altersTheBeatsUnderWay g := by
  unfold State.segmentLocked State.altersTheBeatsUnderWay State.segmentInForce
  by_cases hp : s.clock.state = .parked
  · simp [hp]
  · cases hpos : s.clock.pos with
    | none => simp
    | some pos =>
      cases hf : s.book.governing? pos.song pos.bar with
      | none => simp [hp, hf]
      | some f =>
        cases hseg : s.book.segment? g.song g.startBar <;> simp [hp, hf]

theorem writeSegment_notFound {w : SegmentWrite} {g : Segment} (hg : segmentOf w = some g)
    (hr : s.book.song? g.song = none) : writeSegment w s = .error .notFound := by simp [writeSegment, hg, hr]

theorem writeSegment_invalid {w : SegmentWrite} {g : Segment} {r : Song} (hg : segmentOf w = some g)
    (hr : s.book.song? g.song = some r) (hbar : r.has g.startBar = false) : writeSegment w s = .error .invalid := by
  simp [writeSegment, hg, hr, hbar]

section segment
variable {w : SegmentWrite} {g : Segment} {r : Song} (hg : segmentOf w = some g) (hr : s.book.song? g.song = some r)
  (hbar : r.has g.startBar = true)
include hg hr hbar

theorem writeSegment_locked (hl : s.segmentLocked g = true) : writeSegment w s = .error .inUse := by
  simp [writeSegment, hg, hr, hbar, hl]

theorem writeSegment_full (hl : s.segmentLocked g = false) (hf : s.book.segmentsFull g = true) :
    writeSegment w s = .error .full := by simp [writeSegment, hg, hr, hbar, hl, hf]

theorem writeSegment_ok (hl : s.segmentLocked g = false) (hf : s.book.segmentsFull g = false) :
    writeSegment w s = .ok { s with book := s.book.putSegment g } := by simp [writeSegment, hg, hr, hbar, hl, hf]

end segment

/-- Settles O9, from the checks of each write in their order, and the lookups after it. -/
theorem songAndSegmentWritesAreChecked : Obligations.SongAndSegmentWritesAreChecked := by
  refine ⟨fun w s ha hb hw => ⟨fun h => ?_, fun hbars hsegments hcues => ?_⟩, fun w g s ha hb hg => ⟨fun hr => ?_, fun r hr => ?_⟩⟩
  · have hi : s.book.songInvalid w = true := by
      by_contra hi
      obtain ⟨hbars, hsegments, hcues⟩ := (songInvalid_eq_false ..).1 (Bool.eq_false_iff.2 hi)
      rcases h with h | ⟨g, hg, hn, h⟩ | ⟨c, hc, bar, hout, h⟩
      · omega
      · have := hsegments g hg hn; omega
      · have := hcues c hc bar h; omega
    exact bookChange_refused ha hb (writeSong_invalid hw hi)
  · have hi : s.book.songInvalid w = false := (songInvalid_eq_false ..).2 ⟨hbars, hsegments, hcues⟩
    refine ⟨fun r hcur hr hchange => ?_, fun hkeep => ?_⟩
    · exact bookChange_refused ha hb (writeSong_locked hw hi ((songLocked_iff ..).2 ⟨r, hcur, hr, hchange⟩))
    · have hl : s.taking.songLocked w = false := by
        by_contra hl
        obtain ⟨r, hcur, hr, hchange⟩ := (songLocked_iff ..).1 (by simpa using hl)
        obtain ⟨h1, h2, h3⟩ := hkeep r hcur hr
        simp [h1, h2, h3] at hchange
      have song : ∀ n, (s.book.putSong (s.book.songRecord w)).revise.song? n =
          if n = w.number then some (s.book.songRecord w) else s.book.song? n := song?_putRecord s.book w
      refine ⟨(s.book.putSong (s.book.songRecord w)).revise, bookChange_taken ha hb (writeSong_ok hw hi hl), rfl,
        ⟨s.book.songRecord w, by rw [song, if_pos rfl], rfl, rfl, rfl, rfl, rfl, songRecord_kept s.book w⟩,
        fun n hn => by rw [song, if_neg hn]⟩
  · exact bookChange_refused ha hb (writeSegment_notFound hg hr)
  · refine ⟨fun hout => ?_, fun hfirst hlast => ⟨fun hl => ?_, fun hl hnew hfull => ?_, fun hl hroom => ?_⟩⟩
    · have hbar : r.has g.startBar = false := by
        by_contra hbar
        have := (has_iff ..).1 (Bool.not_eq_false _ ▸ hbar : r.has g.startBar = true)
        omega
      exact bookChange_refused ha hb (writeSegment_invalid hg hr hbar)
    all_goals have hbar := (has_iff r g.startBar).2 ⟨hfirst, hlast⟩
    · exact bookChange_refused ha hb (writeSegment_locked hg hr hbar ((segmentLocked_iff ..).2 hl))
    all_goals have hl : s.taking.segmentLocked g = false := Bool.eq_false_iff.2 fun h => hl ((segmentLocked_iff ..).1 h)
    · have hf : s.book.segmentsFull g = true := by
        by_contra hf
        rcases (segmentsFull_eq_false ..).1 (Bool.eq_false_iff.2 hf) with hold | ⟨h1, h2⟩
        · exact hold hnew
        · omega
      exact bookChange_refused ha hb (writeSegment_full hg hr hbar hl hf)
    · have hf : s.book.segmentsFull g = false := (segmentsFull_eq_false ..).2 hroom
      have segment : ∀ song bar, (s.book.putSegment g).revise.segment? song bar =
          if song = g.song ∧ bar = g.startBar then some g else s.book.segment? song bar := segment?_putSegment s.book g
      exact ⟨(s.book.putSegment g).revise, bookChange_taken ha hb (writeSegment_ok hg hr hbar hl hf), rfl,
        by rw [segment, if_pos ⟨rfl, rfl⟩], fun song bar h => by rw [segment, if_neg h]⟩

/-! ## Patch writes (R7, R11, R16) -/

theorem writePatch_full {w : PatchWrite} {p : Patch} (hp : patchOf w = some p) (hf : s.book.patchesFull p = true) :
    writePatch w s = .error .full := by simp [writePatch, hp, hf]

theorem writePatch_ok {w : PatchWrite} {p : Patch} (hp : patchOf w = some p) (hf : s.book.patchesFull p = false) :
    writePatch w s = .ok { s with book := s.book.putPatch (s.book.patchRecord p) } := by simp [writePatch, hp, hf]

/-- Settles O10, from the patch table's lookups and the sum over a table into which one record is put. -/
theorem patchWriteKeepsThePool : Obligations.PatchWriteKeepsThePool := by
  intro w p s ha hb hp keys
  refine ⟨fun hfull => ?_, fun hpool hroom => ?_⟩
  · have hf : s.book.patchesFull p = true := by
      by_contra hf
      obtain ⟨hroom, hpool⟩ := (patchesFull_eq_false ..).1 (Bool.eq_false_iff.2 hf)
      rcases hfull with ⟨h1, h2⟩ | ⟨h1, h2⟩
      · omega
      · rcases hroom with hroom | hroom
        · exact hroom h1
        · omega
    exact bookChange_refused ha hb (writePatch_full hp hf)
  · have hf : s.book.patchesFull p = false := (patchesFull_eq_false ..).2 ⟨hroom, hpool⟩
    have one : AtMostOne (fun x : Patch => decide (x.chair = p.chair) && decide (x.number = p.number)) s.book.patches :=
      .of_keys keys fun y z hyz hy => by
        simp only [Bool.and_eq_true, decide_eq_true_eq] at hy
        by_contra hz
        simp only [Bool.not_eq_false, Bool.and_eq_true, decide_eq_true_eq] at hz
        exact hyz ⟨hy.1.trans hz.1.symm, hy.2.trans hz.2.symm⟩
    have patch : ∀ c n, (s.book.putPatch (s.book.patchRecord p)).revise.patch? c n =
        if c = p.chair ∧ n = p.number then some (s.book.patchRecord p) else s.book.patch? c n :=
      patch?_putRecord s.book p
    refine ⟨(s.book.putPatch (s.book.patchRecord p)).revise, bookChange_taken ha hb (writePatch_ok hp hf), rfl, fun hnew => ?_,
      fun old hold => ?_, fun c n h => by rw [patch, if_neg h], poolUse_putRecord one⟩
    · rw [patch, if_pos ⟨rfl, rfl⟩]
      simp [Book.patchRecord, hnew]
    · rw [patch, if_pos ⟨rfl, rfl⟩]
      simp [Book.patchRecord, hold]

end Sys2Proof.Proofs

/-! PROOFS. Writes of the chair, role and settings tables (R10, R17, R18, R88, R137, R142). -/

namespace Sys2Proof.Proofs

open Sys2Proof.Machine Sys2Proof.Laws

variable {s t : State}

/-! ## Chair records (R17, R88) -/

theorem set_getElem {α : Type} {n : Nat} (v : Vector α n) (i : Fin n) (x : α) (j : Fin n) :
    (v.set i.val x i.isLt)[j] = if j = i then x else v[j] := by
  simp only [Fin.getElem_fin, Vector.getElem_set]
  by_cases h : j = i
  · simp [h]
  · simp [h, show ¬i.val = j.val from fun e => h (Fin.ext e.symm)]

theorem chairLocked_iff (s : State) (c : Chair) (r : ChairRec) : s.chairLocked c r = true ↔
    s.book.chairs[c].enabled = true ∧ r.enabled = false ∧ s.patch[c].holdsAdHoc = true := by
  simp only [State.chairLocked, State.chairRec, Bool.and_eq_true, Bool.not_eq_true', and_assoc]

theorem writeChair_locked {w : ChairWrite} {c : Chair} {r : ChairRec} (hw : chairRecOf w = some (c, r))
    (hl : s.chairLocked c r = true) : writeChair w s = .error .inUse := by simp [writeChair, hw, hl]

theorem writeChair_ok {w : ChairWrite} {c : Chair} {r : ChairRec} (hw : chairRecOf w = some (c, r))
    (hl : s.chairLocked c r = false) :
    writeChair w s = .ok (takeTrims { s with book := s.book.putChair c r }) := by simp [writeChair, hw, hl]

theorem takeTrims_eq (s : State) : takeTrims s = { s with clicks := (takeTrims s).clicks } := by
  unfold takeTrims
  split <;> rfl

/-- The applied trims follow the records with the clock at rest, and are kept otherwise (R88). -/
theorem takeTrims_clicks (s : State) (d : Chair) : (takeTrims s).clicks[d] =
    if s.clock.state = .parked ∨ s.clock.state = .frozen then
      { s.clicks[d] with
        trim := s.book.chairs[d].trim, advance := advanceOf s.clicks[d].basis s.book.chairs[d].trim }
    else s.clicks[d] := by
  have rest : s.clockAtRest = true ↔ s.clock.state = .parked ∨ s.clock.state = .frozen := by simp [State.clockAtRest]
  simp only [← rest, takeTrims]
  split
  · exact tabulateChairs_getElem _ d
  · rfl

/-! ## Role records (R18) -/

theorem roleLocked_iff (s : State) (role : Nat) : s.roleLocked role = true ↔
    ∃ r : Song, s.cue.isOpen = true ∧ s.currentSong.bind s.book.song? = some r ∧ r.keyRole = some role := by
  unfold State.roleLocked
  cases s.currentSong.bind s.book.song? <;> simp

theorem writeRole_locked {role key : Nat} {i : Fin 32} {v : Variant} (hw : roleOf role key = some (i, v))
    (hl : s.roleLocked role = true) : writeRole role key s = .error .inUse := by simp [writeRole, hw, hl]

theorem writeRole_ok {role key : Nat} {i : Fin 32} {v : Variant} (hw : roleOf role key = some (i, v))
    (hl : s.roleLocked role = false) : writeRole role key s = .ok { s with book := s.book.putRole i v } := by
  simp [writeRole, hw, hl]

/-! ## The cameras under new settings (R137, R142) -/

theorem updateRevert_cam (s : State) (d : Camera) : (updateRevert s).video.cam d = s.video.cam d := by
  unfold updateRevert
  split
  · split
    · rfl
    · cases d <;> rfl
  · cases d <;> rfl

theorem moveFailover_cam (c : Camera) (old new : CameraState) (s : State) (d : Camera) :
    (moveFailover c old new s).video.cam d = s.video.cam d := by
  unfold moveFailover
  split
  · split
    · cases d <;> rfl
    · split
      · cases d <;> rfl
      · rfl
  · rfl

/-- A comparison moves one camera's state, and leaves its last measurement. -/
theorem setCameraState_cam (c : Camera) (st : CameraState) (s : State) (d : Camera) :
    (d ≠ c → (setCameraState c st s).video.cam d = s.video.cam d) ∧
      (d = c → ((setCameraState c st s).video.cam d).state = st ∧
        ((setCameraState c st s).video.cam d).previous = (s.video.cam d).previous) := by
  unfold setCameraState
  dsimp only
  rw [updateRevert_cam, moveFailover_cam]
  cases c <;> cases d <;> simp [Video.onCam, Video.cam]

/-- The state that a comparison with the expected size leaves a camera in (R137). -/
def comparedState (k : Cam) (size : Size) : CameraState :=
  if k.state = .locked ∨ k.state = .mismatch then (if k.locked = some size then .locked else .mismatch) else k.state

theorem recompareCam_cam (c : Camera) (s : State) (d : Camera) :
    (d ≠ c → (recompareCam s c).video.cam d = s.video.cam d) ∧
      (d = c → ((recompareCam s c).video.cam d).state = comparedState (s.video.cam d) s.book.settings.size ∧
        ((recompareCam s c).video.cam d).previous = (s.video.cam d).previous) := by
  unfold recompareCam comparedState
  dsimp only
  by_cases h : (s.video.cam c).state = .locked ∨ (s.video.cam c).state = .mismatch
  · rw [if_pos h]
    refine ⟨(setCameraState_cam ..).1, ?_⟩
    rintro rfl
    rw [if_pos h]
    exact (setCameraState_cam ..).2 rfl
  · rw [if_neg h]
    refine ⟨fun _ => rfl, ?_⟩
    rintro rfl
    rw [if_neg h]
    exact ⟨rfl, rfl⟩

/-- The cameras after the comparison of both. -/
def recompared (s : State) : State := recompareCam (recompareCam s .a) .b

theorem recompareCam_book (s : State) (c : Camera) : (recompareCam s c).book = s.book :=
  runsView_book (recompareCam_view s c)

theorem recompared_cam (s : State) (d : Camera) :
    ((recompared s).video.cam d).state = comparedState (s.video.cam d) s.book.settings.size ∧
      ((recompared s).video.cam d).previous = (s.video.cam d).previous := by
  unfold recompared
  cases d with
  | a =>
    rw [(recompareCam_cam .b _ .a).1 (by simp)]
    exact (recompareCam_cam .a s .a).2 rfl
  | b =>
    have h := (recompareCam_cam .b (recompareCam s .a) .b).2 rfl
    rw [recompareCam_book, (recompareCam_cam .a s .b).1 (by simp)] at h
    exact h

theorem aroundVideo_time (h : aroundVideo t = aroundVideo s) : t.time = s.time := (congrArg State.time h :)

/-- The Video Switch without its cameras, its failover expiry and its revert expiry. -/
def besideCams (v : Video) : Video :=
  { v with camA := Cam.initial, camB := Cam.initial, failover := none, revertExp := none }

theorem updateRevert_beside (s : State) : besideCams (updateRevert s).video = besideCams s.video := by
  unfold updateRevert
  split
  · split <;> rfl
  · rfl

theorem moveFailover_beside (c : Camera) (old new : CameraState) (s : State) :
    besideCams (moveFailover c old new s).video = besideCams s.video := by
  unfold moveFailover
  split
  · split
    · rfl
    · split <;> rfl
  · rfl

theorem recompareCam_beside (c : Camera) (s : State) : besideCams (recompareCam s c).video = besideCams s.video := by
  unfold recompareCam
  dsimp only
  split
  · unfold setCameraState
    dsimp only
    rw [updateRevert_beside, moveFailover_beside]
    cases c <;> rfl
  · rfl

/-- The four conditions of the revert expiry (R142). -/
abbrev revertHolds (s : State) : Prop :=
  s.video.sel = .bActive ∧ s.video.mode = .auto ∧ s.book.settings.autoRevert = true ∧ s.video.locks .a

theorem revertRuns_iff (s : State) : s.video.revertRuns s.book.settings.autoRevert = true ↔ revertHolds s := by
  simp [Video.revertRuns, revertHolds, and_assoc, Video.locks, Video.cam]

theorem updateRevert_revertExp (s : State) : (updateRevert s).video.revertExp =
    if revertHolds s then s.video.revertExp.or (some (s.time.tick + 240000#32)) else none := by
  simp only [← revertRuns_iff, updateRevert]
  split
  · cases h : s.video.revertExp
    · rfl
    · exact h
  · rfl

theorem revertHolds_congr (hb : t.book.settings.autoRevert = s.book.settings.autoRevert)
    (hv : besideCams t.video = besideCams s.video) (ha : (t.video.cam .a).state = (s.video.cam .a).state) :
    revertHolds t ↔ revertHolds s := by
  have hsel : t.video.sel = s.video.sel := congrArg (fun v => v.sel) hv
  have hmode : t.video.mode = s.video.mode := congrArg (fun v => v.mode) hv
  simp only [revertHolds, hb, hsel, hmode, Video.locks, ha]

theorem moveFailover_revertExp (c : Camera) (old new : CameraState) (s : State) :
    (moveFailover c old new s).video.revertExp = s.video.revertExp := by
  unfold moveFailover
  split
  · split
    · rfl
    · split <;> rfl
  · rfl

/-- A comparison leaves the revert expiry, or lets it follow its conditions. -/
theorem recompareCam_revertExp (c : Camera) (s : State) (h : revertHolds (recompareCam s c)) (x : Tick)
    (hx : x = s.time.tick + 240000#32) :
    (recompareCam s c).video.revertExp.or (some x) = s.video.revertExp.or (some x) := by
  subst hx
  have book := recompareCam_book s c
  unfold recompareCam at h book ⊢
  dsimp only at h book ⊢
  split at h
  next hc =>
    rw [if_pos hc]
    unfold setCameraState at h ⊢
    dsimp only at h ⊢
    generalize hm : moveFailover c _ _ _ = m at h ⊢
    have exp : m.video.revertExp = s.video.revertExp := by
      rw [← hm, moveFailover_revertExp]
      cases c <;> rfl
    have time : m.time = s.time := by
      rw [← hm]
      exact (aroundVideo_time (moveFailover_around ..)).trans rfl
    have holds : revertHolds m := by
      refine (revertHolds_congr ?_ (updateRevert_beside m) (by rw [updateRevert_cam])).1 h
      rw [runsView_book (updateRevert_view m)]
    rw [updateRevert_revertExp, if_pos holds, exp, time]
    cases s.video.revertExp <;> rfl
  next hc => rw [if_neg hc]

/-- What new settings leave in the Video Switch. -/
theorem videoSettings_eq (old : Settings) (s : State) :
    videoSettings old s = updateRevert (if old.size = s.book.settings.size then s else recompared s) := rfl

theorem compared_holds (s : State) (h : revertHolds (recompared s)) :
    (recompared s).video.revertExp.or (some (s.time.tick + 240000#32)) =
      s.video.revertExp.or (some (s.time.tick + 240000#32)) := by
  have time : (recompareCam s .a).time = s.time := aroundVideo_time (recompareCam_around .a s)
  have first : revertHolds (recompareCam s .a) := by
    refine (revertHolds_congr ?_ (recompareCam_beside .b _) ?_).1 h
    · rw [recompareCam_book]
    · rw [(recompareCam_cam .b _ .a).1 (by simp)]
  exact (recompareCam_revertExp .b (recompareCam s .a) h _ (by rw [time])).trans
    (recompareCam_revertExp .a s first _ rfl)

theorem videoSettings_revertExp (old : Settings) (s : State) : (videoSettings old s).video.revertExp =
    if revertHolds (videoSettings old s) then s.video.revertExp.or (some (s.time.tick + 240000#32)) else none := by
  have time : (recompared s).time = s.time :=
    aroundVideo_time ((recompareCam_around .b _).trans (recompareCam_around .a s))
  rw [videoSettings_eq]
  generalize hu : (if old.size = s.book.settings.size then s else recompared s) = u
  have same : revertHolds (updateRevert u) ↔ revertHolds u := by
    refine revertHolds_congr ?_ (updateRevert_beside u) (by rw [updateRevert_cam])
    rw [runsView_book (updateRevert_view u)]
  rw [updateRevert_revertExp]
  simp only [same]
  split
  next h =>
    split at hu
    · rw [← hu]
    · subst hu
      rw [time]
      exact compared_holds s h
  · rfl

theorem videoSettings_cam (old : Settings) (s : State) (d : Camera) :
    ((videoSettings old s).video.cam d).state =
        (if s.book.settings.size ≠ old.size ∧ ((s.video.cam d).state = .locked ∨ (s.video.cam d).state = .mismatch) then
          (if (s.video.cam d).locked = some s.book.settings.size then .locked else .mismatch)
        else (s.video.cam d).state) ∧
      ((videoSettings old s).video.cam d).previous = (s.video.cam d).previous := by
  rw [videoSettings_eq, updateRevert_cam]
  by_cases h : old.size = s.book.settings.size
  · rw [if_pos h]
    simp [h]
  · rw [if_neg h]
    obtain ⟨hstate, hprevious⟩ := recompared_cam s d
    rw [hstate, hprevious, comparedState]
    simp only [ne_eq, Ne.symm h, not_false_eq_true, true_and, and_self]

theorem videoSettings_beside (old : Settings) (s : State) :
    besideCams (videoSettings old s).video = besideCams s.video := by
  rw [videoSettings_eq, updateRevert_beside]
  split
  · rfl
  · exact (recompareCam_beside ..).trans (recompareCam_beside ..)

theorem settingsOf_fields {w : SettingsWrite} {faults : Vector FaultSetting 70} {set : Settings}
    (h : settingsOf w faults = some set) : set.faults = faults ∧ set.failover = clampNat 40 1000 w.failover := by
  unfold settingsOf at h
  split at h
  · split at h
    · cases h; exact ⟨rfl, rfl⟩
    · cases h
  · cases h

theorem writeSettings_ok {w : SettingsWrite} {set : Settings} (hw : settingsOf w s.book.settings.faults = some set) :
    writeSettings w s = .ok (videoSettings s.book.settings { s with book := { s.book with settings := set } }) := by
  simp [writeSettings, hw]

theorem eq_of_aroundVideo (h : aroundVideo t = aroundVideo s) : t = { s with video := t.video } := by
  obtain ⟨⟩ := s
  obtain ⟨⟩ := t
  simp only [aroundVideo, State.mk.injEq] at h ⊢
  simp_all

/-- Settles O12, from the frames of the trims and of the Video Switch. -/
theorem fixedRecordWritesSetOneRecord : Obligations.FixedRecordWritesSetOneRecord := by
  refine ⟨fun w c r s ha hb hw => ⟨rfl, fun hon hoff hadhoc => ?_, fun hfree => ?_⟩,
    fun role key i v s ha hb hw => ⟨rfl, fun hl => ?_, fun hl => ?_⟩, fun w set s ha hb hw => ?_⟩
  · exact bookChange_refused ha hb (writeChair_locked hw ((chairLocked_iff ..).2 ⟨hon, hoff, hadhoc⟩))
  · have hl : s.taking.chairLocked c r = false := by
      by_contra hl
      obtain ⟨h1, h2, h3⟩ := (chairLocked_iff ..).1 (Bool.eq_true_of_not_eq_false hl)
      rcases hfree with h | h | h
      · exact absurd (h1.symm.trans h) (by simp)
      · exact absurd (h2.symm.trans h) (by simp)
      · exact absurd (h3.symm.trans h) (by simp)
    have hset : takeTrims { s.taking with book := s.book.putChair c r } = _ := takeTrims_eq _
    have clicks := takeTrims_clicks { s.taking with book := s.book.putChair c r }
    refine ⟨_, bookChange_taken ha hb (writeChair_ok hw hl), ?_⟩
    change takeTrims { s.taking with book := s.taking.book.putChair c r } = _ at hset
    generalize takeTrims { s.taking with book := s.taking.book.putChair c r } = u at *
    rw [hset]
    exact ⟨rfl, rfl, set_getElem s.book.chairs c r, clicks⟩
  · exact bookChange_refused ha hb (writeRole_locked hw ((roleLocked_iff ..).2 hl))
  · have hl : s.taking.roleLocked role = false := Bool.eq_false_iff.2 fun h => hl ((roleLocked_iff ..).1 h)
    exact ⟨(s.book.putRole i v).revise, bookChange_taken ha hb (writeRole_ok hw hl), rfl, set_getElem s.book.roles i v⟩
  · obtain ⟨hfaults, hfailover⟩ := settingsOf_fields hw
    obtain ⟨x, hx⟩ : ∃ x : State, x = { s.taking with book := { s.book with settings := set } } := ⟨_, rfl⟩
    have taken : writeSettings w s.taking = .ok (videoSettings s.book.settings x) := hx ▸ writeSettings_ok hw
    have around := eq_of_aroundVideo (videoSettings_around s.book.settings x)
    have beside := videoSettings_beside s.book.settings x
    have revert := videoSettings_revertExp s.book.settings x
    have cams := videoSettings_cam s.book.settings x
    refine ⟨_, bookChange_taken ha hb taken, ?_⟩
    generalize videoSettings s.book.settings x = u at around beside revert cams
    rw [around] at revert cams ⊢
    subst hx
    exact ⟨rfl, rfl, hfaults, hfailover, (congrArg (fun v => v.mode) beside :), (congrArg (fun v => v.sel) beside :),
      (congrArg (fun v => v.buffers) beside :), (congrArg (fun v => v.drops) beside :),
      (congrArg (fun v => v.repeats) beside :), (congrArg (fun v => v.window) beside :), revert, cams⟩

end Sys2Proof.Proofs

/-! PROOFS. Retirements of songs, segments, patches and cues (R3, R5, R19, R44, R48, R104). -/

namespace Sys2Proof.Proofs

open Sys2Proof.Machine Sys2Proof.Laws

variable {s : State}

theorem chairOf_chairNumber (c : Chair) : chairOf (chairNumber c) = some c := by
  have h : 1 ≤ c.val + 1 ∧ c.val + 1 ≤ 16 := by omega
  simp [chairOf, chairNumber, h]

/-! ## Songs (R19) -/

section song
variable {n : Nat} {r : Song} (hr : s.book.song? n = some r)
include hr

theorem retireSong_locked (hcur : s.currentSong = some n) : retireSong n s = .error .inUse := by
  simp [retireSong, hr, (isCurrentSong_iff s n).2 hcur]

theorem retireSong_referenced (hcur : s.currentSong ≠ some n) (hc : r.cueCount ≠ 0) :
    retireSong n s = .error .referenced := by
  simp [retireSong, hr, Bool.eq_false_iff.2 (mt (isCurrentSong_iff s n).1 hcur), hc]

theorem retireSong_ok (hcur : s.currentSong ≠ some n) (hc : r.cueCount = 0) :
    retireSong n s = .ok { s with book := s.book.dropSong n } := by
  simp [retireSong, hr, Bool.eq_false_iff.2 (mt (isCurrentSong_iff s n).1 hcur), hc]

end song

/-! ## Segments (R3, R19) -/

/-- The segment is the one in force, or stands at the first bar, of the clock's current song (R3). -/
theorem segmentHeld_iff (s : State) (g : Segment) : s.segmentHeld g = true ↔
    s.currentSong = some g.song ∧
      ((∃ pos : SongPos, s.clock.pos = some pos ∧
          (s.book.governing? pos.song pos.bar).map (·.startBar) = some g.startBar) ∨
        ∃ r : Song, s.book.song? g.song = some r ∧ r.firstBar = g.startBar) := by
  have inForce (hcur : s.currentSong = some g.song) : s.segmentInForce.map (·.startBar) = some g.startBar ↔
      ∃ pos : SongPos, s.clock.pos = some pos ∧
        (s.book.governing? pos.song pos.bar).map (·.startBar) = some g.startBar := by
    have running : s.clock.state ≠ .parked := fun h => by simp [State.currentSong, h] at hcur
    rw [State.segmentInForce, if_neg running]
    cases s.clock.pos <;> simp
  simp only [State.segmentHeld, Bool.and_eq_true, isCurrentSong_iff, Bool.or_eq_true, decide_eq_true_eq]
  refine and_congr_right fun hcur => or_congr (inForce hcur) ?_
  cases s.book.song? g.song <;> simp

theorem retireSegment_locked {n bar : Nat} {g : Segment} (hg : s.book.segment? n bar = some g)
    (hl : s.segmentHeld g = true) : retireSegment n bar s = .error .inUse := by simp [retireSegment, hg, hl]

theorem retireSegment_ok {n bar : Nat} {g : Segment} (hg : s.book.segment? n bar = some g)
    (hl : s.segmentHeld g = false) : retireSegment n bar s = .ok { s with book := s.book.dropSegment n bar } := by
  simp [retireSegment, hg, hl]

/-! ## Patches (R19, R104) -/

theorem retirePatch_referenced {c : Chair} {n : Nat} {p : Patch} (hp : s.book.patch? c n = some p) (h : p.refs ≠ 0) :
    retirePatch c n s = .error .referenced := by simp [retirePatch, hp, h]

theorem retirePatch_ok {c : Chair} {n : Nat} {p : Patch} (hp : s.book.patch? c n = some p) (h : p.refs = 0) :
    retirePatch c n s = .ok (forgetPatch c n { s with book := s.book.dropPatch c n }) := by simp [retirePatch, hp, h]

theorem forgetPatch_other {c d : Chair} (n : Nat) (s : State) (h : d ≠ c) : (forgetPatch c n s).patch[d] = s.patch[d] :=
  (modifyAt_getElem ..).trans (if_neg h)

/-- A target that names the retired patch is lost, and no other (R104). -/
theorem forgetPatch_target (c : Chair) (n : Nat) (s : State) (sel : PatchSel) :
    (forgetPatch c n s).patch[c].target = some sel ↔ s.patch[c].target = some sel ∧ sel.number ≠ n := by
  rw [forgetPatch, onDispatch, modifyAt_getElem, if_pos rfl]
  generalize s.patch[c] = d
  obtain ht | ⟨x, ht⟩ : d.target = none ∨ ∃ x, d.target = some x := by cases d.target <;> simp
  · simp [ht]
  · by_cases hx : x.number = n
    · simp only [ht, Option.any_some, hx, decide_true, if_true, Option.some.injEq]
      exact ⟨fun h => (nomatch h), fun ⟨h, hn⟩ => absurd (h ▸ hx) hn⟩
    · simp only [ht, Option.any_some, hx, decide_false, Bool.false_eq_true, if_false, Option.some.injEq]
      exact ⟨fun h => ⟨h, h ▸ hx⟩, fun h => h.1⟩

/-- A confirmed patch that is the retired one becomes UNKNOWN, and no other (R104). -/
theorem forgetPatch_confirmed (c : Chair) (n : Nat) (s : State) (sel : PatchSel) :
    (forgetPatch c n s).patch[c].confirmed = .patch sel ↔ s.patch[c].confirmed = .patch sel ∧ sel.number ≠ n := by
  rw [forgetPatch, onDispatch, modifyAt_getElem, if_pos rfl]
  generalize s.patch[c] = d
  cases hk : d.confirmed with
  | unknown => simp [Confirmed.names]
  | modified => simp [Confirmed.names]
  | patch x =>
    by_cases hx : x.number = n
    · simp only [Confirmed.names, hx, decide_true, if_true, Confirmed.patch.injEq]
      exact ⟨fun h => (nomatch h), fun ⟨h, hn⟩ => absurd (h ▸ hx) hn⟩
    · simp only [Confirmed.names, hx, decide_false, Bool.false_eq_true, if_false, Confirmed.patch.injEq]
      exact ⟨fun h => ⟨h, h ▸ hx⟩, fun h => h.1⟩

/-! ## Cues (R5, R19, R44, R48) -/

theorem retireCue_locked {n : CueNumber} {c : Cue} (hc : s.book.cue? n = some c) (ho : s.cue.isOpen = true)
    (hr : s.runState n = .firing ∨ s.runState n = .standby) : retireCue n s = .error .inUse := by
  simp [retireCue, hc, ho, hr]

theorem retireCue_ok {n : CueNumber} {c : Cue} (hc : s.book.cue? n = some c)
    (hr : s.cue.isOpen = true → s.runState n ≠ .firing ∧ s.runState n ≠ .standby) :
    retireCue n s = .ok (dropRun n { s with book := s.book.dropCue n }) := by
  have free : (s.cue.isOpen && (decide (s.runState n = .firing) || decide (s.runState n = .standby))) = false := by
    cases ho : s.cue.isOpen with
    | false => rfl
    | true => simp [hr ho]
  simp [retireCue, hc, free]

theorem dropRun_cue (n : CueNumber) (s : State) : (dropRun n s).cue = { s.cue with
    runs := s.cue.runs.filter fun e => decide (e.cue ≠ n)
    timers := s.cue.timers.filter fun x => decide (x.cue ≠ n)
    held := if s.cue.held = some n then none else s.cue.held } := by
  by_cases h : s.cue.held = some n <;> simp [dropRun, cancelTimer, setHeld, handStandby, h]

theorem dropRun_overlay {n : CueNumber} {s : State} (h : s.cue.held ≠ some n) : (dropRun n s).overlay = s.overlay := by
  simp [dropRun, cancelTimer, h]

/-- A count after the cue that it counts goes: less one where the cue named the record (R5). -/
theorem shiftCount_removed (named : Bool) (n : Nat) : shiftCount named false n = if named = true then n - 1 else n := by
  cases named <;> rfl

theorem recountPatch_removed {b : Book} {c : Chair} {n : Nat} {p : Patch} (hp : b.patch? c n = some p) (q : Cue) :
    recountPatch (some q) none p = { p with refs := if q.namesPatch c n then p.refs - 1 else p.refs } := by
  obtain ⟨-, rfl, rfl⟩ := patch?_key hp
  simp [recountPatch, shiftCount_removed]

theorem recountSong_removed {b : Book} {n : Nat} {r : Song} (hr : b.song? n = some r) (q : Cue) :
    recountSong (some q) none r = { r with cueCount := if q.namesSong n then r.cueCount - 1 else r.cueCount } := by
  obtain ⟨-, rfl⟩ := song?_key hr
  simp [recountSong, shiftCount_removed]

/-! ## The requests -/

section request
variable {k : RecordKey} {st : Status} {t : State} (ha : s.accepts) (hb : s.busy = false)
  (htable : decideRetire k = bookChange (retireFrom k))
include ha hb htable

theorem recordRetire_refused (h : retireFrom k s.taking = .error st) :
    exec (.recordRetire k) s = .next (owing (plain st) s.taking) :=
  (congrArg (request · s) htable).trans (bookChange_refused ha hb h)

theorem recordRetire_taken (h : retireFrom k s.taking = .ok t) :
    exec (.recordRetire k) s = .next (owing (plain .ok) (revise t)) :=
  (congrArg (request · s) htable).trans (bookChange_taken ha hb h)

end request

theorem retireFrom_song {n : Nat} (h1 : 1 ≤ n) (h2 : n ≤ 64) (s : State) : retireFrom (.song n) s = retireSong n s := by
  simp [retireFrom, keyOk, inRange, h1, h2]

theorem retireFrom_segment {n bar : Nat} (hk : keyOk (.segment n bar) = true) (s : State) :
    retireFrom (.segment n bar) s = retireSegment n bar s := by simp [retireFrom, hk]

theorem retireFrom_patch (c : Chair) {n : Nat} (h1 : 1 ≤ n) (h2 : n ≤ 999) (s : State) :
    retireFrom (.patch (chairNumber c) n) s = retirePatch c n s := by
  have key : keyOk (.patch (chairNumber c) n) = true := by simp [keyOk, inRange, chairNumber, h1, h2]
  simp [retireFrom, key, chairOf_chairNumber]

theorem retireFrom_cue {n : CueNumber} (hk : n.inRange = true) (s : State) :
    retireFrom (.cue n.major n.minor) s = retireCue n s := by
  have key : keyOk (.cue n.major n.minor) = true := hk
  simp [retireFrom, key]

/-- Settles O15, from each table's retirement and the lookups after it. -/
theorem retiredRecordsAreGone : Obligations.RetiredRecordsAreGone := by
  intro s ha hb
  refine ⟨fun n r h1 h2 hr hcur hc => ?_, fun n r h1 h2 hr hcur hc => ?_, fun n r h1 h2 hr hcur => ?_,
    fun c n p h1 h2 hp href => ?_, fun c n p h1 h2 hp href => ?_, fun n bar g hk hg => ⟨fun hcur hheld => ?_, fun hfree => ?_⟩,
    fun n c ho hk hc hrun => ?_, fun n c hk hc hfree => ?_, fun k hk => ?_⟩
  · refine ⟨(s.book.dropSong n).revise, recordRetire_taken ha hb rfl
      ((retireFrom_song h1 h2 _).trans (retireSong_ok hr hcur hc)), (song?_dropSong ..).trans (if_pos rfl),
      fun bar => (segment?_dropSong ..).trans (if_pos rfl),
      fun m hm => ⟨(song?_dropSong ..).trans (if_neg hm), fun bar => (segment?_dropSong ..).trans (if_neg hm)⟩⟩
  · exact recordRetire_refused ha hb rfl ((retireFrom_song h1 h2 _).trans (retireSong_referenced hr hcur hc))
  · exact recordRetire_refused ha hb rfl ((retireFrom_song h1 h2 _).trans (retireSong_locked hr hcur))
  · exact recordRetire_refused ha hb rfl ((retireFrom_patch c h1 h2 _).trans (retirePatch_referenced hp href))
  · exact ⟨_, recordRetire_taken ha hb rfl ((retireFrom_patch c h1 h2 _).trans (retirePatch_ok hp href)), rfl,
      (patch?_dropPatch ..).trans (if_pos ⟨rfl, rfl⟩), fun d m h => (patch?_dropPatch ..).trans (if_neg h),
      fun d hd => forgetPatch_other n _ hd, forgetPatch_target c n _, forgetPatch_confirmed c n _⟩
  · obtain ⟨-, rfl, rfl⟩ := segment?_key hg
    exact recordRetire_refused ha hb rfl
      ((retireFrom_segment hk _).trans (retireSegment_locked hg ((segmentHeld_iff ..).2 ⟨hcur, hheld⟩)))
  · have hl : s.taking.segmentHeld g = false := by
      obtain ⟨-, rfl, rfl⟩ := segment?_key hg
      refine Bool.eq_false_iff.2 fun hl => ?_
      obtain ⟨hcur, hheld⟩ := (segmentHeld_iff ..).1 hl
      rcases hfree with h | ⟨hforce, hfirst⟩
      · exact h hcur
      · rcases hheld with ⟨pos, hpos, h⟩ | ⟨r, hr, h⟩
        · exact hforce pos hpos h
        · exact hfirst r hr h
    exact ⟨(s.book.dropSegment n bar).revise, recordRetire_taken ha hb rfl
      ((retireFrom_segment hk _).trans (retireSegment_ok hg hl)), rfl, (segment?_dropSegment ..).trans (if_pos ⟨rfl, rfl⟩),
      fun m other h => (segment?_dropSegment ..).trans (if_neg h)⟩
  · exact recordRetire_refused ha hb rfl ((retireFrom_cue hk _).trans (retireCue_locked hc ho hrun))
  · obtain ⟨x, hx⟩ : ∃ x : State, x = { s.taking with book := s.book.dropCue n } := ⟨_, rfl⟩
    have taken : retireFrom (.cue n.major n.minor) s.taking = .ok (dropRun n x) :=
      hx ▸ (retireFrom_cue hk _).trans (retireCue_ok hc hfree)
    have frame := (eq_of_around (dropRun_around n x)).1
    have cue := dropRun_cue n x
    have overlay := fun h => dropRun_overlay (n := n) (s := x) h
    have book : (dropRun n x).book = s.book.dropCue n := by rw [frame, hx]
    refine ⟨_, recordRetire_taken ha hb rfl taken, ?_⟩
    generalize dropRun n x = u at frame cue overlay book
    subst hx
    refine ⟨by rw [frame]; rfl, cue, overlay, ?_⟩
    rw [show (owing (plain .ok) (revise u)).book = (s.book.dropCue n).revise from congrArg Book.revise book]
    refine ⟨(cue?_dropCue ..).trans (if_pos rfl), fun m hm => (cue?_dropCue ..).trans (if_neg hm), fun d m p hp => ?_,
      fun m r hr => ?_⟩
    · refine (patch?_dropCue s.book n d m).trans ?_
      rw [hp, hc, Option.map_some, recountPatch_removed hp]
    · refine (song?_dropCue s.book n m).trans ?_
      rw [hr, hc, Option.map_some, recountSong_removed hr]
  · have fixed : decideRetire k = refuse .invalid := by rcases hk with rfl | ⟨n, rfl | rfl⟩ <;> rfl
    exact request_refused ha (st := .invalid) (by rw [fixed])

end Sys2Proof.Proofs

/-! PROOFS. Reading the book, its cursor, and BOOK CLEAR (R22 to R24, R26, R104). -/

namespace Sys2Proof.Proofs

open Sys2Proof.Machine Sys2Proof.Laws

variable {s t : State}

/-! ## Reading (R22, R23) -/

section read
variable {k : RecordKey} (ha : s.accepts) (hb : s.busy = false)
include ha hb

theorem recordRead_ok (hk : keyOk k = true) {r : RecordData} (hr : s.record? k = some r) :
    exec (.recordRead k) s = .next (owing { status := .ok, data := .record r } s.taking) :=
  request_decided ha (by
    simp [decideRead, show s.taking.busy = false from hb, hk, show s.taking.record? k = some r from hr])

theorem recordRead_notFound (hk : keyOk k = true) (hr : s.record? k = none) :
    exec (.recordRead k) s = .next (owing (plain .notFound) s.taking) :=
  request_refused ha (by
    simp [decideRead, show s.taking.busy = false from hb, hk, show s.taking.record? k = none from hr])

theorem recordRead_range (hk : keyOk k = false) :
    exec (.recordRead k) s = .next (owing (plain .outOfRange) s.taking) :=
  request_refused ha (by simp [decideRead, show s.taking.busy = false from hb, hk])

theorem cursorSet_ok (hk : keyOk k = true) : exec (.cursorSet k) s = .next (owing (plain .ok)
    { s.taking with book := { s.book with cursorTable := keyTable k, cursorPos := keyPair k } }) :=
  request_decided ha (d := decideCursorSet k) (by
    simp only [decideCursorSet, show s.taking.busy = false from hb, hk, Bool.not_true, Bool.false_eq_true, if_false]
    rfl)

theorem cursorSet_range (hk : keyOk k = false) :
    exec (.cursorSet k) s = .next (owing (plain .outOfRange) s.taking) :=
  request_refused ha (by simp [decideCursorSet, show s.taking.busy = false from hb, hk])

theorem cursorRead_ok {x : (Nat × Nat) × RecordData}
    (hx : (s.tableRecords s.book.cursorTable).find? (fun r => atOrBefore s.book.cursorPos r.1) = some x) :
    exec .cursorRead s = .next (owing { status := .ok, data := .record x.2 }
      { s.taking with book := { s.book with cursorPos := (x.1.1, x.1.2 + 1) } }) :=
  request_decided ha (d := decideCursorRead) (by
    have hx' : (s.taking.tableRecords s.taking.book.cursorTable).find?
        (fun r => atOrBefore s.taking.book.cursorPos r.1) = some x := hx
    simp only [decideCursorRead, show s.taking.busy = false from hb, hx', Bool.false_eq_true, if_false]
    rfl)

theorem cursorRead_end
    (hx : (s.tableRecords s.book.cursorTable).find? (fun r => atOrBefore s.book.cursorPos r.1) = none) :
    exec .cursorRead s = .next (owing (plain .finished) s.taking) :=
  request_refused ha (d := decideCursorRead) (by
    have hx' : (s.taking.tableRecords s.taking.book.cursorTable).find?
        (fun r => atOrBefore s.taking.book.cursorPos r.1) = none := hx
    simp only [decideCursorRead, show s.taking.busy = false from hb, hx', Bool.false_eq_true, if_false])

theorem bookInfo_ok :
    exec .bookInfo s = .next (owing { status := .ok, data := .summary s.book.summary } s.taking) :=
  request_decided ha (d := decideInfo) (by
    simp only [decideInfo, show s.taking.busy = false from hb, Bool.false_eq_true, if_false]
    rfl)

end read

/-! ## The Fault Monitor and the Stop Controller with the show closed (R159, R163, R165) -/

/-- The state without the 70 fault source settings, the Fault Monitor and the Stop Controller. -/
def aroundFaults (s : State) : State :=
  { s with
    book := { s.book with settings := { s.book.settings with faults := defaultSettings.faults } }
    faults := State.reset.faults
    stop := State.reset.stop }

theorem aroundFaults_isOpen (h : aroundFaults t = aroundFaults s) : t.cue.isOpen = s.cue.isOpen :=
  (congrArg (fun x => x.cue.isOpen) h :)

/-- A stop request is ignored while the show is closed (R165), so that the FAULT output reaches nothing else. -/
theorem decideOutput_around (h : s.cue.isOpen = false) : aroundFaults (decideOutput s) = aroundFaults s := by
  unfold decideOutput
  split
  · rfl
  · split
    · simp only [stopRequest, h, Bool.not_false, if_true]; rfl
    · rfl

theorem applyFault_around (i : Source) (new : FaultSetting) (h : s.cue.isOpen = false) :
    aroundFaults (applyFault i new s) = aroundFaults s := by
  unfold applyFault
  dsimp only
  split
  · refine (decideOutput_around ?_).trans ?_
    · exact h
    · rfl
  · rfl

theorem applyFaults_around (new : Vector FaultSetting 70) (h : s.cue.isOpen = false) :
    aroundFaults (applyFaults new s) = aroundFaults s := by
  have walk : ∀ (l : List Source) (s : State), s.cue.isOpen = false →
      aroundFaults (l.foldl (fun s i => applyFault i new[i] s) s) = aroundFaults s := by
    intro l
    induction l with
    | nil => exact fun _ _ => rfl
    | cons i l ih =>
      intro s h
      have one := applyFault_around i new[i] h
      exact (ih _ ((aroundFaults_isOpen one).trans h)).trans one
  exact walk _ s h

/-! ## BOOK CLEAR (R24, R26, R104) -/

/-- The state without what BOOK CLEAR writes before it reaches the Patch Dispatcher. -/
def aroundClear (s : State) : State :=
  { s with
    book := Book.empty
    clicks := State.reset.clicks
    video := State.reset.video
    faults := State.reset.faults
    stop := State.reset.stop }

theorem clear_of_aroundFaults (h : aroundFaults t = aroundFaults s) : aroundClear t = aroundClear s := by
  have viewed : ∀ x, aroundClear x = aroundClear (aroundFaults x) := fun _ => rfl
  rw [viewed t, h, ← viewed s]

theorem clear_of_aroundVideo (h : aroundVideo t = aroundVideo s) : aroundClear t = aroundClear s := by
  have viewed : ∀ x, aroundClear x = aroundClear (aroundVideo x) := fun _ => rfl
  rw [viewed t, h, ← viewed s]

theorem takeTrims_aroundClear (s : State) : aroundClear (takeTrims s) = aroundClear s := by
  rw [takeTrims_eq]; rfl

/-- BOOK CLEAR ends with the Patch Dispatcher, over a state that it has emptied (R24). -/
theorem clearBook_eq (h : s.cue.isOpen = false) : ∃ x, clearBook s = forgetPatches x ∧ aroundClear x = aroundClear s := by
  unfold clearBook
  extract_lets s1 old s2
  have h1 : aroundClear s1 = aroundClear s := clear_of_aroundFaults (applyFaults_around _ h)
  have h2 : aroundClear s2 = aroundClear { s1 with book := Book.empty } := clear_of_aroundVideo (videoSettings_around ..)
  have h3 (x : State) : aroundClear { x with book := Book.empty } = aroundClear x := rfl
  exact ⟨_, rfl, (takeTrims_aroundClear s2).trans (h2.trans ((h3 s1).trans h1))⟩

/-- A patch that the chair was confirmed to have is unknown after BOOK CLEAR (R104). -/
theorem forgetPatches_patch (s : State) (c : Chair) :
    (forgetPatches s).patch[c].target = none ∧
      (forgetPatches s).patch[c].confirmed = (if s.patch[c].confirmed = .modified then .modified else .unknown) ∧
      (forgetPatches s).patch[c].waiting = s.patch[c].waiting ∧
      (forgetPatches s).patch[c].flight.isSome = s.patch[c].flight.isSome ∧
      (forgetPatches s).patch[c].counts = s.patch[c].counts := by
  rw [show (forgetPatches s).patch[c] = _ from tabulateChairs_getElem _ c]
  generalize s.patch[c] = d
  refine ⟨rfl, ?_, rfl, Option.isSome_map, rfl⟩
  dsimp only
  cases d.confirmed <;> rfl

/-- BOOK CLEAR leaves the Patch Dispatcher with no target and no patch, and all but the emptied blocks as they are. -/
theorem clearBook_frame (h : s.cue.isOpen = false) :
    (clearBook s).cue = s.cue ∧ (clearBook s).clock = s.clock ∧ (clearBook s).links = s.links ∧
      (clearBook s).due = s.due ∧ (clearBook s).pad = s.pad ∧ (clearBook s).time = s.time ∧
      (clearBook s).loader = s.loader ∧ (clearBook s).port = s.port ∧
      ∀ c : Chair, (clearBook s).patch[c].target = none ∧
        (clearBook s).patch[c].confirmed = (if s.patch[c].confirmed = .modified then .modified else .unknown) ∧
        (clearBook s).patch[c].waiting = s.patch[c].waiting ∧
        (clearBook s).patch[c].flight.isSome = s.patch[c].flight.isSome ∧
        (clearBook s).patch[c].counts = s.patch[c].counts := by
  obtain ⟨x, hx, frame⟩ := clearBook_eq h
  rw [hx]
  have patch : x.patch = s.patch := (congrArg State.patch frame :)
  exact ⟨(congrArg State.cue frame :), (congrArg State.clock frame :), (congrArg State.links frame :),
    (congrArg State.due frame :), (congrArg State.pad frame :), (congrArg State.time frame :),
    (congrArg State.loader frame :), (congrArg State.port frame :), fun c => patch ▸ forgetPatches_patch x c⟩

/-- Settles O16, from the cursor's search in its table and the frame of the clearing. -/
theorem cursorWalksTheTableAndClearEmptiesIt : Obligations.CursorWalksTheTableAndClearEmptiesIt := by
  refine ⟨fun s ha hb => ⟨fun k hk => ⟨fun r hr => recordRead_ok ha hb hk hr, recordRead_notFound ha hb hk,
    cursorSet_ok ha hb hk⟩, fun k hk => ⟨recordRead_range ha hb hk, cursorSet_range ha hb hk⟩,
    fun before key r after htable hbefore hkey => ?_, fun hall => ?_, ?_⟩, fun s ha => ⟨fun ho => ?_, fun ho hb => ?_⟩⟩
  · refine cursorRead_ok ha hb (x := (key, r)) ?_
    rw [htable, List.find?_append, List.find?_eq_none.2 fun x hx => by simp [hbefore x hx]]
    simp [hkey]
  · exact cursorRead_end ha hb (List.find?_eq_none.2 fun x hx => by simp [hall x hx])
  · exact ⟨s.book.summary, bookInfo_ok ha hb, rfl, rfl, rfl, rfl, rfl, rfl, rfl, rfl⟩
  · exact request_refused ha (d := decideClear) (by
      simp only [decideClear, show s.taking.cue.isOpen = true from ho, if_true])
  · have ho' : s.taking.cue.isOpen = false := ho
    obtain ⟨cue, clock, links, due, pad, time, loader, -, patch⟩ := clearBook_frame ho'
    have book := clearBook_book s.taking
    have decided : decideClear s.taking = (forgetFired (clearBook s.taking), plain .ok) := by
      simp only [decideClear, ho', show s.taking.busy = false from hb, Bool.false_eq_true, if_false]
    refine ⟨_, request_decided ha decided, rfl, ?_⟩
    generalize clearBook s.taking = u at cue clock links due pad time loader patch book
    refine ⟨book, ?_, patch, clock, links, due, pad, time, loader⟩
    show ({ u.cue with lastFired := none, completion := none } : CueEngine) = _
    rw [cue]
    rfl

end Sys2Proof.Proofs

/-! PROOFS. Cue writes (R5, R14, R15, R44). -/

namespace Sys2Proof.Proofs

open Sys2Proof.Machine Sys2Proof.Laws

variable {s : State} {q : Cue}

/-! ## The checks (R14, R15) -/

/-- The write amends a FIRING cue, or the STANDBY cue to another trigger or into a CUT song (R15). -/
theorem cueLocked_iff (s : State) (q : Cue) : s.cueLocked q = true ↔
    s.cue.isOpen = true ∧ s.book.cue? q.number ≠ none ∧
      (s.runState q.number = .firing ∨
        (s.runState q.number = .standby ∧ (q.trigger ≠ .go ∨ s.book.ofCutSong q))) := by
  simp only [State.cueLocked, Bool.and_eq_true, Option.isSome_iff_ne_none, and_assoc]
  refine and_congr_right fun _ => and_congr_right fun _ => ?_
  cases s.runState q.number <;> simp [← cueCut_iff, ← isGo_iff]

section write
variable {w : CueWrite} (hw : cueOf w = some q)
include hw

theorem writeCue_missing (hn : ¬s.book.holdsNamed q) : writeCue w s = .error .notFound := by
  have missing : s.book.cueMissing q = true := by
    by_contra h
    exact hn ((cueMissing_eq_false ..).1 (Bool.eq_false_iff.2 h))
  simp [writeCue, hw, missing]

variable (hn : s.book.holdsNamed q)
include hn

theorem writeCue_invalid (hv : ¬s.book.validCue q) : writeCue w s = .error .invalid := by
  have invalid : s.book.cueInvalid q = true := by
    by_contra h
    exact hv ((cueInvalid_eq_false hn).1 (Bool.eq_false_iff.2 h))
  simp [writeCue, hw, (cueMissing_eq_false ..).2 hn, invalid]

variable (hv : s.book.validCue q)
include hv

theorem writeCue_locked (hl : s.cueLocked q = true) : writeCue w s = .error .inUse := by
  simp [writeCue, hw, (cueMissing_eq_false ..).2 hn, (cueInvalid_eq_false hn).2 hv, hl]

theorem writeCue_full (hnew : s.book.cue? q.number = none) (hf : 1024 ≤ s.book.cues.length) :
    writeCue w s = .error .full := by
  have hl : s.cueLocked q = false := Bool.eq_false_iff.2 fun h => ((cueLocked_iff ..).1 h).2.1 hnew
  simp [writeCue, hw, (cueMissing_eq_false ..).2 hn, (cueInvalid_eq_false hn).2 hv, hl, hnew, hf]

theorem writeCue_created (hnew : s.book.cue? q.number = none) (hroom : s.book.cues.length < 1024) :
    writeCue w s = .ok (createRun q { s with book := s.book.putCue q }) := by
  have hl : s.cueLocked q = false := Bool.eq_false_iff.2 fun h => ((cueLocked_iff ..).1 h).2.1 hnew
  simp [writeCue, hw, (cueMissing_eq_false ..).2 hn, (cueInvalid_eq_false hn).2 hv, hl, hnew, hroom]

theorem writeCue_amended (hold : s.book.cue? q.number ≠ none) (hl : s.cueLocked q = false) :
    writeCue w s = .ok (amendRun q { s with book := s.book.putCue q }) := by
  obtain ⟨old, hold⟩ := Option.ne_none_iff_exists'.1 hold
  simp [writeCue, hw, (cueMissing_eq_false ..).2 hn, (cueInvalid_eq_false hn).2 hv, hl, hold]

end write

/-! ## The run state of an amended cue (R15, R44) -/

theorem amendRun_closed (ho : s.cue.isOpen = false) : amendRun q s = s := by simp [amendRun, ho]

theorem amendRun_cut (ho : s.cue.isOpen = true) (hp : s.runState q.number = .pending) (hc : s.book.ofCutSong q) :
    amendRun q s = passCue q.number s := by simp [amendRun, ho, hp, (cueCut_iff ..).2 hc]

theorem amendRun_stays (ho : s.cue.isOpen = true) (h : s.runState q.number ≠ .pending ∨ ¬s.book.ofCutSong q) :
    amendRun q s = if q.isFollow = true then s else cancelTimer q.number s := by
  have h' : ¬(s.runState q.number = .pending ∧ s.book.cueCut q = true) := fun ⟨h1, h2⟩ =>
    h.elim (fun h => h h1) fun h => h ((cueCut_iff ..).1 h2)
  rw [amendRun, if_pos ho, if_neg h']

theorem passCue_timers (n : CueNumber) (s : State) :
    (passCue n s).cue.timers = s.cue.timers.filter fun x => decide (x.cue ≠ n) := by
  have kept : (setRun n .passed s).cue.timers = s.cue.timers := by rw [setRun_eq]; split <;> rfl
  simp [passCue, cancelTimer, kept]

theorem passCue_other {n k : CueNumber} (h : k ≠ n) (s : State) : (passCue n s).runState k = s.runState k :=
  runState_congr (passCue_frame n s).2 ((entry?_passCue ..).trans (if_neg h))

theorem passCue_self {n : CueNumber} (ho : s.cue.isOpen = true) (he : (s.cue.entry? n).isSome = true) :
    (passCue n s).runState n = .passed := by
  obtain ⟨e, he⟩ := Option.isSome_iff_exists.1 he
  refine runState_of_entry ((passCue_frame n s).2.trans ho) (e := newState .passed e) ?_
  rw [entry?_passCue, if_pos rfl, he]
  rfl

theorem amendRun_other {k : CueNumber} (h : k ≠ q.number) (s : State) : (amendRun q s).runState k = s.runState k := by
  unfold amendRun
  split
  · split
    · exact passCue_other h s
    · split <;> rfl
  · rfl

theorem amendRun_standby (q : Cue) (s : State) : (amendRun q s).cue.standby = s.cue.standby := by
  unfold amendRun
  split
  · split
    · exact passCue_standby ..
    · split <;> rfl
  · rfl

/-- A cue that does not wait in a CUT song keeps its run state, and its timer only as a FOLLOW cue (R15, R44). -/
theorem amendRun_kept (ho : s.cue.isOpen = true) (h : s.runState q.number ≠ .pending ∨ ¬s.book.ofCutSong q) :
    (amendRun q s).runState q.number = s.runState q.number ∧ (amendRun q s).cue.held = s.cue.held ∧
      (amendRun q s).cue.timers = if q.isFollow = true then s.cue.timers
        else s.cue.timers.filter fun x => decide (x.cue ≠ q.number) := by
  rw [amendRun_stays ho h]
  split
  · exact ⟨rfl, rfl, rfl⟩
  · exact ⟨rfl, rfl, by simp [cancelTimer]⟩

/-! ## The run state of a created cue (R15) -/

theorem createRun_closed (ho : s.cue.isOpen = false) : createRun q s = s := by simp [createRun, ho]

theorem firstRun_passed (h : s.book.ofCutSong q ∨ ∃ n : CueNumber, s.cue.lastFired = some n ∧ q.number.before n = true) :
    s.firstRun q = .passed := by
  unfold State.firstRun
  rcases h with h | ⟨n, hn, hb⟩
  · simp [(cueCut_iff ..).2 h]
  · simp [hn, hb]

theorem firstRun_pending (hc : ¬s.book.ofCutSong q)
    (h : ∀ n : CueNumber, s.cue.lastFired = some n → q.number.before n = false) : s.firstRun q = .pending := by
  unfold State.firstRun
  rw [(cueCut_eq_false ..).2 hc]
  cases hl : s.cue.lastFired with
  | none => rfl
  | some n => simp [h n hl]

theorem appendRun_other {e : RunEntry} {k : CueNumber} (h : k ≠ e.cue) (s : State) :
    (appendRun e s).runState k = s.runState k := by
  refine runState_congr (s := s) (t := appendRun e s) rfl ?_
  show (s.cue.runs ++ [e]).find? _ = _
  simp [List.find?_append, Ne.symm h, CueEngine.entry?]

theorem entry?_appendRun {e : RunEntry} (h : s.cue.entry? e.cue = none) : (appendRun e s).cue.entry? e.cue = some e :=
  (entry?_append _ e _ h).trans (if_pos rfl)

/-- A created cue that is not made the standby has its first run state (R15). -/
theorem createRun_plain (ho : s.cue.isOpen = true)
    (h : ¬(s.firstRun q = .pending ∧ q.isGo = true ∧ s.cue.standby = none)) :
    createRun q s = appendRun (createdEntry q s) s := by rw [createRun_eq, if_pos ho, if_neg h]

theorem createRun_placed (ho : s.cue.isOpen = true) (h : s.firstRun q = .pending) (hgo : q.isGo = true)
    (hs : s.cue.standby = none) :
    createRun q s = placeStandby (some q.number) (appendRun (createdEntry q s) s) := by
  rw [createRun_eq, if_pos ho, if_pos ⟨h, hgo, hs⟩]

/-- A cue made the standby has its field and its run state, and no other cue's entry changes (R25). -/
theorem placeStandby_entry? (m : CueNumber) (s : State) (k : CueNumber) :
    (placeStandby (some m) s).cue.entry? k =
      if k = m then (s.cue.entry? k).map (newState .standby) else s.cue.entry? k :=
  entry?_setRun m .standby (standbyField (some m) s) k

theorem placeStandby_isOpen (x : Option CueNumber) (s : State) : (placeStandby x s).cue.isOpen = s.cue.isOpen :=
  (congrArg (fun x => x.cue.isOpen) (placeStandby_around x s) :)

theorem placeStandby_standby (x : Option CueNumber) (s : State) : (placeStandby x s).cue.standby = x := by
  cases x with
  | none => rfl
  | some m => exact setRun_standby m .standby (standbyField (some m) s)

theorem placeStandby_timers (x : Option CueNumber) (s : State) : (placeStandby x s).cue.timers = s.cue.timers := by
  cases x with
  | none => rfl
  | some m =>
    show (setRun m .standby (standbyField (some m) s)).cue.timers = _
    rw [setRun_eq]
    split <;> rfl

theorem placeStandby_other {m k : CueNumber} (h : k ≠ m) (s : State) :
    (placeStandby (some m) s).runState k = s.runState k :=
  runState_congr (placeStandby_isOpen ..) ((placeStandby_entry? ..).trans (if_neg h))

theorem placeStandby_self {m : CueNumber} (ho : s.cue.isOpen = true) (he : (s.cue.entry? m).isSome = true) :
    (placeStandby (some m) s).runState m = .standby := by
  obtain ⟨e, he⟩ := Option.isSome_iff_exists.1 he
  refine runState_of_entry ((placeStandby_isOpen ..).trans ho) (e := newState .standby e) ?_
  rw [placeStandby_entry?, if_pos rfl, he]
  rfl

theorem placeStandby_held {m : CueNumber} (h : s.cue.held ≠ some m) : (placeStandby (some m) s).cue.held = s.cue.held := by
  show (setRun m .standby (standbyField (some m) s)).cue.held = _
  rw [setRun_held, if_neg fun h' => h h'.1]
  rfl

theorem createRun_other {k : CueNumber} (h : k ≠ q.number) (s : State) : (createRun q s).runState k = s.runState k := by
  rw [createRun_eq]
  split
  · split
    · exact (placeStandby_other h _).trans (appendRun_other h s)
    · exact appendRun_other h s
  · rfl

theorem createRun_kept (h : s.cue.held ≠ some q.number) :
    (createRun q s).cue.timers = s.cue.timers ∧ (createRun q s).cue.held = s.cue.held := by
  rw [createRun_eq]
  split
  · split
    · exact ⟨placeStandby_timers .., placeStandby_held (s := appendRun (createdEntry q s) s) h⟩
    · exact ⟨rfl, rfl⟩
  · exact ⟨rfl, rfl⟩

section created
variable (ho : s.cue.isOpen = true) (he : s.cue.entry? q.number = none)
include ho he

/-- A created cue that is not made the standby is in its first run state, and the standby stays (R15). -/
theorem createRun_first (h : ¬(s.firstRun q = .pending ∧ q.isGo = true ∧ s.cue.standby = none)) :
    (createRun q s).runState q.number = s.firstRun q ∧ (createRun q s).cue.standby = s.cue.standby := by
  rw [createRun_plain ho h]
  exact ⟨runState_of_entry (s := appendRun (createdEntry q s) s) ho (entry?_appendRun (e := createdEntry q s) he), rfl⟩

/-- A created GO cue becomes the standby where none stands (R15). -/
theorem createRun_stands (h : s.firstRun q = .pending) (hgo : q.isGo = true) (hs : s.cue.standby = none) :
    (createRun q s).runState q.number = .standby ∧ (createRun q s).cue.standby = some q.number := by
  rw [createRun_placed ho h hgo hs]
  have entry := entry?_appendRun (e := createdEntry q s) he
  exact ⟨placeStandby_self (s := appendRun (createdEntry q s) s) ho (Option.isSome_iff_exists.2 ⟨_, entry⟩),
    placeStandby_standby ..⟩

end created

/-! ## The counts of what the cue names (R5) -/

theorem shiftCount_eq (old new : Bool) (n : Nat) : shiftCount old new n =
    if new = true ∧ old = false then n + 1 else if new = false ∧ old = true then n - 1 else n := by
  cases old <;> cases new <;> rfl

theorem patch?_putCue_count {b : Book} {c : Chair} {n : Nat} {p : Patch} (hp : b.patch? c n = some p) (q : Cue) :
    ∃ p' : Patch, (b.putCue q).patch? c n = some p' ∧ p' = { p with refs := p'.refs } ∧
      p'.refs =
        if q.namesPatch c n = true ∧ (b.cue? q.number).any (·.namesPatch c n) = false then p.refs + 1
        else if q.namesPatch c n = false ∧ (b.cue? q.number).any (·.namesPatch c n) = true then p.refs - 1
        else p.refs := by
  refine ⟨_, (patch?_putCue ..).trans (congrArg _ hp), rfl, ?_⟩
  obtain ⟨-, rfl, rfl⟩ := patch?_key hp
  exact shiftCount_eq ..

theorem song?_putCue_count {b : Book} {n : Nat} {r : Song} (hr : b.song? n = some r) (q : Cue) :
    ∃ r' : Song, (b.putCue q).song? n = some r' ∧ r' = { r with cueCount := r'.cueCount } ∧
      r'.cueCount =
        if q.namesSong n = true ∧ (b.cue? q.number).any (·.namesSong n) = false then r.cueCount + 1
        else if q.namesSong n = false ∧ (b.cue? q.number).any (·.namesSong n) = true then r.cueCount - 1
        else r.cueCount := by
  refine ⟨_, (song?_putCue ..).trans (congrArg _ hr), rfl, ?_⟩
  obtain ⟨-, rfl⟩ := song?_key hr
  exact shiftCount_eq ..

/-! ## The request -/

/-- A taken cue write puts the cue in, and changes the run states by an amendment's rule or a creation's (R15). -/
theorem writeCue_taken {w : CueWrite} (hw : cueOf w = some q) (hn : s.book.holdsNamed q) (hv : s.book.validCue q)
    (h : (s.book.cue? q.number = none ∧ s.book.cues.length < 1024) ∨
      (s.book.cue? q.number ≠ none ∧ (s.cue.isOpen = true → s.runState q.number ≠ .firing ∧
        (s.runState q.number = .standby → q.trigger = .go ∧ ¬s.book.ofCutSong q)))) :
    ∃ u, writeCue w s = .ok u ∧ aroundRuns u = aroundRuns { s with book := s.book.putCue q } ∧
      (s.cue.isOpen = false → u = { s with book := s.book.putCue q }) ∧
      (∀ n, n ≠ q.number → u.runState n = s.runState n) ∧
      (s.book.cue? q.number ≠ none → u = amendRun q { s with book := s.book.putCue q }) ∧
      (s.book.cue? q.number = none → u = createRun q { s with book := s.book.putCue q }) := by
  rcases h with ⟨hnew, hroom⟩ | ⟨hold, hfree⟩
  · exact ⟨_, writeCue_created hw hn hv hnew hroom, createRun_around .., fun ho => createRun_closed ho,
      fun n hne => createRun_other hne _, fun h => absurd hnew h, fun _ => rfl⟩
  · have hl : s.cueLocked q = false := Bool.eq_false_iff.2 fun hl => by
      obtain ⟨ho, -, hrun⟩ := (cueLocked_iff ..).1 hl
      obtain ⟨hf, hs⟩ := hfree ho
      rcases hrun with h | ⟨h, hbad⟩
      · exact hf h
      · exact hbad.elim (fun h' => h' (hs h).1) (hs h).2
    exact ⟨_, writeCue_amended hw hn hv hold hl, amendRun_around .., fun ho => amendRun_closed ho,
      fun n hne => amendRun_other hne _, fun _ => rfl, fun h => absurd h hold⟩

/-- Settles O11, from the checks in their order, the counts after the cue is put in, and the two rules of R15. -/
theorem cueWriteMovesTheCounts : Obligations.CueWriteMovesTheCounts := by
  intro w q s ha hb hw
  refine ⟨fun hn => bookChange_refused ha hb (writeCue_missing hw hn),
    fun hn hv => bookChange_refused ha hb (writeCue_invalid hw hn hv), fun hn hv => ⟨fun ho hold hrun =>
      bookChange_refused ha hb (writeCue_locked hw hn hv ((cueLocked_iff ..).2 ⟨ho, hold, hrun⟩)),
    fun hnew hf => bookChange_refused ha hb (writeCue_full hw hn hv hnew hf), fun hok => ?_⟩⟩
  obtain ⟨u, taken, around, closed, other, amended, created⟩ := writeCue_taken (s := s.taking) hw hn hv hok
  obtain ⟨x, hx⟩ : ∃ x : State, x = { s.taking with book := s.book.putCue q } := ⟨_, rfl⟩
  have cut : x.book.ofCutSong q ↔ s.book.ofCutSong q := by rw [hx]; exact ofCutSong_putCue ..
  have run : x.runState = s.runState := by rw [hx]; rfl
  have cue : x.cue = s.cue := by rw [hx]; rfl
  have amended : s.book.cue? q.number ≠ none → u = amendRun q x := hx ▸ amended
  have created : s.book.cue? q.number = none → u = createRun q x := hx ▸ created
  obtain ⟨frame, engine⟩ := eq_of_around around
  have book : u.book = s.book.putCue q := by rw [frame]; rfl
  refine ⟨_, bookChange_taken ha hb taken, ?_, ?_, ?_, fun n hne => ?_, fun c n p hp => ?_, fun n r hr => ?_,
    fun ho => ?_, fun ho => ⟨engine, other, fun hold he => ?_, fun hnew he hheld => ?_⟩⟩
  · rw [frame]; rfl
  · have revised : (owing (plain .ok) (revise u)).book = (s.book.putCue q).revise := congrArg Book.revise book
    rw [revised]; rfl
  · show u.book.cue? _ = _
    rw [book, cue?_putCue, if_pos rfl]
  · show u.book.cue? _ = _
    rw [book, cue?_putCue, if_neg hne]
  · obtain ⟨p', h⟩ := patch?_putCue_count hp q
    refine ⟨p', ?_⟩
    show u.book.patch? c n = _ ∧ _
    rw [book]
    exact h
  · obtain ⟨r', h⟩ := song?_putCue_count hr q
    refine ⟨r', ?_⟩
    show u.book.song? n = _ ∧ _
    rw [book]
    exact h
  · rw [closed ho]
    exact ⟨rfl, rfl⟩
  · have ho : x.cue.isOpen = true := by rw [cue]; exact ho
    obtain rfl := amended hold
    have standby := amendRun_standby q x
    rw [cue] at standby
    refine ⟨standby, fun hp hc => ?_, fun h => ?_⟩
    · have pass := amendRun_cut ho (run ▸ hp) (cut.2 hc)
      have timers := passCue_timers q.number x
      rw [cue] at timers
      rw [pass]
      exact ⟨passCue_self ho (cue ▸ he), timers⟩
    · have kept := amendRun_kept ho (h.imp (run ▸ ·) (mt cut.1))
      rw [run, cue] at kept
      exact kept
  · have ho : x.cue.isOpen = true := by rw [cue]; exact ho
    have he : x.cue.entry? q.number = none := by rw [cue]; exact he
    obtain rfl := created hnew
    have kept := createRun_kept (q := q) (s := x) (by rw [cue]; exact hheld)
    rw [cue] at kept
    refine ⟨kept.1, kept.2, fun h => ?_, fun hc hafter => ?_⟩
    · have first : x.firstRun q = .passed := firstRun_passed (h.imp cut.2 (cue ▸ ·))
      have h := createRun_first ho he fun h => absurd (first.symm.trans h.1) (by simp)
      rw [first, cue] at h
      exact h
    · have first : x.firstRun q = .pending := firstRun_pending (mt cut.1 hc) (cue ▸ hafter)
      refine ⟨fun hgo hs => createRun_stands ho he first ((isGo_iff q).2 hgo) (cue ▸ hs), fun hno => ?_⟩
      have h := createRun_first ho he fun ⟨_, hgo, hs⟩ =>
        hno.elim (fun h => h ((isGo_iff q).1 hgo)) fun h => h (cue ▸ hs)
      rw [first, cue] at h
      exact h

end Sys2Proof.Proofs

/-! PROOFS. SONG CUT and SONG RESTORE (R20, R21). -/

namespace Sys2Proof.Proofs

open Sys2Proof.Machine Sys2Proof.Laws

variable {s t : State}

/-! ## The requests -/

/-- The state in which a changed flag reaches the run states. -/
def flagged (n : Nat) (f : Running) (s : State) : State := { s with book := (s.book.setRunning n f).revise }

section running
variable {n : Nat} {f : Running} {runs : Nat → State → State} {r : Song} (hb : s.busy = false) (h1 : 1 ≤ n) (h64 : n ≤ 64)
  (hr : s.book.song? n = some r)
include hb h1 h64 hr

theorem decideRunning_locked (hcur : s.currentSong = some n) : decideRunning n f runs s = refuse .inUse s := by
  have range : inRange 1 64 n = true := by simp [inRange, h1, h64]
  simp [decideRunning, hb, range, hr, (isCurrentSong_iff s n).2 hcur]

variable (hcur : s.currentSong ≠ some n)
include hcur

theorem decideRunning_same (hf : r.running = f) : decideRunning n f runs s = (s, plain .ok) := by
  have range : inRange 1 64 n = true := by simp [inRange, h1, h64]
  simp [decideRunning, hb, range, hr, Bool.eq_false_iff.2 (mt (isCurrentSong_iff s n).1 hcur), hf]

theorem decideRunning_shut (hf : r.running ≠ f) (ho : s.cue.isOpen = false) :
    decideRunning n f runs s = (flagged n f s, plain .ok) := by
  have range : inRange 1 64 n = true := by simp [inRange, h1, h64]
  simp only [decideRunning, hb, range, hr, Bool.eq_false_iff.2 (mt (isCurrentSong_iff s n).1 hcur), hf, Bool.not_true,
    Bool.false_eq_true, if_false, revise, ho]
  rfl

theorem decideRunning_open (hf : r.running ≠ f) (ho : s.cue.isOpen = true) :
    decideRunning n f runs s = (runs n (flagged n f s), plain .ok) := by
  have range : inRange 1 64 n = true := by simp [inRange, h1, h64]
  simp only [decideRunning, hb, range, hr, Bool.eq_false_iff.2 (mt (isCurrentSong_iff s n).1 hcur), hf, Bool.not_true,
    Bool.false_eq_true, if_false, revise, ho, if_true]
  rfl

end running

/-! ## Lists of cues -/

/-- The first of the cues picked twice is the head of those picked by both. -/
theorem find?_numbers_filter (l : List Cue) (p : Cue → Bool) (q : CueNumber → Bool) (r : Cue → Bool)
    (h : ∀ d ∈ l, (p d && q d.number) = r d) :
    ((l.filter p).map (·.number)).find? q = ((l.filter r).map (·.number)).head? := by
  rw [List.head?_map, List.head?_filter, List.find?_map, List.find?_filter, ← List.head?_filter, ← List.head?_filter]
  refine congrArg (fun l : List Cue => l.head?.map (·.number)) (List.filter_congr fun d hd => ?_)
  simp [← h d hd]

/-- Where each number stands once, a cue of the book is walked along exactly if it is of the song. -/
theorem number_mem_cuesOf {b : Book} (hb : b.cues.Pairwise fun x y => x.number ≠ y.number) {song : Nat} {c : Cue}
    (hc : c ∈ b.cues) : c.number ∈ (b.cuesOf song).map (·.number) ↔ c.song = some song := by
  simp only [List.mem_map, mem_cuesOf]
  have once : (b.cues.map (·.number)).Nodup := List.pairwise_map.2 hb
  refine ⟨fun ⟨d, ⟨hd, hs⟩, hn⟩ => ?_, fun h => ⟨c, ⟨hc, h⟩, rfl⟩⟩
  exact List.inj_on_of_nodup_map once hd hc hn ▸ hs

/-! ## The standby placed after a walk -/

/-- A standby placed, or none, leaves every other cue's run state. -/
theorem placeStandby_runState (x : Option CueNumber) (ho : s.cue.isOpen = true) {k : CueNumber}
    (he : (s.cue.entry? k).isSome = true) :
    (placeStandby x s).runState k = if x = some k then .standby else s.runState k := by
  cases x with
  | none => rfl
  | some m =>
    by_cases hk : k = m
    · subst hk
      rw [placeStandby_self ho he, if_pos rfl]
    · rw [placeStandby_other hk, if_neg fun h => hk (Option.some.inj h).symm]

theorem placeStandby_entry_kept {x : Option CueNumber} {k : CueNumber} (h : x ≠ some k) :
    (placeStandby x s).cue.entry? k = s.cue.entry? k := by
  cases x with
  | none => rfl
  | some m => exact (placeStandby_entry? ..).trans (if_neg fun hk => h (congrArg some hk.symm))

theorem firstGoAfter_pending {x : Option CueNumber} {m : CueNumber} (h : s.firstGoAfter x = some m) :
    s.runState m = .pending := by
  obtain ⟨c, -, rfl, -, hp⟩ := mem_pendingGo (firstGoAfter_mem h)
  exact hp

/-! ## SONG CUT (R20) -/

/-- The run state that a cut gives one of the song's cues. -/
def cutState (st : RunState) : RunState := if st = .pending ∨ st = .standby then .passed else st

theorem state_cutEntry (e : RunEntry) : (cutEntry e).state = cutState e.state := by
  obtain ⟨cue, state, mark, failed⟩ := e
  cases state <;> rfl

/-- A cue's run state after a walk that changes the entries of some cues. -/
theorem runState_walk {l : List CueNumber} {f : RunEntry → RunEntry} {g : RunState → RunState} {k : CueNumber}
    (ho : s.cue.isOpen = true) (ht : t.cue.isOpen = true)
    (hentry : t.cue.entry? k = if k ∈ l then (s.cue.entry? k).map f else s.cue.entry? k)
    (hf : ∀ e, s.cue.entry? k = some e → (f e).state = g e.state) (he : (s.cue.entry? k).isSome = true) :
    t.runState k = if k ∈ l then g (s.runState k) else s.runState k := by
  obtain ⟨e, he⟩ := Option.isSome_iff_exists.1 he
  rw [he] at hentry
  rw [runState_of_entry ho he]
  split at hentry
  next h => rw [if_pos h, runState_of_entry ht hentry, hf e he]
  next h => rw [if_neg h, runState_of_entry ht hentry]

theorem cutCue_around (s : State) (c : Cue) : aroundRuns (cutCue s c) = aroundRuns s := by
  unfold cutCue
  split
  · exact passCue_around ..
  · exact passCue_around ..
  · rfl
  · rfl
  · rfl

theorem cutRuns_around (song : Nat) (s : State) : aroundRuns (cutRuns song s) = aroundRuns s := by
  unfold cutRuns
  extract_lets old t
  have walked : aroundRuns t = aroundRuns s := aroundRuns_foldl cutCue_around _ s
  clear_value t
  generalize old = x
  cases x with
  | none => exact walked
  | some n =>
    dsimp only
    split
    · exact (placeStandby_around ..).trans walked
    · exact walked

/-- A cue that is not PENDING or in STANDBY stays as it is at a cut; another is passed, if it has an entry. -/
theorem cutCue_self_runState (s : State) (q : Cue) (h : s.runState q.number ≠ .pending ∧ s.runState q.number ≠ .standby) :
    (cutCue s q).runState q.number = s.runState q.number := by
  have ho := open_of_runState h.1
  obtain ⟨e, he, hes⟩ := entry_of_runState h.1
  obtain ⟨hopen, hentry⟩ := cutCue_steps s q ho
  refine (runState_of_entry hopen (e := cutEntry e) ((hentry _).trans ?_)).trans ?_
  · rw [if_pos rfl, he, Option.map_some]
  · rw [state_cutEntry, hes, cutState, if_neg (not_or.2 h)]

/-- A timer stays at a cut unless its cue is PENDING or in STANDBY (R20, R44). -/
theorem mem_cutCue_timers (s : State) (q : Cue) (x : FollowTimer) : x ∈ (cutCue s q).cue.timers ↔
    x ∈ s.cue.timers ∧ (q.number = x.cue → s.runState q.number ≠ .pending ∧ s.runState q.number ≠ .standby) := by
  have passed : x ∈ (passCue q.number s).cue.timers ↔ x ∈ s.cue.timers ∧ q.number ≠ x.cue := by
    rw [passCue_timers, List.mem_filter, decide_eq_true_eq, ne_comm]
  unfold cutCue
  cases hr : s.runState q.number with
  | pending | standby => simpa using passed
  | firing | complete | passed => simp [mapRun]

theorem mem_cutCues_timers (l : List Cue) (ho : s.cue.isOpen = true) (x : FollowTimer) :
    x ∈ (l.foldl cutCue s).cue.timers ↔
    x ∈ s.cue.timers ∧ ∀ c ∈ l, c.number = x.cue → s.runState c.number ≠ .pending ∧ s.runState c.number ≠ .standby := by
  induction l generalizing s with
  | nil => simp
  | cons q l ih =>
    obtain ⟨hopen, hentry⟩ := cutCue_steps s q ho
    have other : ∀ k, k ≠ q.number → (cutCue s q).runState k = s.runState k := fun k hk =>
      runState_congr (hopen.trans ho.symm) ((hentry k).trans (if_neg hk))
    rw [List.foldl_cons, ih hopen, mem_cutCue_timers, List.forall_mem_cons, and_assoc]
    refine and_congr_right fun _ => and_congr_right fun hq => forall₂_congr fun c _ => forall_congr' fun hc => ?_
    by_cases h : c.number = q.number
    · rw [h, cutCue_self_runState s q (hq (h.symm.trans hc))]
    · rw [other _ h]

theorem cutWalk_open (song : Nat) (ho : s.cue.isOpen = true) :
    ((s.book.cuesOf song).foldl cutCue s).cue.isOpen = true :=
  (outside_isOpen (outside_foldl _ cutCue_outside _ s)).trans ho

/-- A cut ends with its walk, or moves a standby that the walk has passed (R20). -/
theorem cutRuns_cases (song : Nat) (s : State) :
    (cutRuns song s = (s.book.cuesOf song).foldl cutCue s ∧
      ∀ n, s.cue.standby = some n → ((s.book.cuesOf song).foldl cutCue s).runState n ≠ .passed) ∨
    ∃ n, s.cue.standby = some n ∧ ((s.book.cuesOf song).foldl cutCue s).runState n = .passed ∧
      cutRuns song s = placeStandby (((s.book.cuesOf song).foldl cutCue s).firstGoAfter (some n))
        ((s.book.cuesOf song).foldl cutCue s) := by
  unfold cutRuns
  dsimp only
  generalize (s.book.cuesOf song).foldl cutCue s = walk
  cases hn : s.cue.standby with
  | none => exact .inl ⟨rfl, fun n h => nomatch h⟩
  | some n =>
    dsimp only
    split
    next hp => exact .inr ⟨n, rfl, hp, rfl⟩
    next hp => exact .inl ⟨rfl, fun m hm => Option.some.inj hm ▸ hp⟩

section cut
variable {song : Nat} (ho : s.cue.isOpen = true) (hpair : s.book.cues.Pairwise fun x y => x.number ≠ y.number)
  (hentries : ∀ c ∈ s.book.cues, (s.cue.entry? c.number).isSome = true)
include ho hpair

/-- The entries after a cut's walk. -/
theorem cutWalk_entry {c : Cue} (hc : c ∈ s.book.cues) :
    ((s.book.cuesOf song).foldl cutCue s).cue.entry? c.number =
      if c.song = some song then (s.cue.entry? c.number).map cutEntry else s.cue.entry? c.number := by
  refine (entry?_walk cutCue_steps cutEntry_cutEntry (s.book.cuesOf song) ho c.number).trans ?_
  simp only [number_mem_cuesOf hpair hc]

include hentries

theorem cutWalk_runState {c : Cue} (hc : c ∈ s.book.cues) :
    ((s.book.cuesOf song).foldl cutCue s).runState c.number =
      if c.song = some song then cutState (s.runState c.number) else s.runState c.number := by
  have h := runState_walk (g := cutState) ho (cutWalk_open song ho)
    (entry?_walk cutCue_steps cutEntry_cutEntry (s.book.cuesOf song) ho c.number) (fun e _ => state_cutEntry e) (hentries c hc)
  simpa only [number_mem_cuesOf hpair hc] using h

theorem cutWalk_entries {c : Cue} (hc : c ∈ s.book.cues) :
    (((s.book.cuesOf song).foldl cutCue s).cue.entry? c.number).isSome = true := by
  rw [cutWalk_entry ho hpair hc]
  split
  · rw [Option.isSome_map]; exact hentries c hc
  · exact hentries c hc

/-- The standby after a cut is the next PENDING GO cue after the old one that is of another song (R20). -/
theorem cutWalk_next (n : CueNumber) :
    ((s.book.cuesOf song).foldl cutCue s).firstGoAfter (some n) =
      ((s.book.cues.filter fun d => decide (d.trigger = .go) && n.before d.number &&
        decide (d.song ≠ some song) && decide (s.runState d.number = .pending)).map (·.number)).head? := by
  have book : ((s.book.cuesOf song).foldl cutCue s).book = s.book :=
    outside_book (outside_foldl _ cutCue_outside _ s)
  unfold State.firstGoAfter State.pendingGo
  rw [book]
  refine find?_numbers_filter _ _ _ _ fun d hd => ?_
  rw [cutWalk_runState ho hpair hentries hd]
  have notPending : cutState (s.runState d.number) ≠ .pending := by
    cases h : s.runState d.number <;> simp [cutState]
  by_cases hs : d.song = some song
  · simp [hs, notPending]
  · simp only [hs, if_false, Cue.isGo, ne_eq, not_false_eq_true, decide_true, Bool.and_true]
    ac_rfl

/-- The standby that a cut places is none of the song's cues. -/
theorem cutWalk_next_other {n : CueNumber} {c : Cue} (hc : c ∈ s.book.cues) (hs : c.song = some song) :
    ((s.book.cuesOf song).foldl cutCue s).firstGoAfter (some n) ≠ some c.number := by
  intro h
  have pending := firstGoAfter_pending h
  rw [cutWalk_runState ho hpair hentries hc, if_pos hs] at pending
  revert pending
  cases s.runState c.number <;> simp [cutState]

theorem cutRuns_song {c : Cue} (hc : c ∈ s.book.cues) (hs : c.song = some song) :
    (cutRuns song s).runState c.number = cutState (s.runState c.number) := by
  have walked := cutWalk_runState (song := song) ho hpair hentries hc
  rw [if_pos hs] at walked
  rcases cutRuns_cases song s with ⟨h, -⟩ | ⟨n, -, -, h⟩
  · rw [h, walked]
  · rw [h, placeStandby_runState _ (cutWalk_open song ho) (cutWalk_entries ho hpair hentries hc), walked,
      if_neg (cutWalk_next_other ho hpair hentries hc hs)]

theorem cutRuns_other (hstandby : ∀ m : CueNumber, s.cue.standby = some m → s.runState m = .standby) {c : Cue}
    (hc : c ∈ s.book.cues) (hs : c.song ≠ some song) : (cutRuns song s).runState c.number =
      if (cutRuns song s).cue.standby = some c.number then .standby else s.runState c.number := by
  have walked := cutWalk_runState (song := song) ho hpair hentries hc
  rw [if_neg hs] at walked
  rcases cutRuns_cases song s with ⟨h, -⟩ | ⟨n, -, -, h⟩
  · rw [h, walked, cutCues_standby]
    split
    next hn => exact hstandby _ hn
    · rfl
  · rw [h, placeStandby_runState _ (cutWalk_open song ho) (cutWalk_entries ho hpair hentries hc), walked,
      placeStandby_standby]

/-- A FIRING cue of the song that a resume has marked is to return as PASSED (R20). -/
theorem cutRuns_marks {c : Cue} (hc : c ∈ s.book.cues) (hs : c.song = some song) {e : RunEntry}
    (he : s.cue.entry? c.number = some e) (hf : e.state = .firing) :
    (cutRuns song s).cue.entry? c.number = some { e with mark := e.mark.map fun _ => .passed } := by
  have walked := cutWalk_entry (song := song) ho hpair hc
  have marked : cutEntry e = { e with mark := e.mark.map fun _ => .passed } := by simp only [cutEntry, hf]
  rw [if_pos hs, he, Option.map_some, marked] at walked
  rcases cutRuns_cases song s with ⟨h, -⟩ | ⟨n, -, -, h⟩
  · rw [h, walked]
  · rw [h, placeStandby_entry_kept (cutWalk_next_other ho hpair hentries hc hs), walked]

theorem cutRuns_standby (hstandby : ∀ m : CueNumber, s.cue.standby = some m → s.runState m = .standby) {c : Cue}
    (hc : c ∈ s.book.cues) (hn : s.cue.standby = some c.number) : (cutRuns song s).cue.standby =
      if c.song = some song then
        ((s.book.cues.filter fun d => decide (d.trigger = .go) && c.number.before d.number &&
          decide (d.song ≠ some song) && decide (s.runState d.number = .pending)).map (·.number)).head?
      else some c.number := by
  have walked := cutWalk_runState (song := song) ho hpair hentries hc
  rw [hstandby _ hn] at walked
  by_cases hs : c.song = some song
  · rw [if_pos hs] at walked ⊢
    rcases cutRuns_cases song s with ⟨-, h⟩ | ⟨n, hn', -, h⟩
    · exact absurd walked (h _ hn)
    · obtain rfl : c.number = n := Option.some.inj (hn.symm.trans hn')
      rw [h, placeStandby_standby, cutWalk_next ho hpair hentries]
  · rw [if_neg hs] at walked ⊢
    rcases cutRuns_cases song s with ⟨h, -⟩ | ⟨n, hn', hp, -⟩
    · rw [h, cutCues_standby, hn]
    · obtain rfl : c.number = n := Option.some.inj (hn.symm.trans hn')
      exact absurd (walked.symm.trans hp) (by simp)

omit hpair hentries in
theorem mem_cutRuns_timers (x : FollowTimer) : x ∈ (cutRuns song s).cue.timers ↔ x ∈ s.cue.timers ∧
    ∀ c ∈ s.book.cues, c.number = x.cue → c.song = some song →
      s.runState c.number ≠ .pending ∧ s.runState c.number ≠ .standby := by
  have walked := mem_cutCues_timers (s.book.cuesOf song) ho x
  have same : (cutRuns song s).cue.timers = ((s.book.cuesOf song).foldl cutCue s).cue.timers := by
    rcases cutRuns_cases song s with ⟨h, -⟩ | ⟨n, -, -, h⟩
    · rw [h]
    · rw [h, placeStandby_timers]
  rw [same, walked]
  refine and_congr_right fun _ => forall_congr' fun c => ?_
  rw [mem_cuesOf, and_imp]
  exact forall_congr' fun _ => ⟨fun h hx hs => h hs hx, fun h hs hx => h hx hs⟩

end cut

/-! ## SONG RESTORE (R21) -/

/-- The cue is after the last fired one, or none has fired (R21). -/
def aheadOf (last : Option CueNumber) (k : CueNumber) : Bool := last.all fun m => m.before k

theorem ahead_eq (s : State) (k : CueNumber) : s.ahead k = aheadOf s.cue.lastFired k := by
  unfold State.ahead aheadOf
  cases s.cue.lastFired <;> rfl

/-- What a restore makes of the entry of one of the song's cues, with the last fired cue's number (R21). -/
def restoreEntry (last : Option CueNumber) (e : RunEntry) : RunEntry :=
  match e.state with
  | .passed => if aheadOf last e.cue = true then newState .pending e else e
  | .firing =>
    if e.mark = some .passed then { e with mark := some (if aheadOf last e.cue = true then .pending else .complete) } else e
  | .pending | .standby | .complete => e

theorem restoreEntry_restoreEntry (last : Option CueNumber) (e : RunEntry) :
    restoreEntry last (restoreEntry last e) = restoreEntry last e := by
  obtain ⟨cue, state, mark, failed⟩ := e
  cases h : aheadOf last cue <;> cases state <;> simp [restoreEntry, newState, h]
  all_goals cases mark with
    | none => simp
    | some m => cases m <;> simp

theorem restoreCue_around (s : State) (c : Cue) : aroundRuns (restoreCue s c) = aroundRuns s := by
  unfold restoreCue
  split
  · split
    · exact setRun_around ..
    · rfl
  all_goals rfl

/-- The run states of an open show whose last fired cue is given. -/
def OpenAt (last : Option CueNumber) (s : State) : Prop := s.cue.isOpen = true ∧ s.cue.lastFired = last

theorem openAt_of_around {last : Option CueNumber} (h : aroundRuns t = aroundRuns s) (hs : OpenAt last s) : OpenAt last t :=
  ⟨(congrArg (fun x => x.cue.isOpen) h : t.cue.isOpen = s.cue.isOpen).trans hs.1,
    (congrArg (fun x => x.cue.lastFired) h : t.cue.lastFired = s.cue.lastFired).trans hs.2⟩

theorem restoreCue_steps (last : Option CueNumber) : StepsBy (OpenAt last) restoreCue (restoreEntry last) := by
  intro s q hs
  refine ⟨openAt_of_around (restoreCue_around s q) hs, fun k => ?_⟩
  obtain ⟨ho, rfl⟩ := hs
  have cue : ∀ {e : RunEntry}, s.cue.entry? q.number = some e → e.cue = q.number := fun he => by
    simpa using List.find?_some he
  cases hr : s.runState q.number with
  | passed =>
    by_cases ha : s.ahead q.number = true
    · rw [show restoreCue s q = setRun q.number .pending s by simp [restoreCue, hr, ha], entry?_setRun]
      rw [ahead_eq] at ha
      exact map_entry_of_state ho (fun e he hs => by simp [restoreEntry, hs, hr, cue he, ha]) k
    · rw [show restoreCue s q = s by simp [restoreCue, hr, ha]]
      rw [ahead_eq] at ha
      exact (ite_map_id ..).trans (map_entry_of_state ho (fun e he hs => by simp [restoreEntry, hs, hr, cue he, ha]) k)
  | firing =>
    rw [show restoreCue s q = mapRun q.number (fun r => if r.mark = some .passed then
        { r with mark := some (if s.ahead q.number = true then .pending else .complete) } else r) s by
      simp [restoreCue, hr]]
    rw [entry?_mapRun q.number (f := fun r => if r.mark = some .passed then
        { r with mark := some (if s.ahead q.number = true then .pending else .complete) } else r)
      (fun r => by split <;> rfl), ahead_eq]
    exact map_entry_of_state ho (fun e he hs => by simp only [restoreEntry, hs, hr, cue he]) k
  | pending | standby | complete =>
    rw [show restoreCue s q = s by simp [restoreCue, hr]]
    exact (ite_map_id ..).trans (map_entry_of_state ho (fun e _ hs => by simp [restoreEntry, hs, hr]) k)

/-- The run state that a restore gives one of the song's cues. -/
def restoreState (ahead : Bool) (st : RunState) : RunState := if st = .passed ∧ ahead = true then .pending else st

theorem state_restoreEntry (last : Option CueNumber) (e : RunEntry) :
    (restoreEntry last e).state = restoreState (aheadOf last e.cue) e.state := by
  obtain ⟨cue, state, mark, failed⟩ := e
  cases h : aheadOf last cue <;> cases state <;> simp [restoreEntry, restoreState, newState, h]
  all_goals split <;> rfl

theorem restoreCue_kept (s : State) (q : Cue) :
    (restoreCue s q).cue.timers = s.cue.timers ∧ (restoreCue s q).cue.standby = s.cue.standby := by
  have set : (setRun q.number .pending s).cue.timers = s.cue.timers := by rw [setRun_eq]; split <;> rfl
  unfold restoreCue
  split
  · split
    · exact ⟨set, setRun_standby ..⟩
    · exact ⟨rfl, rfl⟩
  all_goals exact ⟨rfl, rfl⟩

theorem restoreCues_kept (l : List Cue) (s : State) :
    (l.foldl restoreCue s).cue.timers = s.cue.timers ∧ (l.foldl restoreCue s).cue.standby = s.cue.standby := by
  induction l generalizing s with
  | nil => exact ⟨rfl, rfl⟩
  | cons q l ih =>
    obtain ⟨timers, standby⟩ := restoreCue_kept s q
    exact ⟨(ih _).1.trans timers, (ih _).2.trans standby⟩

/-- A restore ends with its walk, or places a standby where none stands (R21). -/
theorem restoreRuns_cases (song : Nat) (s : State) :
    (s.cue.standby ≠ none ∧ restoreRuns song s = (s.book.cuesOf song).foldl restoreCue s) ∨
    (s.cue.standby = none ∧ restoreRuns song s =
      placeStandby (((s.book.cuesOf song).foldl restoreCue s).firstGoAfter s.cue.lastFired)
        ((s.book.cuesOf song).foldl restoreCue s)) := by
  have standby := (restoreCues_kept (s.book.cuesOf song) s).2
  have last : ((s.book.cuesOf song).foldl restoreCue s).cue.lastFired = s.cue.lastFired :=
    (congrArg (fun x => x.cue.lastFired) (aroundRuns_foldl restoreCue_around (s.book.cuesOf song) s) :)
  unfold restoreRuns
  dsimp only
  generalize (s.book.cuesOf song).foldl restoreCue s = walk at standby last
  rw [standby, last]
  split
  next h => exact .inr ⟨h, rfl⟩
  next h => exact .inl ⟨h, rfl⟩

theorem restoreRuns_around (song : Nat) (s : State) : aroundRuns (restoreRuns song s) = aroundRuns s := by
  have walked := aroundRuns_foldl restoreCue_around (s.book.cuesOf song) s
  rcases restoreRuns_cases song s with ⟨-, h⟩ | ⟨-, h⟩
  · rw [h, walked]
  · rw [h, placeStandby_around, walked]

theorem restoreRuns_timers (song : Nat) (s : State) : (restoreRuns song s).cue.timers = s.cue.timers := by
  have walked := (restoreCues_kept (s.book.cuesOf song) s).1
  rcases restoreRuns_cases song s with ⟨-, h⟩ | ⟨-, h⟩
  · rw [h, walked]
  · rw [h, placeStandby_timers, walked]

/-- A standby that stands is left by a restore (R21). -/
theorem restoreRuns_kept (song : Nat) (s : State) (hn : s.cue.standby ≠ none) :
    (restoreRuns song s).cue.standby = s.cue.standby := by
  rcases restoreRuns_cases song s with ⟨-, h⟩ | ⟨h, -⟩
  · rw [h, (restoreCues_kept ..).2]
  · exact absurd h hn

theorem restoreWalk_open (song : Nat) (ho : s.cue.isOpen = true) :
    ((s.book.cuesOf song).foldl restoreCue s).cue.isOpen = true :=
  (openAt_of_around (aroundRuns_foldl restoreCue_around (s.book.cuesOf song) s) ⟨ho, rfl⟩).1

theorem firstGoAfter_eq (s : State) (x : Option CueNumber) : s.firstGoAfter x = s.pendingGo.find? (aheadOf x) := by
  cases x <;> rfl

section restore
variable {song : Nat} (ho : s.cue.isOpen = true) (hpair : s.book.cues.Pairwise fun x y => x.number ≠ y.number)
  (hentries : ∀ c ∈ s.book.cues, (s.cue.entry? c.number).isSome = true)
include ho hpair

/-- The entries after a restore's walk. -/
theorem restoreWalk_entry {c : Cue} (hc : c ∈ s.book.cues) :
    ((s.book.cuesOf song).foldl restoreCue s).cue.entry? c.number =
      if c.song = some song then (s.cue.entry? c.number).map (restoreEntry s.cue.lastFired)
      else s.cue.entry? c.number := by
  refine (entry?_walk (restoreCue_steps s.cue.lastFired) (restoreEntry_restoreEntry _) (s.book.cuesOf song) ⟨ho, rfl⟩
    c.number).trans ?_
  simp only [number_mem_cuesOf hpair hc]

include hentries

theorem restoreWalk_runState {c : Cue} (hc : c ∈ s.book.cues) :
    ((s.book.cuesOf song).foldl restoreCue s).runState c.number =
      if c.song = some song then restoreState (aheadOf s.cue.lastFired c.number) (s.runState c.number)
      else s.runState c.number := by
  have h := runState_walk (g := restoreState (aheadOf s.cue.lastFired c.number)) ho (restoreWalk_open song ho)
    (entry?_walk (restoreCue_steps s.cue.lastFired) (restoreEntry_restoreEntry _) (s.book.cuesOf song) ⟨ho, rfl⟩ c.number)
    (fun e he => by
      rw [state_restoreEntry, show e.cue = c.number by simpa using List.find?_some he]) (hentries c hc)
  simpa only [number_mem_cuesOf hpair hc] using h

theorem restoreWalk_entries {c : Cue} (hc : c ∈ s.book.cues) :
    (((s.book.cuesOf song).foldl restoreCue s).cue.entry? c.number).isSome = true := by
  rw [restoreWalk_entry ho hpair hc]
  split
  · rw [Option.isSome_map]; exact hentries c hc
  · exact hentries c hc

theorem restoreRuns_runState (hstandby : ∀ m : CueNumber, s.cue.standby = some m → s.runState m = .standby) {c : Cue}
    (hc : c ∈ s.book.cues) : (restoreRuns song s).runState c.number =
      if (restoreRuns song s).cue.standby = some c.number then .standby
      else if c.song = some song ∧ s.runState c.number = .passed ∧ aheadOf s.cue.lastFired c.number = true then .pending
      else s.runState c.number := by
  have walked : ((s.book.cuesOf song).foldl restoreCue s).runState c.number =
      if c.song = some song ∧ s.runState c.number = .passed ∧ aheadOf s.cue.lastFired c.number = true then .pending
      else s.runState c.number := by
    rw [restoreWalk_runState ho hpair hentries hc, restoreState]
    by_cases hs : c.song = some song <;> simp only [hs, true_and, false_and, if_true, if_false]
  rcases restoreRuns_cases song s with ⟨-, h⟩ | ⟨-, h⟩
  · rw [h, walked, (restoreCues_kept ..).2]
    by_cases hn : s.cue.standby = some c.number
    · simp [hn, hstandby _ hn]
    · rw [if_neg hn]
  · rw [h, placeStandby_runState _ (restoreWalk_open song ho) (restoreWalk_entries ho hpair hentries hc), walked,
      placeStandby_standby]

omit hentries in
/-- A FIRING cue of the song that a cut has marked to return as PASSED is marked by its place again (R21). -/
theorem restoreRuns_marks {c : Cue} (hc : c ∈ s.book.cues) (hs : c.song = some song) {e : RunEntry}
    (he : s.cue.entry? c.number = some e) (hf : e.state = .firing) (hm : e.mark = some .passed) :
    (restoreRuns song s).cue.entry? c.number =
      some { e with mark := some (if aheadOf s.cue.lastFired c.number = true then .pending else .complete) } := by
  have walked := restoreWalk_entry (song := song) ho hpair hc
  have cue : e.cue = c.number := by simpa using List.find?_some he
  have marked : restoreEntry s.cue.lastFired e =
      { e with mark := some (if aheadOf s.cue.lastFired c.number = true then .pending else .complete) } := by
    simp only [restoreEntry, hf, hm, cue, if_true]
  rw [if_pos hs, he, Option.map_some, marked] at walked
  rcases restoreRuns_cases song s with ⟨-, h⟩ | ⟨-, h⟩
  · rw [h, walked]
  · have firing := runState_of_entry (restoreWalk_open song ho) walked
    rw [h, placeStandby_entry_kept (fun h => ?_), walked]
    exact absurd ((firstGoAfter_pending h).symm.trans (firing.trans hf)) (by simp)

theorem restoreRuns_standby (hn : s.cue.standby = none) : (restoreRuns song s).cue.standby =
    ((s.book.cues.filter fun d => decide (d.trigger = .go) && aheadOf s.cue.lastFired d.number &&
      (decide (s.runState d.number = .pending) ||
        (decide (d.song = some song) && decide (s.runState d.number = .passed)))).map (·.number)).head? := by
  rcases restoreRuns_cases song s with ⟨h, -⟩ | ⟨-, h⟩
  · exact absurd hn h
  have book : ((s.book.cuesOf song).foldl restoreCue s).book = s.book :=
    outside_book (outside_foldl _ restoreCue_outside _ s)
  rw [h, placeStandby_standby, firstGoAfter_eq, State.pendingGo, book]
  refine find?_numbers_filter _ _ _ _ fun d hd => ?_
  rw [restoreWalk_runState ho hpair hentries hd, restoreState]
  cases ha : aheadOf s.cue.lastFired d.number with
  | false => simp
  | true =>
    by_cases hs : d.song = some song <;> cases hr : s.runState d.number <;> simp [Cue.isGo, hs]

end restore

/-! ## The obligation -/

theorem song?_flagged {n : Nat} {r : Song} (hr : s.book.song? n = some r) (f : Running) :
    (s.book.setRunning n f).song? n = some { r with running := f } := by
  rw [song?_setRunning, hr, Option.map_some, if_pos rfl]

theorem song?_flagged_other {n m : Nat} (h : m ≠ n) (f : Running) (b : Book) :
    (b.setRunning n f).song? m = b.song? m := by
  rw [song?_setRunning]
  simp [h]

/-- Settles O17, from the walks along the song's cues and the standby placed after them. -/
theorem songCutPassesItsCues : Obligations.SongCutPassesItsCues := by
  intro n r s ha hb h1 h64 hr
  have locked := fun (h : s.currentSong = some n) (f : Running) (runs : Nat → State → State) =>
    request_refused ha (decideRunning_locked (s := s.taking) (f := f) (runs := runs) hb h1 h64 hr h)
  refine ⟨fun h => ⟨locked h .cut cutRuns, locked h .playing restoreRuns⟩, fun hcur => ?_⟩
  have same := fun (f : Running) (runs : Nat → State → State) (hf : r.running = f) =>
    request_decided ha (decideRunning_same (s := s.taking) (runs := runs) hb h1 h64 hr hcur hf)
  have shut := fun (f : Running) (runs : Nat → State → State) (hf : r.running ≠ f) (ho : s.cue.isOpen = false) =>
    request_decided ha (decideRunning_shut (s := s.taking) (runs := runs) hb h1 h64 hr hcur hf ho)
  have opened := fun (f : Running) (runs : Nat → State → State) (hf : r.running ≠ f) (ho : s.cue.isOpen = true) =>
    request_decided ha (decideRunning_open (s := s.taking) (runs := runs) hb h1 h64 hr hcur hf ho)
  refine ⟨same .cut cutRuns, same .playing restoreRuns, fun ho hf => shut .cut cutRuns (by simp [hf]) ho,
    fun ho hf => shut .playing restoreRuns (by simp [hf]) ho, fun f => ⟨song?_flagged hr f, rfl,
      fun m hm => song?_flagged_other hm f s.book⟩, fun ho hpair hentries hstandby => ⟨fun hf => ?_, fun hf => ?_⟩⟩
  · refine ⟨_, opened .cut cutRuns (by simp [hf]) ho, ?_⟩
    generalize hx : flagged n .cut s.taking = x
    have run : x.runState = s.runState := by rw [← hx]; rfl
    have cue : x.cue = s.cue := by rw [← hx]; rfl
    have cues : x.book.cues = s.book.cues := by rw [← hx]; rfl
    rw [← cue] at ho
    rw [← cues] at hpair
    rw [← cues, ← cue] at hentries
    rw [← run, ← cue] at hstandby
    rw [← run, ← cues, ← cue]
    have song := fun c hc hs => cutRuns_song (song := n) (c := c) ho hpair hentries hc hs
    have other := fun c hc hs => cutRuns_other (song := n) (c := c) ho hpair hentries hstandby hc hs
    have marks := fun c hc e hs he => cutRuns_marks (song := n) (c := c) (e := e) ho hpair hentries hc hs he
    have standby := fun c hc => cutRuns_standby (song := n) (c := c) ho hpair hentries hstandby hc
    have timers := mem_cutRuns_timers (song := n) ho
    obtain ⟨frame, engine⟩ := eq_of_around (cutRuns_around n x)
    generalize cutRuns n x = u at *
    exact ⟨by rw [frame, ← hx]; rfl, engine, song, other, marks, timers, standby⟩
  · refine ⟨_, opened .playing restoreRuns (by simp [hf]) ho, ?_⟩
    generalize hx : flagged n .playing s.taking = x
    have run : x.runState = s.runState := by rw [← hx]; rfl
    have cue : x.cue = s.cue := by rw [← hx]; rfl
    have cues : x.book.cues = s.book.cues := by rw [← hx]; rfl
    rw [← cue] at ho
    rw [← cues] at hpair
    rw [← cues, ← cue] at hentries
    rw [← run, ← cue] at hstandby
    rw [← run, ← cues, ← cue]
    have state := fun c hc => restoreRuns_runState (song := n) (c := c) ho hpair hentries hstandby hc
    have marks := fun c hc e hs he => restoreRuns_marks (song := n) (c := c) (e := e) ho hpair hc hs he
    have placed := restoreRuns_standby (song := n) ho hpair hentries
    have kept := restoreRuns_kept n x
    have timers := restoreRuns_timers n x
    obtain ⟨frame, engine⟩ := eq_of_around (restoreRuns_around n x)
    generalize restoreRuns n x = u at *
    rw [timers] at engine
    exact ⟨by rw [frame, ← hx]; rfl, engine, state, marks, kept, placed⟩

end Sys2Proof.Proofs

/-! PROOFS. The readers of fields and records take exactly what the encoder puts, and find bytes that end short (R177,
R184, R185). -/

namespace Sys2Proof.Proofs

open Sys2Proof.Machine Sys2Proof.Laws

/-! ## Readers that carry a value -/

/-- The bytes spell `x` to the reader: it takes them whole from the front of any bytes, and finds bytes that end short of
them to be BAD_LENGTH (R184, R185). -/
structure Carries {α : Type} (read : List Byte → Except Status (α × List Byte)) (bytes : List Byte) (x : α) : Prop where
  takes : ∀ rest, read (bytes ++ rest) = .ok (x, rest)
  short : ∀ p q, bytes = p ++ q → q ≠ [] → read p = .error .badLength

section combinators
variable {α β : Type} {f : List Byte → Except Status (α × List Byte)} {b b₁ b₂ : List Byte} {x : α} {y : β}

theorem carries_done (x : α) : Carries (fun b => .ok (x, b)) [] x where
  takes _ := rfl
  short _ _ h hq := absurd (List.append_eq_nil_iff.1 h.symm).2 hq

/-- One field after another. -/
theorem carries_bind {k : α × List Byte → Except Status (β × List Byte)} (hf : Carries f b₁ x)
    (hk : Carries (fun b => k (x, b)) b₂ y) : Carries (fun b => f b >>= k) (b₁ ++ b₂) y where
  takes rest := by
    rw [List.append_assoc, hf.takes]
    exact hk.takes rest
  short p q h hq := by
    rcases List.append_eq_append_iff.1 h with ⟨m, rfl, hm⟩ | ⟨m, rfl, rfl⟩
    · rw [hf.takes]
      exact hk.short m q hm hq
    · by_cases hm : m = []
      · subst hm
        have first := hf.takes []
        rw [List.append_nil] at first
        rw [List.append_nil] at first
        rw [first]
        exact hk.short [] b₂ rfl hq
      · rw [hf.short p m rfl hm]
        rfl

theorem carries_of_eq (h : Carries f b₁ x) (e : b₁ = b₂) : Carries f b₂ x := e ▸ h

end combinators

/-! ## Numbers and texts -/

theorem length_bigEndian (n v : Nat) : (bigEndian n v).length = n := by
  induction n with
  | zero => rfl
  | succ n ih => simp [bigEndian, ih]

theorem fromBigEndian_one {v : Nat} (h : v < 256) : fromBigEndian (bigEndian 1 v) = v := by
  simp only [bigEndian, fromBigEndian, List.foldl_cons, List.foldl_nil, BitVec.toNat_ofNat]
  omega

theorem fromBigEndian_two {v : Nat} (h : v < 65536) : fromBigEndian (bigEndian 2 v) = v := by
  simp only [bigEndian, fromBigEndian, List.foldl_cons, List.foldl_nil, BitVec.toNat_ofNat]
  omega

theorem readNum_carries {n v : Nat} (h : fromBigEndian (bigEndian n v) = v) : Carries (readNum n) (bigEndian n v) v where
  takes rest := by
    have hl := length_bigEndian n v
    rw [readNum, if_neg (by simp [hl]), List.take_left' hl, List.drop_left' hl, h]
  short p q hpq hq := by
    have hl := congrArg List.length hpq
    rw [length_bigEndian, List.length_append] at hl
    have := List.length_pos_of_ne_nil hq
    rw [readNum, if_pos (by omega)]

theorem readNum_one {v : Nat} (h : fits 1 v = true) : Carries (readNum 1) (bigEndian 1 v) v :=
  readNum_carries (fromBigEndian_one (by simpa [fits] using h))

theorem readNum_two {v : Nat} (h : fits 2 v = true) : Carries (readNum 2) (bigEndian 2 v) v :=
  readNum_carries (fromBigEndian_two (by simpa [fits] using h))

theorem readSigned_carries {v : Int} (h1 : -32768 ≤ v) (h2 : v ≤ 32767) : Carries readSigned (putSigned v) v := by
  have word : ((BitVec.ofInt 16 v).toNat) < 65536 := (BitVec.ofInt 16 v).isLt
  have value : (BitVec.ofNat 16 (BitVec.ofInt 16 v).toNat).toInt = v := by
    rw [BitVec.ofNat_toNat, BitVec.setWidth_eq, BitVec.toInt_ofInt]
    exact Int.bmod_eq_of_le (by omega) (by omega)
  have h : Carries readSigned (putSigned v ++ []) (BitVec.ofNat 16 (BitVec.ofInt 16 v).toNat).toInt :=
    carries_bind (readNum_carries (fromBigEndian_two word)) (carries_done (BitVec.ofNat 16 (BitVec.ofInt 16 v).toNat).toInt)
  rw [List.append_nil, value] at h
  exact h

theorem readText_carries {t : Text} (h : fitsText t = true) : Carries readText (putText t) t := by
  refine carries_bind (readNum_one h) ⟨fun rest => ?_, fun p q hpq hq => ?_⟩
  · show (if (t ++ rest).length < t.length then _ else _) = _
    rw [if_neg (by simp), List.take_left, List.drop_left]
  · have hl := congrArg List.length hpq
    rw [List.length_append] at hl
    have := List.length_pos_of_ne_nil hq
    show (if p.length < t.length then _ else _) = _
    rw [if_pos (by omega)]

/-! ## Optional fields and lists -/

section fields
variable {α : Type} {read : List Byte → Except Status (α × List Byte)} {put : α → List Byte}

theorem readOpt_carries {o : Option α} (h : ∀ x, o = some x → Carries read (put x) x) :
    Carries (readOpt read) (putOpt put o) o := by
  cases o with
  | none =>
    exact carries_of_eq (carries_bind (readNum_one (v := 0) rfl) (carries_done none)) (List.append_nil _)
  | some x =>
    exact carries_of_eq (carries_bind (readNum_one (v := 1) rfl) (carries_bind (h x rfl) (carries_done (some x)))) (by simp [putOpt])

theorem readTimes_carries {l : List α} (h : ∀ x ∈ l, Carries read (put x) x) :
    Carries (readTimes read l.length) (l.flatMap put) l := by
  induction l with
  | nil => exact carries_done []
  | cons x xs ih =>
    have rest := ih fun y hy => h y (List.mem_cons_of_mem x hy)
    exact carries_of_eq (carries_bind (h x List.mem_cons_self) (carries_bind rest (carries_done (x :: xs)))) (by simp)

theorem readList_carries {l : List α} (hl : fits 1 l.length = true) (h : ∀ x ∈ l, Carries read (put x) x) :
    Carries (readList read) (putList put l) l :=
  carries_bind (readNum_one hl) (readTimes_carries h)

end fields

/-! ## The parts of records (R4, R6) -/

theorem readEntry_carries {e : Entry} (h : fitsEntry e = true) : Carries readEntry (putEntry e) e := by
  simp only [fitsEntry, Bool.and_eq_true] at h
  obtain ⟨⟨h1, h2⟩, h3⟩ := h
  exact carries_of_eq (carries_bind (readNum_one h1) <| carries_bind (readNum_two h2) <| carries_bind (readNum_two h3) <|
    carries_done e) (by simp [putEntry])

theorem readEntries_carries {l : List Entry} (h : fitsList fitsEntry l = true) :
    Carries (readList readEntry) (putList putEntry l) l := by
  simp only [fitsList, Bool.and_eq_true, List.all_eq_true] at h
  exact readList_carries h.1 fun e he => readEntry_carries (h.2 e he)

theorem readTrigger_carries {t : Trigger} (h : fitsTrigger t = true) : Carries readTrigger (putTrigger t) t := by
  cases t with
  | go => exact carries_of_eq (carries_bind (readNum_one (v := 0) rfl) (carries_done Trigger.go)) (List.append_nil _)
  | bar bar beat lead =>
    simp only [fitsTrigger, Bool.and_eq_true] at h
    obtain ⟨⟨h1, h2⟩, h3⟩ := h
    exact carries_of_eq (carries_bind (readNum_one (v := 1) rfl) <| carries_bind (readNum_two h1) <|
      carries_bind (readNum_one h2) <| carries_bind (readNum_one h3) <| carries_done (Trigger.bar bar beat lead))
      (by simp [putTrigger])
  | follow delay =>
    exact carries_of_eq (carries_bind (readNum_one (v := 2) rfl) <| carries_bind (readNum_two h) <|
      carries_done (Trigger.follow delay)) (by simp [putTrigger])

theorem readTempo_carries {t : TempoAction} (h : fitsTempo t = true) : Carries readTempo (putTempo t) t := by
  cases t with
  | start song bar =>
    simp only [fitsTempo, Bool.and_eq_true] at h
    exact carries_of_eq (carries_bind (readNum_one (v := 0) rfl) <| carries_bind (readNum_one h.1) <|
      carries_bind (readNum_two h.2) <| carries_done (TempoAction.start song bar)) (by simp [putTempo])
  | hold => exact carries_of_eq (carries_bind (readNum_one (v := 1) rfl) (carries_done TempoAction.hold)) (List.append_nil _)
  | release => exact carries_of_eq (carries_bind (readNum_one (v := 2) rfl) (carries_done TempoAction.release)) (List.append_nil _)
  | setTempo value =>
    exact carries_of_eq (carries_bind (readNum_one (v := 3) rfl) <| carries_bind (readNum_two h) <|
      carries_done (TempoAction.setTempo value)) (by simp [putTempo])
  | park => exact carries_of_eq (carries_bind (readNum_one (v := 4) rfl) (carries_done TempoAction.park)) (List.append_nil _)

theorem readVamp_carries {v : VampAction} (h : fitsVamp v = true) : Carries readVamp (putVamp v) v := by
  cases v with
  | vamp first last =>
    simp only [fitsVamp, Bool.and_eq_true] at h
    exact carries_of_eq (carries_bind (readNum_one (v := 0) rfl) <| carries_bind (readNum_two h.1) <|
      carries_bind (readNum_two h.2) <| carries_done (VampAction.vamp first last)) (by simp [putVamp])
  | exit => exact carries_of_eq (carries_bind (readNum_one (v := 1) rfl) (carries_done VampAction.exit)) (List.append_nil _)

theorem readAction_carries {a : ActionWrite} (h : fitsAction a = true) : Carries readAction (putAction a) a := by
  simp only [fitsAction, Bool.and_eq_true] at h
  obtain ⟨⟨h1, h2⟩, h3⟩ := h
  exact carries_of_eq (carries_bind (readNum_one h1) <|
    carries_bind (readOpt_carries fun n hn => readNum_two (by simpa [hn] using h2)) <|
    carries_bind (readNum_one h3) <| carries_done a) (by simp [putAction])

/-! ## The records (R1 to R10, R185) -/

theorem readSong_carries {w : SongWrite} (h : fitsSong w = true) : Carries readSong (putSongWrite w) w := by
  simp only [fitsSong, Bool.and_eq_true] at h
  obtain ⟨⟨⟨⟨h1, h2⟩, h3⟩, h4⟩, h5⟩ := h
  exact carries_of_eq (carries_bind (readNum_one h1) <| carries_bind (readText_carries h2) <|
    carries_bind (readNum_two h3) <| carries_bind (readNum_two h4) <|
    carries_bind (readOpt_carries fun n hn => readNum_one (by simpa [hn] using h5)) <| carries_done w)
    (by simp [putSongWrite])

theorem readSegment_carries {w : SegmentWrite} (h : fitsSegment w = true) : Carries readSegment (putSegmentWrite w) w := by
  simp only [fitsSegment, Bool.and_eq_true] at h
  obtain ⟨⟨⟨⟨⟨⟨⟨⟨h1, h2⟩, h3⟩, h4⟩, h5⟩, h6⟩, h7⟩, h8⟩, h9⟩ := h
  exact carries_of_eq (carries_bind (readNum_one h1) <| carries_bind (readNum_two h2) <| carries_bind (readNum_one h3) <|
    carries_bind (readNum_one h4) <| carries_bind (readNum_two h5) <| carries_bind (readNum_two h6) <|
    carries_bind (readNum_one h7) <| carries_bind (readNum_one h8) <| carries_bind (readNum_one h9) <| carries_done w)
    (by simp [putSegmentWrite])

theorem readPatch_carries {w : PatchWrite} (h : fitsPatch w = true) : Carries readPatch (putPatchWrite w) w := by
  simp only [fitsPatch, Bool.and_eq_true] at h
  obtain ⟨⟨⟨⟨⟨h1, h2⟩, h3⟩, h4⟩, h5⟩, h6⟩ := h
  exact carries_of_eq (carries_bind (readNum_one h1) <| carries_bind (readNum_two h2) <|
    carries_bind (readEntries_carries h3) <|
    carries_bind (readOpt_carries fun l hl => readEntries_carries (by simpa [hl] using h4)) <|
    carries_bind (readOpt_carries fun l hl => readEntries_carries (by simpa [hl] using h5)) <|
    carries_bind (readOpt_carries fun l hl => readEntries_carries (by simpa [hl] using h6)) <| carries_done w)
    (by simp [putPatchWrite])

theorem readCueNumber_carries {major minor : Nat} (h1 : fits 2 major = true) (h2 : fits 1 minor = true) :
    Carries readCueNumber (bigEndian 2 major ++ bigEndian 1 minor) (major, minor) :=
  carries_of_eq (carries_bind (readNum_two h1) <| carries_bind (readNum_one h2) <| carries_done (major, minor)) (by simp)

theorem readCue_carries {w : CueWrite} (h : fitsCue w = true) : Carries readCue (putCueWrite w) w := by
  simp only [fitsCue, fitsList, Bool.and_eq_true, List.all_eq_true] at h
  obtain ⟨⟨⟨⟨⟨⟨⟨⟨h1, h2⟩, h3⟩, h4⟩, h5⟩, h6, h6'⟩, h7⟩, h8⟩, h9⟩ := h
  exact carries_of_eq (carries_bind (readCueNumber_carries h1 h2) <|
    carries_bind (readOpt_carries fun n hn => readNum_one (by simpa [hn] using h3)) <|
    carries_bind (readTrigger_carries h4) <| carries_bind (readNum_one h5) <|
    carries_bind (readList_carries h6 fun a ha => readAction_carries (h6' a ha)) <|
    carries_bind (readOpt_carries fun t ht => readTempo_carries (by simpa [ht] using h7)) <|
    carries_bind (readOpt_carries fun v hv => readVamp_carries (by simpa [hv] using h8)) <|
    carries_bind (readOpt_carries fun t ht => readText_carries (by simpa [ht] using h9)) <| carries_done w)
    (by simp [putCueWrite])

theorem readChair_carries {w : ChairWrite} (h : fitsChair w = true) : Carries readChair (putChairWrite w) w := by
  simp only [fitsChair, Bool.and_eq_true, decide_eq_true_eq] at h
  obtain ⟨⟨⟨⟨⟨⟨⟨⟨⟨h1, h2⟩, h3⟩, h4⟩, h4'⟩, h5⟩, h6⟩, h7⟩, h8⟩, h9⟩ := h
  exact carries_of_eq (carries_bind (readNum_one h1) <| carries_bind (readText_carries h2) <|
    carries_bind (readNum_one h3) <| carries_bind (readSigned_carries h4 h4') <| carries_bind (readNum_one h5) <|
    carries_bind (readNum_one h6) <| carries_bind (readNum_one h7) <| carries_bind (readNum_one h8) <|
    carries_bind (readNum_one h9) <| carries_done w) (by simp [putChairWrite])

theorem readRole_carries {role key : Nat} (h1 : fits 1 role = true) (h2 : fits 1 key = true) :
    Carries readRole (putRoleWrite role key) (role, key) :=
  carries_of_eq (carries_bind (readNum_one h1) <| carries_bind (readNum_one h2) <| carries_done (role, key))
    (by simp [putRoleWrite])

theorem readSettings_carries {w : SettingsWrite} (h : fitsSettings w = true) :
    Carries readSettings (putSettingsWrite w) w := by
  simp only [fitsSettings, Bool.and_eq_true] at h
  obtain ⟨⟨⟨⟨⟨⟨⟨⟨⟨⟨⟨⟨h1, h2⟩, h3⟩, h4⟩, h5⟩, h6⟩, h7⟩, h8⟩, h9⟩, h10⟩, h11⟩, h12⟩, h13⟩ := h
  exact carries_of_eq (carries_bind (readNum_two h1) <| carries_bind (readNum_two h2) <| carries_bind (readNum_two h3) <|
    carries_bind (readNum_one h4) <| carries_bind (readNum_two h5) <| carries_bind (readNum_two h6) <|
    carries_bind (readNum_one h7) <| carries_bind (readNum_two h8) <| carries_bind (readNum_one h9) <|
    carries_bind (readNum_one h10) <| carries_bind (readNum_one h11) <| carries_bind (readNum_one h12) <|
    carries_bind (readNum_one h13) <| carries_done w) (by simp [putSettingsWrite])

/-- The fields of a record write spell it to the reader of its table. -/
theorem readFields_carries {w : RecordWrite} (h : wellFormed (.recordWrite w) = true) :
    Carries (readFields (writeTable w)) (putFields w) w := by
  have last : ∀ {α : Type} {f : List Byte → Except Status (α × List Byte)} {b : List Byte} {x : α} (g : α → RecordWrite),
      Carries f b x → Carries (fun b => f b >>= fun p => .ok (g p.1, p.2)) b (g x) := fun g hf =>
    carries_of_eq (carries_bind hf (carries_done (g _))) (List.append_nil _)
  cases w with
  | song w => exact last .song (readSong_carries h)
  | segment w => exact last .segment (readSegment_carries h)
  | patch w => exact last .patch (readPatch_carries h)
  | cue w => exact last .cue (readCue_carries h)
  | chair w => exact last .chair (readChair_carries h)
  | role role key =>
    obtain ⟨h1, h2⟩ := Bool.and_eq_true_iff.1 (show (fits 1 role && fits 1 key) = true from h)
    exact last (fun p => .role p.1 p.2) (readRole_carries h1 h2)
  | settings w => exact last .settings (readSettings_carries h)

/-! ## The records of a body (R177) -/

theorem bigEndian_byte (b : Byte) : bigEndian 1 b.toNat = [b] := by
  simp [bigEndian]

theorem readByte_carries (b : Byte) : Carries (readNum 1) [b] b.toNat := by
  have h := readNum_one (v := b.toNat) (by simpa [fits] using b.isLt)
  rwa [bigEndian_byte] at h

theorem readBodySong_carries {w : SongWrite} (h : fitsSong w = true) (flag : Byte) :
    Carries readBodySong (putFields (.song w) ++ [flag]) (w, flag.toNat) :=
  carries_of_eq (carries_bind (readSong_carries h) <| carries_bind (readByte_carries flag) <|
    carries_done (w, flag.toNat)) (by simp [putFields])

theorem readFault_carries (p : Byte × Byte) : Carries readFault [p.1, p.2] (p.1.toNat, p.2.toNat) :=
  carries_of_eq (carries_bind (readByte_carries p.1) <| carries_bind (readByte_carries p.2) <|
    carries_done (p.1.toNat, p.2.toNat)) rfl

/-- The class and action numbers that two bytes of the settings record spell. -/
def faultNumbers (p : Byte × Byte) : Nat × Nat := (p.1.toNat, p.2.toNat)

theorem readFaults_carries (l : List (Byte × Byte)) :
    Carries (readTimes readFault l.length) (l.flatMap fun p => [p.1, p.2]) (l.map faultNumbers) := by
  induction l with
  | nil => exact carries_done []
  | cons p l ih =>
    exact carries_of_eq (carries_bind (readFault_carries p) <| carries_bind ih <|
      carries_done (faultNumbers p :: l.map faultNumbers)) (by simp)

theorem readBodySettings_carries {w : SettingsWrite} (h : fitsSettings w = true) {l : List (Byte × Byte)}
    (hl : l.length = 70) : Carries readBodySettings
      (putFields (.settings w) ++ l.flatMap fun p => [p.1, p.2]) (w, l.map faultNumbers) := by
  have faults := readFaults_carries l
  rw [hl] at faults
  exact carries_of_eq (carries_bind (readSettings_carries h) <| carries_bind faults <|
    carries_done (w, l.map faultNumbers)) (by simp [putFields])

/-! ## Fields that must fill their bytes (R184) -/

section whole
variable {α : Type} {read : List Byte → Except Status (α × List Byte)} {bytes : List Byte} {x : α}
  (h : Carries read bytes x)
include h

theorem whole_exact : whole (read bytes) = .ok x := by
  have taken := h.takes []
  rw [List.append_nil] at taken
  rw [taken]
  rfl

/-- Bytes that go on past the fields, or end short of them, are BAD_LENGTH (R184). -/
theorem whole_badLength {payload extra rest : List Byte}
    (hp : (payload = bytes ++ extra ∧ extra ≠ []) ∨ (bytes = payload ++ rest ∧ rest ≠ [])) :
    whole (read payload) = .error .badLength := by
  rcases hp with ⟨rfl, hextra⟩ | ⟨rfl, hrest⟩
  · obtain ⟨y, ys, rfl⟩ := List.exists_cons_of_ne_nil hextra
    rw [h.takes]
    rfl
  · rw [h.short payload rest rfl hrest]
    rfl

end whole

end Sys2Proof.Proofs

/-! PROOFS. The records of an image body (R177, R180, R181): the body's structure, the writes of its records, and the
load's end. -/

namespace Sys2Proof.Proofs

open Sys2Proof.Machine Sys2Proof.Laws

variable {s t u x : State}

/-! ## The body's structure (R180) -/

theorem tableOf_tableCode (t : Table) : tableOf (tableCode t) = some t := by cases t <;> rfl

theorem tableOf_eq_none {n : Nat} (h : n = 0 ∨ 7 < n) : tableOf n = none := by
  rcases h with rfl | h
  · rfl
  · obtain ⟨k, rfl⟩ := Nat.exists_eq_add_of_le' h
    rfl

theorem chairOf_eq_some (n : Byte) (c : Chair) : chairOf n.toNat = some c ↔ n = BitVec.ofNat 8 (c.val + 1) := by
  rw [← BitVec.toNat_inj, BitVec.toNat_ofNat, Nat.mod_eq_of_lt (by omega), chairOf]
  split
  · rw [Option.some.injEq, Fin.ext_iff]
    show n.toNat - 1 = c.val ↔ _
    omega
  · simp only [reduceCtorEq, false_iff]
    omega

theorem fromBigEndian_pair (hi lo : Byte) : fromBigEndian [hi, lo] = hi.toNat * 256 + lo.toNat := by
  simp [fromBigEndian]

/-- The key that a record's bytes begin with is in the book already (R180). -/
theorem keyTaken_iff (b : Book) (t : Table) (payload : List Byte) :
    b.keyTaken t payload = true ↔ b.holdsKeyOf t payload := by
  have isSome {α : Type} (o : Option α) : o.isSome = true ↔ o ≠ none := Option.isSome_iff_ne_none
  cases t with
  | songs =>
    rcases payload with - | ⟨n, rest⟩
    · simp [Book.keyTaken, Book.holdsKeyOf, readNum]
    · simp [Book.keyTaken, Book.holdsKeyOf, readNum, fromBigEndian, isSome]
  | segments =>
    rcases payload with - | ⟨n, - | ⟨hi, - | ⟨lo, rest⟩⟩⟩
    · simp [Book.keyTaken, Book.holdsKeyOf]
    · simp [Book.keyTaken, Book.holdsKeyOf]
    · simp [Book.keyTaken, Book.holdsKeyOf]
    · simp [Book.keyTaken, Book.holdsKeyOf, fromBigEndian_pair, isSome]
  | patches =>
    rcases payload with - | ⟨n, - | ⟨hi, - | ⟨lo, rest⟩⟩⟩
    · simp [Book.keyTaken, Book.holdsKeyOf]
    · simp [Book.keyTaken, Book.holdsKeyOf]
    · simp [Book.keyTaken, Book.holdsKeyOf]
    · have chair : b.keyTaken .patches (n :: hi :: lo :: rest) = true ↔
          ∃ c, chairOf n.toNat = some c ∧ b.patch? c (hi.toNat * 256 + lo.toNat) ≠ none := by
        simp only [Book.keyTaken, fromBigEndian_pair]
        cases chairOf n.toNat <;> simp [isSome]
      rw [chair]
      simp only [chairOf_eq_some, Book.holdsKeyOf, List.cons.injEq]
      simp
  | cues =>
    rcases payload with - | ⟨hi, - | ⟨lo, - | ⟨minor, rest⟩⟩⟩
    · simp [Book.keyTaken, Book.holdsKeyOf, readCueNumber, readNum, bind, Except.bind]
    · simp [Book.keyTaken, Book.holdsKeyOf, readCueNumber, readNum, bind, Except.bind]
    · simp [Book.keyTaken, Book.holdsKeyOf, readCueNumber, readNum, bind, Except.bind]
    · simp [Book.keyTaken, Book.holdsKeyOf, readCueNumber, readNum, bind, Except.bind, fromBigEndian, isSome]
  | chairs | roles | settings => simp [Book.keyTaken, Book.holdsKeyOf]

theorem breaksBody_iff (s : State) (h : ImageHeader) (t : Table) (length : Nat) (payload : List Byte) :
    s.breaksBody h t length payload = true ↔ s.breaksStructure h t length payload := by
  simp only [State.breaksBody, State.breaksStructure, Bool.or_eq_true, decide_eq_true_eq, keyTaken_iff, or_assoc]

/-! ## Writes beside the loader and the port -/

/-- The state with another loader and port. -/
def withPort (l : Loader) (p : Port) (s : State) : State := { s with loader := l, port := p }

section withPort
variable (l : Loader) (p : Port)

theorem setRun_withPort (n : CueNumber) (st : RunState) (s : State) :
    setRun n st (withPort l p s) = withPort l p (setRun n st s) := by
  rw [setRun_eq, setRun_eq]
  change (if s.cue.held = some n ∧ st ≠ .pending then _ else _) = _
  split <;> rfl

theorem placeStandby_withPort (x : Option CueNumber) (s : State) :
    placeStandby x (withPort l p s) = withPort l p (placeStandby x s) := by
  cases x with
  | none => rfl
  | some m => exact congrArg handStandby (setRun_withPort l p m .standby (standbyField (some m) s))

theorem createRun_withPort (q : Cue) (s : State) : createRun q (withPort l p s) = withPort l p (createRun q s) := by
  rw [createRun_eq, createRun_eq]
  change (if s.cue.isOpen then if s.firstRun q = .pending ∧ q.isGo = true ∧ s.cue.standby = none then _ else _ else _) = _
  split
  · split
    · exact placeStandby_withPort l p (some q.number) (appendRun (createdEntry q s) s)
    · rfl
  · rfl

theorem amendRun_withPort (q : Cue) (s : State) : amendRun q (withPort l p s) = withPort l p (amendRun q s) := by
  unfold amendRun
  change (if s.cue.isOpen then if s.runState q.number = .pending ∧ s.book.cueCut q then _ else
    if q.isFollow then _ else _ else _) = _
  split
  · split
    · exact congrArg (cancelTimer q.number) (setRun_withPort l p q.number .passed s)
    · split <;> rfl
  · rfl

theorem takeTrims_withPort (s : State) : takeTrims (withPort l p s) = withPort l p (takeTrims s) := by
  unfold takeTrims
  change (if s.clockAtRest then _ else _) = _
  split <;> rfl

theorem writeSong_withPort (w : SongWrite) (s : State) :
    writeSong w (withPort l p s) = (writeSong w s).map (withPort l p) := by
  unfold writeSong
  change (if !songWriteOk w then _ else if s.book.songInvalid w then _ else if s.songLocked w then _ else _) = _
  split_ifs <;> rfl

theorem writeSegment_withPort (w : SegmentWrite) (s : State) :
    writeSegment w (withPort l p s) = (writeSegment w s).map (withPort l p) := by
  unfold writeSegment
  cases segmentOf w with
  | none => rfl
  | some g =>
    dsimp only
    rw [show (withPort l p s).book = s.book from rfl]
    cases s.book.song? g.song with
    | none => rfl
    | some r =>
      change (if !r.has g.startBar then _ else if s.segmentLocked g then _ else if s.book.segmentsFull g then _ else _) = _
      dsimp only
      split_ifs <;> rfl

theorem writePatch_withPort (w : PatchWrite) (s : State) :
    writePatch w (withPort l p s) = (writePatch w s).map (withPort l p) := by
  unfold writePatch
  cases patchOf w with
  | none => rfl
  | some r =>
    change (if s.book.patchesFull r then _ else _) = _
    dsimp only
    split_ifs <;> rfl

theorem writeCue_withPort (w : CueWrite) (s : State) :
    writeCue w (withPort l p s) = (writeCue w s).map (withPort l p) := by
  unfold writeCue
  cases cueOf w with
  | none => rfl
  | some q =>
    have created := createRun_withPort l p q { s with book := s.book.putCue q }
    have amended := amendRun_withPort l p q { s with book := s.book.putCue q }
    change (if s.book.cueMissing q then _ else if s.book.cueInvalid q then _ else if s.cueLocked q then _ else
      if (s.book.cue? q.number).isNone && decide (1024 ≤ s.book.cues.length) then _ else
      Except.ok (if (s.book.cue? q.number).isNone then createRun q (withPort l p { s with book := s.book.putCue q })
        else amendRun q (withPort l p { s with book := s.book.putCue q }))) = _
    rw [created, amended]
    dsimp only
    split_ifs <;> rfl

theorem writeChair_withPort (w : ChairWrite) (s : State) :
    writeChair w (withPort l p s) = (writeChair w s).map (withPort l p) := by
  unfold writeChair
  cases chairRecOf w with
  | none => rfl
  | some r =>
    change (if s.chairLocked r.1 r.2 then _ else
      Except.ok (takeTrims (withPort l p { s with book := s.book.putChair r.1 r.2 }))) = _
    rw [takeTrims_withPort]
    dsimp only
    split_ifs <;> rfl

theorem writeRole_withPort (role key : Nat) (s : State) :
    writeRole role key (withPort l p s) = (writeRole role key s).map (withPort l p) := by
  unfold writeRole
  cases roleOf role key with
  | none => rfl
  | some r =>
    change (if s.roleLocked role then _ else _) = _
    dsimp only
    split_ifs <;> rfl

/-- A write neither reads nor changes the loader and the port. -/
theorem writeRecord_withPort {w : RecordWrite} (hw : writeTable w ≠ .settings) (s : State) :
    writeRecord w (withPort l p s) = (writeRecord w s).map (withPort l p) := by
  cases w with
  | song w => exact writeSong_withPort l p w s
  | segment w => exact writeSegment_withPort l p w s
  | patch w => exact writePatch_withPort l p w s
  | cue w => exact writeCue_withPort l p w s
  | chair w => exact writeChair_withPort l p w s
  | role role key => exact writeRole_withPort l p role key s
  | settings w => exact absurd rfl hw

end withPort

theorem writeRecord_loader {w : RecordWrite} (h : writeRecord w s = .ok x) :
    x.loader = s.loader ∧ x.port = s.port ∧ x.book.revision = s.book.revision := by
  have beside := writeRecord_beside h
  exact ⟨(congrArg State.loader beside :), (congrArg State.port beside :), (congrArg (fun x => x.book.revision) beside :)⟩

/-- What RECORD WRITE does and answers in an idle loader, and what the same write does in a load. -/
theorem recordWrite_idle {w : RecordWrite} {st : Status} (hw : writeTable w ≠ .settings) (hup : s.resetHeld = false)
    (hexec : exec (.recordWrite w) (withPort Loader.initial Port.initial s) = .next u)
    (howed : u.port.owed = some (plain st)) :
    (st ≠ .ok ∧ writeRecord w s = .error st) ∨
    (st = .ok ∧ ∃ (x : State) (p : Port), writeRecord w s = .ok x ∧
      u = owing (plain .ok) (revise (withPort Loader.initial p x))) := by
  have taken : (withPort Loader.initial Port.initial s).taking =
      withPort Loader.initial (withPort Loader.initial Port.initial s).taking.port s := rfl
  have ha : (withPort Loader.initial Port.initial s).accepts := ⟨hup, fun h => nomatch h⟩
  have same := writeRecord_withPort Loader.initial (withPort Loader.initial Port.initial s).taking.port hw s
  rw [← taken] at same
  have answer : ∀ {st' : Status}, some (plain st') = some (plain st) → st' = st := fun h =>
    (congrArg Answer.status (Option.some.inj h) :)
  cases hr : writeRecord w s with
  | error st' =>
    have refused := bookChange_refused ha rfl (same.trans (by rw [hr]; rfl))
    obtain rfl := (Host.Outcome.next.inj (refused.symm.trans hexec) :)
    obtain rfl := answer howed
    exact .inl ⟨writeRecord_refusal hr, rfl⟩
  | ok x =>
    have done := bookChange_taken ha rfl (same.trans (by rw [hr]; rfl))
    obtain rfl := (Host.Outcome.next.inj (done.symm.trans hexec) :)
    obtain rfl := answer howed
    exact .inr ⟨rfl, x, _, rfl, rfl⟩

end Sys2Proof.Proofs

/-! PROOFS. The installation of a body's records and the end of a load (R177, R180, R181). -/

namespace Sys2Proof.Proofs

open Sys2Proof.Machine Sys2Proof.Laws

variable {s t u x : State}

/-! ## A load that fails (R181) -/

theorem forgotten_frame (ho : s.cue.isOpen = false) :
    (forgetFired (clearBook s)).loader = s.loader ∧ (forgetFired (clearBook s)).port = s.port := by
  obtain ⟨-, -, -, -, -, -, loader, port, -⟩ := clearBook_frame ho
  generalize clearBook s = y at loader port
  exact ⟨loader, port⟩

theorem failLoad_report (r : LoaderResult) (ho : s.cue.isOpen = false) :
    (failLoad r s).loader.report = { s.loader.report with state := .failed, result := some r } := by
  have loader := (forgotten_frame ho).1
  unfold failLoad endOperation
  generalize forgetFired (clearBook s) = y at loader
  rw [← loader]
  rfl

theorem failLoad_flags (r : LoaderResult) (ho : s.cue.isOpen = false) :
    (failLoad r s).port.flags = s.port.flags ||| EventFlag.imageDone.bit := by
  have port := (forgotten_frame ho).2
  unfold failLoad endOperation
  generalize forgetFired (clearBook s) = y at port
  rw [← port]
  rfl

/-- What a load leaves whose record is refused with a status (R181). -/
def refusedLoad (code : Byte) (s : State) (st : Status) : State :=
  match tableOf code.toNat with
  | some table => onReport (fun r => { r with failed := some {
      table := table, position := s.loader.metOf table + 1, status := st } }) (failLoad .brokenReference s)
  | none => failLoad .countMismatch s

/-- Loads that fail differ in their reports alone. -/
theorem refusedLoad_eq {code : Byte} {table : Table} (ht : tableOf code.toNat = some table) (ho : s.cue.isOpen = false)
    (st : Status) : refusedLoad code s st =
      { failLoad .countMismatch s with loader := { (failLoad .countMismatch s).loader with
        report := { s.loader.report with
          state := .failed, result := some .brokenReference
          failed := some { table := table, position := s.loader.metOf table + 1, status := st } } } } := by
  have loader := (forgotten_frame ho).1
  simp only [refusedLoad, ht, failLoad, endOperation]
  generalize forgetFired (clearBook s) = y at loader
  rw [← loader]
  rfl

/-! ## A record read (R180) -/

/-- The loader after a record is installed. -/
def countedLoader (table : Table) (bytes : List Byte) (l : Loader) : Loader :=
  { l.meet table with
    report := l.report.handleOne
    bodyPos := l.bodyPos + bytes.length
    crc := crc32Step l.crc bytes }

section read
variable {code : Byte} {length : BitVec 16} {payload : List Byte} {h : ImageHeader} {table : Table}
  (hst : s.loader.report.state = .installing) (hh : s.loader.header = some h)
  (hroom : s.loader.bodyPos < h.bodyLength ∧ payload.length = length.toNat)
include hst hh hroom

theorem recordInstall_unknown (ht : tableOf code.toNat = none) :
    recordInstall code length payload s = failLoad .countMismatch s := by
  simp only [recordInstall, hst, hh, if_pos hroom, ht]

variable (ht : tableOf code.toNat = some table)
include ht

theorem recordInstall_broken (hb : s.breaksStructure h table length.toNat payload) :
    recordInstall code length payload s = failLoad .countMismatch s := by
  simp only [recordInstall, hst, hh, if_pos hroom, ht, if_pos ((breaksBody_iff ..).2 hb)]

variable (hb : ¬s.breaksStructure h table length.toNat payload)
include hb

theorem recordInstall_refused {st : Status} (hr : installRecord table payload s = .error st) :
    recordInstall code length payload s = refusedLoad code s st := by
  simp only [recordInstall, refusedLoad, hst, hh, if_pos hroom, ht, if_neg (mt (breaksBody_iff ..).1 hb), hr]

theorem recordInstall_installed (hr : installRecord table payload s = .ok x) :
    recordInstall code length payload s =
      { x with loader := countedLoader table (code :: (bigEndian 2 length.toNat ++ payload)) x.loader } := by
  simp only [recordInstall, hst, hh, if_pos hroom, ht, if_neg (mt (breaksBody_iff ..).1 hb), hr]
  rfl

end read

theorem countedLoader_facts (table : Table) (code : Byte) (length : BitVec 16) (payload : List Byte) (l : Loader) :
    (countedLoader table (code :: (bigEndian 2 length.toNat ++ payload)) l).report =
        { l.report with progress := l.report.progress.map fun p => { p with done := p.done + 1 } } ∧
      (countedLoader table (code :: (bigEndian 2 length.toNat ++ payload)) l).bodyPos = l.bodyPos + 3 + payload.length := by
  refine ⟨rfl, ?_⟩
  simp only [countedLoader, List.length_cons, List.length_append, length_bigEndian]
  omega

/-! ## Records of RECORD WRITE's fields -/

theorem installRecord_fields {w : RecordWrite} (hwf : wellFormed (.recordWrite w) = true) (hsongs : writeTable w ≠ .songs)
    (hsettings : writeTable w ≠ .settings) (s : State) :
    installRecord (writeTable w) (putFields w) s = writeRecord w s := by
  have read := whole_exact (readFields_carries hwf)
  cases w with
  | song w => exact absurd rfl hsongs
  | settings w => exact absurd rfl hsettings
  | segment w | patch w | cue w | chair w | role role key =>
    simp only [writeTable] at read ⊢
    simp only [installRecord, read]

/-- Bytes that end short of a record's fields, or go on past them, are BAD_LENGTH (R184). -/
theorem installRecord_badLength {table : Table} {bytes payload extra rest : List Byte} (he : EncodesRecord table bytes)
    (hp : (payload = bytes ++ extra ∧ extra ≠ []) ∨ (bytes = payload ++ rest ∧ rest ≠ [])) (s : State) :
    installRecord table payload s = .error .badLength := by
  cases he with
  | fields w hwf hsongs hsettings =>
    have read := whole_badLength (readFields_carries hwf) hp
    cases w with
    | song w => exact absurd rfl hsongs
    | settings w => exact absurd rfl hsettings
    | segment w | patch w | cue w | chair w | role role key =>
      simp only [writeTable] at read ⊢
      simp only [installRecord, read]
  | song w flag hwf =>
    have read := whole_badLength (readBodySong_carries hwf flag) hp
    simp only [installRecord, installSong, read]
  | settings w faults hwf hl =>
    have read := whole_badLength (readBodySettings_carries hwf hl) hp
    simp only [installRecord, installSettings, read]

/-! ## Song records -/

section song
variable {w : SongWrite} {flag : Byte} (hwf : wellFormed (.recordWrite (.song w)) = true)
include hwf

theorem installSong_range (hf : 1 < flag.toNat) (s : State) :
    installRecord .songs (putFields (.song w) ++ [flag]) s = .error .outOfRange := by
  have read := whole_exact (readBodySong_carries hwf flag)
  simp only [installRecord, installSong, read, if_pos hf]

variable (hf : flag.toNat ≤ 1)
include hf

theorem installSong_refused {st : Status} (hr : writeSong w s = .error st) :
    installRecord .songs (putFields (.song w) ++ [flag]) s = .error st := by
  have read := whole_exact (readBodySong_carries hwf flag)
  simp only [installRecord, installSong, read, if_neg (Nat.not_lt.2 hf), hr]

theorem installSong_ok (hr : writeSong w s = .ok x) : installRecord .songs (putFields (.song w) ++ [flag]) s =
    .ok (if flag.toNat = 1 then { x with book := x.book.setRunning w.number .cut } else x) := by
  have read := whole_exact (readBodySong_carries hwf flag)
  simp only [installRecord, installSong, read, if_neg (Nat.not_lt.2 hf), hr]

end song

/-- The song of a record that does not break the body's structure is new (R180). -/
theorem song?_of_unbroken {w : SongWrite} (hwf : wellFormed (.recordWrite (.song w)) = true) {h : ImageHeader}
    {length : Nat} {rest : List Byte} (hb : ¬s.breaksStructure h .songs length (putFields (.song w) ++ rest)) :
    s.book.song? w.number = none := by
  simp only [wellFormed, fitsWrite, fitsSong, Bool.and_eq_true, fits, decide_eq_true_eq] at hwf
  obtain ⟨⟨⟨⟨hnumber, -⟩, -⟩, -⟩, -⟩ := hwf
  have byte : (BitVec.ofNat 8 (w.number / 256 ^ 0)).toNat = w.number := by
    rw [BitVec.toNat_ofNat]
    omega
  by_contra hn
  have first : putFields (.song w) ++ rest =
      BitVec.ofNat 8 (w.number / 256 ^ 0) :: (putFields (.song w) ++ rest).tail := rfl
  exact hb (.inr (.inr (.inr (.inl ⟨rfl, _, _, first, by rw [byte]; exact hn⟩))))

/-- A song record whose key is new creates the song with the flag of the image, and changes no other (R180). -/
theorem installedSong {w : SongWrite} {flag : Byte} (hnew : s.book.song? w.number = none)
    (hr : writeSong w s = .ok x) : ∃ y : State,
      (if flag.toNat = 1 then { x with book := x.book.setRunning w.number .cut } else x) = y ∧
      y = { s with book := { s.book with songs := y.book.songs } } ∧
      (∀ r : Song, x.book.song? w.number = some r →
        y.book.song? w.number = some { r with running := if flag = 1#8 then .cut else .playing }) ∧
      ∀ m : Nat, m ≠ w.number → y.book.song? m = s.book.song? m := by
  obtain ⟨-, rfl⟩ := writeSong_cases hr
  have song : ∀ m, (s.book.putSong (s.book.songRecord w)).song? m =
      if m = w.number then some (s.book.songRecord w) else s.book.song? m := song?_putRecord s.book w
  have one : flag.toNat = 1 ↔ flag = 1#8 := by rw [← BitVec.toNat_inj]; rfl
  refine ⟨_, rfl, ?_⟩
  by_cases h1 : flag = 1#8
  · rw [if_pos (one.2 h1), if_pos h1]
    refine ⟨rfl, fun r hr => ?_, fun m hm => ?_⟩
    · exact (song?_setRunning ..).trans (by rw [show (s.book.putSong _).song? w.number = some r from hr]; simp)
    · exact (song?_flagged_other hm ..).trans ((song m).trans (if_neg hm))
  · rw [if_neg (mt one.1 h1), if_neg h1]
    refine ⟨rfl, fun r hr => ?_, fun m hm => (song m).trans (if_neg hm)⟩
    have hr' := hr
    rw [show (s.book.putSong _).song? w.number = _ from song w.number, if_pos rfl] at hr'
    obtain rfl := Option.some.inj hr'
    obtain ⟨running, -⟩ := (songRecord_kept s.book w).1 hnew
    rw [← running]
    exact hr

/-! ## The settings record (R159, R177) -/

theorem applyFault_book (i : Source) (new : FaultSetting) (s : State) : (applyFault i new s).book =
    { s.book with settings := { s.book.settings with faults := s.book.settings.faults.set i.val new i.isLt } } :=
  runsView_book (applyFault_view s i new)

/-- Each source takes its entry of the vector. -/
theorem foldl_set_getElem (new : Vector FaultSetting 70) (l : List Source) (v : Vector FaultSetting 70) (j : Source) :
    (l.foldl (fun v i => v.set i.val new[i] i.isLt) v)[j] = if j ∈ l then new[j] else v[j] := by
  induction l generalizing v with
  | nil => rfl
  | cons i l ih =>
    rw [List.foldl_cons, ih, set_getElem]
    by_cases hj : j ∈ l
    · simp [hj]
    · by_cases hi : j = i
      · simp [hi]
      · simp [hj, hi]

theorem applyFaults_book (new : Vector FaultSetting 70) (s : State) : (applyFaults new s).book =
    { s.book with settings := { s.book.settings with faults := new } } := by
  have walk : ∀ (l : List Source) (s : State), (l.foldl (fun s i => applyFault i new[i] s) s).book =
      { s.book with settings := { s.book.settings with
        faults := l.foldl (fun v i => v.set i.val new[i] i.isLt) s.book.settings.faults } } := by
    intro l
    induction l with
    | nil => exact fun s => rfl
    | cons i l ih =>
      intro s
      rw [List.foldl_cons, ih, applyFault_book]
      rfl
  have every : ∀ j : Source, j ∈ (tabulateFin fun i : Source => i).toList := fun j => by
    simpa [tabulateFin] using ⟨j.val, j.isLt, rfl⟩
  have taken : (tabulateFin fun i : Source => i).toList.foldl (fun v i => v.set i.val new[i] i.isLt)
      s.book.settings.faults = new :=
    vector_ext_fin fun j => by rw [foldl_set_getElem, if_pos (every j)]
  exact (walk _ s).trans (by rw [taken])

section allOf
variable {α β : Type} {f : α → Option β}

theorem allOf_eq_none {l : List α} : allOf f l = none ↔ ∃ x ∈ l, f x = none := by
  induction l with
  | nil => simp [allOf]
  | cons x xs ih =>
    simp only [List.mem_cons, exists_eq_or_imp, ← ih, allOf]
    cases f x <;> cases allOf f xs <;> simp

theorem allOf_getElem? {l : List α} {ys : List β} (h : allOf f l = some ys) (i : Nat) : ys[i]? = l[i]?.bind f := by
  induction l generalizing ys i with
  | nil => cases h; rfl
  | cons x xs ih =>
    unfold allOf at h
    split at h
    next y zs hy hzs =>
      cases h
      cases i with
      | zero => exact hy.symm
      | succ i => exact ih hzs i
    · cases h

end allOf

theorem faultSettingOf_eq_none (p : Byte × Byte) : faultSettingOf (faultNumbers p) = none ↔
    windowClassOf p.1.toNat = none ∨ faultActionOf p.2.toNat = none := by
  unfold faultSettingOf faultNumbers
  cases windowClassOf p.1.toNat <;> cases faultActionOf p.2.toNat <;> simp

section settings
variable {w : SettingsWrite} {faults : List (Byte × Byte)} (hwf : wellFormed (.recordWrite (.settings w)) = true)
  (hl : faults.length = 70)
include hwf hl

theorem installSettings_range
    (h : settingsOf w s.book.settings.faults = none ∨
      ∃ p ∈ faults, windowClassOf p.1.toNat = none ∨ faultActionOf p.2.toNat = none) :
    installRecord .settings (putFields (.settings w) ++ faults.flatMap fun p => [p.1, p.2]) s = .error .outOfRange := by
  have read := whole_exact (readBodySettings_carries hwf hl)
  simp only [installRecord, installSettings, read]
  cases hall : allOf faultSettingOf (faults.map faultNumbers) with
  | none => rfl
  | some ys =>
    have good : ¬∃ p ∈ faults, windowClassOf p.1.toNat = none ∨ faultActionOf p.2.toNat = none := by
      rintro ⟨p, hp, hbad⟩
      have := allOf_eq_none.2 ⟨_, List.mem_map_of_mem hp, (faultSettingOf_eq_none p).2 hbad⟩
      exact absurd (this.symm.trans hall) (by simp)
    simp only [writeSettings, h.resolve_right good]

/-- The settings record replaces the settings and the 70 fault source settings (R177). -/
theorem installSettings_ok {set : Settings} {settings : Vector FaultSetting 70}
    (hset : settingsOf w s.book.settings.faults = some set)
    (hfaults : ∀ i : Source, ∃ p : Byte × Byte, faults[i.val]? = some p ∧
      windowClassOf p.1.toNat = some settings[i].window ∧ faultActionOf p.2.toNat = some settings[i].action) :
    ∃ y, installRecord .settings (putFields (.settings w) ++ faults.flatMap fun p => [p.1, p.2]) s = .ok y ∧
      y.loader = s.loader ∧ y.book = { s.book with settings := { set with faults := settings } } := by
  have read := whole_exact (readBodySettings_carries hwf hl)
  obtain ⟨v, hv⟩ : ∃ v, v = videoSettings s.book.settings { s with book := { s.book with settings := set } } := ⟨_, rfl⟩
  have written : writeSettings w s = .ok v := hv ▸ writeSettings_ok hset
  have frame : v = { s with book := { s.book with settings := set }, video := v.video } := by
    rw [hv]
    exact eq_of_aroundVideo (videoSettings_around ..)
  have entry : ∀ i : Source, ∃ p, (faults.map faultNumbers)[i.val]? = some (faultNumbers p) ∧
      faultSettingOf (faultNumbers p) = some settings[i] := fun i => by
    obtain ⟨p, hp, hwindow, haction⟩ := hfaults i
    exact ⟨p, by simp [hp], by simp only [faultSettingOf, faultNumbers, hwindow, haction]⟩
  cases hall : allOf faultSettingOf (faults.map faultNumbers) with
  | none =>
    obtain ⟨n, hn, hbad⟩ := allOf_eq_none.1 hall
    obtain ⟨i, hi, rfl⟩ := List.mem_iff_getElem.1 hn
    have hi' : i < 70 := by simpa [hl] using hi
    obtain ⟨p, hp, hgood⟩ := entry ⟨i, hi'⟩
    rw [List.getElem?_eq_getElem hi, Option.some.injEq] at hp
    exact absurd (hbad.symm.trans (hp ▸ hgood)) (by simp)
  | some ys =>
    have vector : faultVector ys = settings := vector_ext_fin fun i => by
      obtain ⟨p, hp, hgood⟩ := entry i
      have at_ := allOf_getElem? hall i.val
      rw [hp, Option.bind_some, hgood] at at_
      rw [faultVector, tabulateFin_getElem, List.getD_eq_getElem?_getD, at_]
      rfl
    refine ⟨applyFaults settings v, ?_, ?_, ?_⟩
    · simp only [installRecord, installSettings, read, hall, written, vector]
    · obtain ⟨set', view⟩ := applyFaults_view v settings
      rw [runsView_loader view, frame]
    · rw [applyFaults_book, frame]

end settings

/-! ## The body's end (R180, R181) -/

theorem countsMet_iff (l : Loader) (h : ImageHeader) : l.countsMet h = true ↔ ∀ table, h.count table ≤ l.metOf table := by
  have every : ∀ table : Table,
      table ∈ [Table.songs, .segments, .patches, .cues, .chairs, .roles, .settings] := fun table => by
    cases table <;> simp
  simp only [Loader.countsMet, List.all_eq_true, decide_eq_true_eq]
  exact ⟨fun h table => h table (every table), fun h table _ => h table⟩

section bodyEnd
variable {h : ImageHeader} (hst : s.loader.report.state = .installing) (hh : s.loader.header = some h)
  (hend : h.bodyLength ≤ s.loader.bodyPos)
include hst hh hend

theorem bodyEnd_counts (hc : ∃ table, s.loader.metOf table < h.count table) : bodyEnd s = failLoad .countMismatch s := by
  obtain ⟨table, hc⟩ := hc
  have hc' : s.loader.countsMet h = false := Bool.eq_false_iff.2 fun hall =>
    absurd ((countsMet_iff ..).1 hall table) (Nat.not_le.2 hc)
  simp only [bodyEnd, hst, hh, if_pos hend, hc', Bool.not_false, if_true]

variable (hc : ∀ table, h.count table ≤ s.loader.metOf table)
include hc

theorem bodyEnd_checksum (hcrc : crc32Result s.loader.crc ≠ h.bodyCrc) : bodyEnd s = failLoad .checksum s := by
  simp only [bodyEnd, hst, hh, if_pos hend, (countsMet_iff ..).2 hc, Bool.not_true, Bool.false_eq_true, if_false,
    if_pos hcrc]

theorem bodyEnd_done (hcrc : crc32Result s.loader.crc = h.bodyCrc) : bodyEnd s = endOperation .done .done s := by
  simp only [bodyEnd, hst, hh, if_pos hend, (countsMet_iff ..).2 hc, Bool.not_true, Bool.false_eq_true, if_false,
    hcrc, ne_eq, not_true_eq_false]

end bodyEnd

/-- Settles O19, from the readers of each table's records, the writes that they make, and the ways in which a load ends. -/
theorem recordsAreInstalledOrEndTheLoad : Obligations.RecordsAreInstalledOrEndTheLoad := by
  refine ⟨fun code length payload h s hup ho hst hh hpos hlen => ?_, fun h s hup ho hst hh hend => ?_⟩
  · refine ⟨recordInstall code length payload s, failLoad .countMismatch s, refusedLoad code s, _, event_up hup _,
      ⟨failLoad_book .., failLoad_flags _ ho, failLoad_report _ ho⟩,
      fun st table hcode => refusedLoad_eq (hcode ▸ tableOf_tableCode table) ho st, rfl,
      fun hcode => recordInstall_unknown hst hh ⟨hpos, hlen⟩ (tableOf_eq_none ?_), fun table hcode => ?_⟩
    · exact hcode.imp (fun h => by rw [h]; rfl) id
    have ht : tableOf code.toNat = some table := hcode ▸ tableOf_tableCode table
    refine ⟨recordInstall_broken hst hh ⟨hpos, hlen⟩ ht, fun hb => ?_⟩
    have refused := fun st => recordInstall_refused (st := st) hst hh ⟨hpos, hlen⟩ ht hb
    have installed := fun x => recordInstall_installed (x := x) hst hh ⟨hpos, hlen⟩ ht hb
    refine ⟨fun w u st hwf hsongs hsettings htable hpayload hexec howed => ?_,
      fun w flag u st hwf htable hpayload hflag hexec howed => ?_, fun w flag hwf htable hpayload hflag => ?_,
      fun w faults hwf htable hl hpayload => ⟨fun hbad => ?_, fun set settings hset hfaults => ?_⟩,
      fun whole extra rest he hp => refused _ (installRecord_badLength he hp s)⟩
    · subst htable hpayload
      have same := installRecord_fields hwf hsongs hsettings s
      rcases recordWrite_idle hsettings hup hexec howed with ⟨hbad, hr⟩ | ⟨rfl, x, p, hr, rfl⟩
      · exact ⟨fun _ => refused _ (same.trans hr), fun h => absurd h hbad⟩
      · refine ⟨fun h => absurd rfl h, fun _ => ?_⟩
        rw [installed x (same.trans hr)]
        obtain ⟨report, pos⟩ := countedLoader_facts (writeTable w) code length (putFields w) x.loader
        obtain ⟨loader, port, revision⟩ := writeRecord_loader hr
        rw [loader] at report pos
        refine ⟨by rw [← report, loader], by rw [← pos, loader], ?_⟩
        rw [← port, ← revision]
        rfl
    · subst htable hpayload
      have hnew := song?_of_unbroken hwf hb
      rcases recordWrite_idle (w := .song w) (by simp [writeTable]) hup hexec howed with ⟨hbad, hr⟩ | ⟨rfl, x, p, hr, rfl⟩
      · exact ⟨fun _ => refused _ (installSong_refused hwf hflag hr), fun h => absurd h hbad⟩
      · refine ⟨fun h => absurd rfl h, fun _ => ?_⟩
        obtain ⟨y, hy, frame, song, other⟩ := installedSong (flag := flag) hnew hr
        have ok := installSong_ok hwf hflag hr
        rw [hy] at ok
        rw [installed y ok]
        obtain ⟨report, pos⟩ := countedLoader_facts .songs code length (putFields (.song w) ++ [flag]) y.loader
        have loader : y.loader = s.loader := by rw [frame]
        rw [loader] at report pos
        refine ⟨by rw [← report, loader], by rw [← pos, loader], ?_, song, other⟩
        rw [frame]
    · subst htable hpayload
      exact refused _ (installSong_range hwf hflag s)
    · subst htable hpayload
      exact refused _ (installSettings_range hwf hl hbad)
    · subst htable hpayload
      obtain ⟨y, hy, loader, book⟩ := installSettings_ok hwf hl hset hfaults
      rw [installed y hy]
      obtain ⟨report, pos⟩ := countedLoader_facts .settings code length _ y.loader
      rw [loader] at report pos ⊢
      exact ⟨report, pos, book⟩
  · refine ⟨bodyEnd s, event_up hup _, ?_, fun hc => ?_, fun hc => ⟨fun hcrc => ?_, fun hcrc => ?_⟩⟩
    · by_cases hc : ∀ table, h.count table ≤ s.loader.metOf table
      · by_cases hcrc : crc32Result s.loader.crc = h.bodyCrc
        · rw [bodyEnd_done hst hh hend hc hcrc]
          rfl
        · rw [bodyEnd_checksum hst hh hend hc hcrc, failLoad_flags _ ho]
      · simp only [not_forall, Nat.not_le] at hc
        rw [bodyEnd_counts hst hh hend hc, failLoad_flags _ ho]
    · rw [bodyEnd_counts hst hh hend hc]
      exact ⟨failLoad_book .., failLoad_report _ ho⟩
    · rw [bodyEnd_checksum hst hh hend hc hcrc]
      exact ⟨failLoad_book .., failLoad_report _ ho⟩
    · rw [bodyEnd_done hst hh hend hc hcrc]
      exact ⟨rfl, rfl⟩

end Sys2Proof.Proofs

/-! PROOFS. What one fire does (R30 to R37, R43): the cue's own completion, its click actions, the closing steps, and the
frames of each. -/

namespace Sys2Proof.Proofs

open Sys2Proof.Machine Sys2Proof.Laws

variable {s t x : State} {n : CueNumber} {c : Cue} {cause : FireCause}

/-! ## A cue that hands no patch begins and completes (R35, R46) -/

/-- The run entry of a cue that has fired and completed. -/
def completeEntry (r : RunEntry) : RunEntry := { r with state := .complete, mark := none, failed := 0 }

/-- The state in which a cue that hands no patch has begun to fire and completed (R35, R46, R47). -/
def finished (n : CueNumber) (s : State) : State :=
  { s with
    cue := { s.cue with
      runs := s.cue.runs.map fun r => if r.cue = n then completeEntry r else r
      held := if s.cue.held = some n then none else s.cue.held
      holdCandidate := none
      completion := some { cue := n, requests := 0, failed := 0 } }
    overlay := { s.overlay with standby := if s.cue.held = some n then s.cue.standby else s.overlay.standby }
    port := { s.port with flags := s.port.flags ||| EventFlag.cueDone.bit } }

theorem entry?_finished (n : CueNumber) (s : State) (k : CueNumber) :
    (finished n s).cue.entry? k = if k = n then (s.cue.entry? k).map completeEntry else s.cue.entry? k :=
  entry?_mapRun n (f := completeEntry) (fun _ => rfl) s k

/-- Two changes of one cue's entry are one change. -/
theorem map_entry_twice (n : CueNumber) {f g : RunEntry → RunEntry} (hg : ∀ r, (g r).cue = r.cue) (l : List RunEntry) :
    ((l.map fun r => if r.cue = n then g r else r).map fun r => if r.cue = n then f r else r) =
      l.map fun r => if r.cue = n then f (g r) else r := by
  rw [List.map_map]
  refine List.map_congr_left fun r _ => ?_
  by_cases hr : r.cue = n <;> simp [hr, hg]

theorem finished_eq (n : CueNumber) (s : State) : setRun n .complete (completed n 0 0 (beginFire n s)) = finished n s := by
  have runs := (map_entry_twice n (f := newState .complete) (g := fun r => { newState .firing r with failed := 0 })
    (fun _ => rfl) s.cue.runs).trans (b := s.cue.runs.map fun r => if r.cue = n then completeEntry r else r) rfl
  rw [← map_entry_twice n (f := fun r => { r with failed := 0 }) (g := newState .firing) (fun _ => rfl)] at runs
  unfold finished
  rw [← runs]
  by_cases hh : s.cue.held = some n
  · simp only [setRun, beginFire, completed, mapRun, setHeld, flag, handStandby, hh]
    rfl
  · simp only [setRun, beginFire, completed, mapRun, flag, hh, false_and, if_false]
    rfl

/-- A cue with its record and entry that hands no patch begins to fire and completes (R35, R46). -/
theorem finished_of_noPatch (h : s.firesNoPatch n c) :
    completeCue n (beginFire n s) = finished n s := by
  obtain ⟨e, he⟩ := Option.isSome_iff_exists.1 h.entry
  have actions : c.patchActions = 0 := by
    simp only [Cue.patchActions, List.length_eq_zero_iff, List.filter_eq_nil_iff]
    exact fun a ha => by simp [h.patches a ha]
  have entry : (beginFire n s).cue.entry? n = some { newState .firing e with failed := 0 } := by
    show (mapRun n (fun r => { r with failed := 0 }) _).cue.entry? n = _
    rw [entry?_mapRun n (f := fun r => { r with failed := 0 }) (fun _ => rfl), if_pos rfl, entry?_setRun, if_pos rfl]
    show ((s.cue.entry? n).map _).map _ = _
    rw [he]; rfl
  have record : (beginFire n s).book.cue? n = some c := by rw [outside_book (beginFire_outside s n)]; exact h.record
  rw [completeCue_eq entry record, actions]
  exact finished_eq n s

/-! ## Click actions (R32, R82) -/

/-- The click enable that a station action sets, none where it leaves it unchanged. -/
def enableOf (a : StationAction) : Option Bool :=
  match a.click with
  | .on => some true
  | .off => some false
  | .unchanged => none

theorem handClick_eq (s : State) (a : StationAction) : handClick s a =
    onClicks a.chair (fun k => { k with enable := (enableOf a).getD k.enable }) s := by
  unfold handClick enableOf
  cases a.click with
  | on => rfl
  | off => rfl
  | unchanged =>
    have kept : modifyAt s.clicks a.chair (fun k => k) = s.clicks :=
      vector_ext_fin fun i => by rw [modifyAt_getElem]; split <;> rfl
    show s = { s with clicks := modifyAt s.clicks a.chair fun k => k }
    rw [kept]

theorem handClicks_frame (l : List StationAction) (s : State) : ∃ k, l.foldl handClick s = { s with clicks := k } := by
  induction l generalizing s with
  | nil => exact ⟨s.clicks, rfl⟩
  | cons a l ih =>
    obtain ⟨k, hk⟩ := ih (handClick s a)
    exact ⟨k, by rw [List.foldl_cons, hk, handClick_eq]; rfl⟩

/-- The actions of a cue, each of another chair, set their chairs' enables and nothing else. -/
theorem handClicks_clicks {l : List StationAction} (hl : l.Pairwise fun a b => a.chair ≠ b.chair) (s : State) (d : Chair) :
    (l.foldl handClick s).clicks[d] = { s.clicks[d] with
      enable := ((l.find? fun a => decide (a.chair = d)).bind enableOf).getD s.clicks[d].enable } := by
  induction l generalizing s with
  | nil => rfl
  | cons a l ih =>
    obtain ⟨ha, hl⟩ := List.pairwise_cons.1 hl
    rw [List.foldl_cons, ih hl, handClick_eq, onClicks_clicks, modifyAt_getElem]
    by_cases hd : a.chair = d
    · have none : l.find? (fun b => decide (b.chair = d)) = none :=
        List.find?_eq_none.2 fun b hb => by simpa using hd ▸ (ha b hb).symm
      simp [hd, none]
    · simp [hd, Ne.symm hd]

theorem clickFor_eq (c : Cue) (d : Chair) : c.clickFor d = (c.actions.find? fun a => decide (a.chair = d)).bind enableOf := by
  unfold Cue.clickFor Cue.actionFor enableOf
  cases c.actions.find? fun a => decide (a.chair = d) with
  | none => rfl
  | some a => obtain ⟨chair, patch, click⟩ := a; cases click <;> rfl

/-- The state in which a cue that hands no patch has completed and its click actions are taken (R32). -/
def handed (n : CueNumber) (c : Cue) (s : State) : State := c.actions.foldl handClick (finished n s)

theorem handed_frame (n : CueNumber) (c : Cue) (s : State) : ∃ k, handed n c s = { finished n s with clicks := k } :=
  handClicks_frame c.actions (finished n s)

theorem handed_clicks (h : s.firesNoPatch n c) (d : Chair) : (handed n c s).clicks[d] =
    { s.clicks[d] with enable := (c.clickFor d).getD s.clicks[d].enable } := by
  rw [clickFor_eq]
  exact handClicks_clicks h.chairs (finished n s) d

/-! ## The steps of a fire (R32) -/

/-- The closing steps of a fire: what is shown of it, the standby's move and the guard (R31, R32, R37). -/
def closeFire (cause : FireCause) (n : CueNumber) (c : Cue) (s : State) : State :=
  let s := { s with
    overlay := { s.overlay with lastCue := some (n, c.text) }
    cue := { s.cue with lastFired := some n } }
  let s := if cause = .held then s else if c.isGo then standbyAfterFire n s else s
  if cause = .timed then s else startGuard s

theorem foldl_handPatch (h : s.firesNoPatch n c) (x : State) : c.actions.foldl (handPatch c) x = x := by
  have all := h.patches
  generalize c.actions = l at all
  induction l generalizing x with
  | nil => rfl
  | cons a l ih =>
    have none : handPatch c x a = x := by simp [handPatch, all a (by simp)]
    rw [List.foldl_cons, none]
    exact ih x fun b hb => all b (by simp [hb])

/-- The clock's part of a cue's fire: its tempo action, then its vamp action (R34). -/
def clockPart (c : Cue) (s : State) : State × List BarTrigger := (handVamp c (handTempo c s).1, (handTempo c s).2)

/-- A cue that hands no patch fires in its steps (R32). -/
theorem fireCue_noPatch (h : s.firesNoPatch n c) (cause : FireCause) :
    fireCue cause n s =
      (flag .cueFired (startFollow n (closeFire cause n c (clockPart c (handed n c s)).1)).1,
        (clockPart c (handed n c s)).2.map .bar ++
          (startFollow n (closeFire cause n c (clockPart c (handed n c s)).1)).2) := by
  have slots : (beginFire n s).slotHolds n = false := by
    have patch : (beginFire n s).patch = s.patch := setRun_patch ..
    rw [State.slotHolds, patch]
    exact h.slots
  unfold fireCue
  simp only [h.record, foldl_handPatch h, slots, finished_of_noPatch h]
  rfl

/-! ## Cues passed along a list (R37, R42) -/

theorem entry?_passCues (l : List CueNumber) (s : State) (k : CueNumber) :
    (l.foldl (fun s m => passCue m s) s).cue.entry? k =
      if k ∈ l then (s.cue.entry? k).map (newState .passed) else s.cue.entry? k := by
  induction l generalizing s with
  | nil => simp
  | cons m l ih =>
    rw [List.foldl_cons, ih, entry?_passCue]
    by_cases hm : k = m
    · subst hm
      by_cases hl : k ∈ l
      · rw [if_pos hl, if_pos rfl, if_pos (by simp), Option.map_map]; rfl
      · rw [if_neg hl, if_pos rfl, if_pos (by simp)]
    · simp [hm]

theorem passCues_around (l : List CueNumber) (s : State) :
    aroundRuns (l.foldl (fun s m => passCue m s) s) = aroundRuns s :=
  aroundRuns_foldl (fun s m => passCue_around m s) l s

theorem passCues_isOpen (l : List CueNumber) (s : State) :
    (l.foldl (fun s m => passCue m s) s).cue.isOpen = s.cue.isOpen :=
  (congrArg (fun x => x.cue.isOpen) (passCues_around l s) :)

theorem passCues_standby (l : List CueNumber) (s : State) :
    (l.foldl (fun s m => passCue m s) s).cue.standby = s.cue.standby := by
  induction l generalizing s with
  | nil => rfl
  | cons m l ih => exact (ih _).trans (passCue_standby m s)

theorem passCues_runState (l : List CueNumber) (ho : s.cue.isOpen = true) {k : CueNumber}
    (he : (s.cue.entry? k).isSome = true) :
    (l.foldl (fun s m => passCue m s) s).runState k = if k ∈ l then .passed else s.runState k := by
  obtain ⟨e, he⟩ := Option.isSome_iff_exists.1 he
  have ho' := (passCues_isOpen l s).trans ho
  have entry := entry?_passCues l s k
  rw [he] at entry
  split at entry
  · rw [runState_of_entry ho' entry, if_pos ‹_›]; rfl
  · rw [runState_of_entry ho' entry, if_neg ‹_›, runState_of_entry ho he]

theorem passCues_runState_other {l : List CueNumber} {k : CueNumber} (hk : k ∉ l) (s : State) :
    (l.foldl (fun s m => passCue m s) s).runState k = s.runState k :=
  runState_congr (passCues_isOpen l s) ((entry?_passCues l s k).trans (if_neg hk))

/-! ## The standby after a GO (R37) -/

/-- The GO cues before a fired cue that are still ahead. -/
def passedBy (n : CueNumber) (s : State) : List CueNumber :=
  (s.book.cues.filter fun c => c.isGo && c.number.before n &&
    (decide (s.runState c.number = .pending) || decide (s.runState c.number = .standby))).map (·.number)

/-- The state in which the GO cues before a fired cue are passed, and its standby is still to be placed. -/
def passedBefore (n : CueNumber) (s : State) : State := (passedBy n s).foldl (fun s m => passCue m s) s

theorem standbyAfterFire_eq (n : CueNumber) (s : State) :
    standbyAfterFire n s = placeStandby ((passedBefore n s).firstGoAfter (some n)) (passedBefore n s) := rfl

theorem mem_passedBy {m : CueNumber} : m ∈ passedBy n s ↔ ∃ c ∈ s.book.cues, c.number = m ∧ c.trigger = .go ∧
    m.before n = true ∧ (s.runState m = .pending ∨ s.runState m = .standby) := by
  simp only [passedBy, List.mem_map, List.mem_filter, Bool.and_eq_true, Bool.or_eq_true, decide_eq_true_eq, isGo_iff]
  constructor
  · rintro ⟨c, ⟨hc, ⟨hgo, hb⟩, hr⟩, rfl⟩
    exact ⟨c, hc, rfl, hgo, hb, hr⟩
  · rintro ⟨c, hc, rfl, hgo, hb, hr⟩
    exact ⟨c, ⟨hc, ⟨hgo, hb⟩, hr⟩, rfl⟩

theorem firstGoAfter_some (n : CueNumber) (s : State) :
    s.firstGoAfter (some n) = (s.pendingGo.filter fun m => n.before m).head? := by
  rw [List.head?_filter]
  rfl

theorem firstGoAfter_before {m : CueNumber} (h : s.firstGoAfter (some n) = some m) : n.before m = true := by
  rw [firstGoAfter_some] at h
  exact (List.mem_filter.1 (List.mem_of_mem_head? h)).2

/-- The next standby depends on the book and on which cues after the fired one are PENDING. -/
theorem firstGoAfter_congr (hb : t.book = s.book)
    (h : ∀ c ∈ s.book.cues, n.before c.number = true → (t.runState c.number = .pending ↔ s.runState c.number = .pending)) :
    t.firstGoAfter (some n) = s.firstGoAfter (some n) := by
  have both : ∀ x : State, x.book = s.book → x.firstGoAfter (some n) = ((s.book.cues.filter fun c =>
      c.isGo && decide (x.runState c.number = .pending) && n.before c.number).map (·.number)).head? := by
    intro x hx
    unfold State.firstGoAfter State.pendingGo
    rw [hx]
    exact find?_numbers_filter _ _ _ _ fun _ _ => rfl
  rw [both t hb, both s rfl]
  refine congrArg (fun l : List Cue => (l.map (·.number)).head?) (List.filter_congr fun c hc => ?_)
  by_cases hn : n.before c.number = true
  · simp only [h c hc hn]
  · simp [hn]

theorem ne_of_mem_passedBy {m : CueNumber} (h : m ∈ passedBy n s) : m ≠ n := by
  obtain ⟨-, -, -, -, hb, -⟩ := mem_passedBy.1 h
  exact ne_of_before hb

theorem before_asymm {a b : CueNumber} (h : a.before b = true) : b.before a = false := by
  simp only [CueNumber.before, Bool.or_eq_true, Bool.and_eq_true, decide_eq_true_eq, Bool.or_eq_false_iff,
    Bool.and_eq_false_iff, decide_eq_false_iff_not] at *
  omega

theorem passedBefore_standby (n : CueNumber) (s : State) :
    (passedBefore n s).firstGoAfter (some n) = s.firstGoAfter (some n) := by
  refine firstGoAfter_congr (outside_book (outside_foldl _ (fun s m => passCue_outside s m) _ s)) fun c _ hn => ?_
  have notPassed : c.number ∉ passedBy n s := fun h => by
    obtain ⟨-, -, -, -, hb, -⟩ := mem_passedBy.1 h
    simp [before_asymm hn] at hb
  exact iff_of_eq (congrArg (· = _) (passCues_runState_other notPassed s))

theorem standbyAfterFire_standby (n : CueNumber) (s : State) :
    (standbyAfterFire n s).cue.standby = s.firstGoAfter (some n) := by
  rw [standbyAfterFire_eq, placeStandby_standby, passedBefore_standby]

theorem standbyAfterFire_around (n : CueNumber) (s : State) : aroundRuns (standbyAfterFire n s) = aroundRuns s := by
  rw [standbyAfterFire_eq]
  exact (placeStandby_around ..).trans (passCues_around ..)

/-- The run states that a GO's move of the standby leaves (R37). -/
theorem standbyAfterFire_runState (ho : s.cue.isOpen = true) {k : CueNumber} (he : (s.cue.entry? k).isSome = true) :
    (standbyAfterFire n s).runState k =
      if k ∈ passedBy n s then .passed else if s.firstGoAfter (some n) = some k then .standby else s.runState k := by
  have ho' : (passedBefore n s).cue.isOpen = true := (passCues_isOpen _ s).trans ho
  have he' : ((passedBefore n s).cue.entry? k).isSome = true := by
    rw [passedBefore, entry?_passCues]; split <;> simpa using he
  rw [standbyAfterFire_eq, passedBefore_standby, placeStandby_runState _ ho' he', passedBefore, passCues_runState _ ho he]
  by_cases hk : k ∈ passedBy n s
  · obtain ⟨-, -, -, -, hb, -⟩ := mem_passedBy.1 hk
    have other : s.firstGoAfter (some n) ≠ some k := fun h => by
      simp [before_asymm (firstGoAfter_before h)] at hb
    simp [hk, other]
  · simp [hk]

theorem placeStandby_overlay {y : Option CueNumber} (hh : s.cue.held = none) :
    (placeStandby y s).overlay = { s.overlay with standby := y } ∧ (placeStandby y s).cue.held = none := by
  cases y with
  | none => exact ⟨by simp [placeStandby, handStandby, hh], hh⟩
  | some m =>
    have held : (setRun m .standby (standbyField (some m) s)).cue.held = none := by
      rw [setRun_held]; simp [standbyField, hh]
    have overlay : (setRun m .standby (standbyField (some m) s)).overlay = s.overlay := by
      rw [setRun_eq, if_neg (by simp [standbyField, hh])]; rfl
    have standby := setRun_standby m .standby (standbyField (some m) s)
    rw [placeStandby_some]
    exact ⟨by simp [handStandby, held, overlay, standby]; rfl, held⟩

theorem passCues_held (l : List CueNumber) (hh : s.cue.held = none) :
    (l.foldl (fun s m => passCue m s) s).cue.held = none ∧
      (l.foldl (fun s m => passCue m s) s).overlay = s.overlay := by
  induction l generalizing s with
  | nil => exact ⟨hh, rfl⟩
  | cons m l ih =>
    have held : (passCue m s).cue.held = none := by
      show (setRun m .passed s).cue.held = none
      rw [setRun_held]; simp [hh]
    have overlay : (passCue m s).overlay = s.overlay := by
      show (setRun m .passed s).overlay = _
      rw [setRun_eq, if_neg (by simp [hh])]; rfl
    rw [List.foldl_cons]
    exact ⟨(ih held).1, ((ih held).2).trans overlay⟩

/-- With no cue held, the overlay's standby follows the standby (R37, R146). -/
theorem standbyAfterFire_overlay (hh : s.cue.held = none) :
    (standbyAfterFire n s).overlay = { s.overlay with standby := s.firstGoAfter (some n) } ∧
      (standbyAfterFire n s).cue.held = none := by
  obtain ⟨held, overlay⟩ := passCues_held (passedBy n s) hh
  rw [standbyAfterFire_eq, passedBefore_standby]
  refine ⟨?_, (placeStandby_overlay held).2⟩
  refine (placeStandby_overlay (s := passedBefore n s) held).1.trans ?_
  exact congrArg (fun o => { o with standby := s.firstGoAfter (some n) }) overlay

/-! ## What the closing steps leave -/

theorem overlay_of_standby {o p : Overlay} (h : { o with standby := none } = { p with standby := none }) :
    o = { p with standby := o.standby } := by
  cases o
  cases p
  simp_all

theorem frame_of_around (h : aroundRuns t = aroundRuns s) : ∃ (k : CueEngine) (o : Option CueNumber), t = { s with
    cue := { s.cue with runs := k.runs, standby := k.standby, held := k.held, timers := k.timers }
    overlay := { s.overlay with standby := o } } := by
  obtain ⟨hs, hc⟩ := eq_of_around h
  have ho := overlay_of_standby (congrArg State.overlay h :)
  refine ⟨t.cue, t.overlay.standby, ?_⟩
  rw [← hc, ← ho]
  exact hs

theorem closeFire_around (cause : FireCause) (n : CueNumber) (c : Cue) (s : State) : ∃ (k : CueEngine) (o : Option CueNumber),
    closeFire cause n c s = { s with
      cue := { s.cue with
        runs := k.runs, standby := k.standby, held := k.held, timers := k.timers, guard := k.guard, lastFired := some n }
      overlay := { s.overlay with lastCue := some (n, c.text), standby := o } } := by
  unfold closeFire
  extract_lets o k s1 s2
  have moved : ∃ (k : CueEngine) (o : Option CueNumber), s2 = { s1 with
      cue := { s1.cue with runs := k.runs, standby := k.standby, held := k.held, timers := k.timers }
      overlay := { s1.overlay with standby := o } } := by
    by_cases hm : cause = .held
    · exact ⟨s1.cue, s1.overlay.standby, if_pos hm⟩
    · by_cases hgo : c.isGo = true
      · have h2 : s2 = standbyAfterFire n s1 := (if_neg hm).trans (if_pos hgo)
        rw [h2]
        exact frame_of_around (standbyAfterFire_around n s1)
      · exact ⟨s1.cue, s1.overlay.standby, (if_neg hm).trans (if_neg hgo)⟩
  obtain ⟨k2, o2, h2⟩ := moved
  split
  · exact ⟨{ k2 with guard := s.cue.guard }, o2, h2⟩
  · refine ⟨{ k2 with guard := (startGuard s2).cue.guard }, o2, ?_⟩
    rw [h2]; rfl

end Sys2Proof.Proofs

/-! PROOFS. Fires that hand no patch: what each leaves, and the GO, the triggers and the timers that make them (R23, R24,
R27 to R32, R37, R41 to R48). -/

namespace Sys2Proof.Proofs

open Sys2Proof.Machine Sys2Proof.Laws

variable {s t u x : State} {n : CueNumber} {c : Cue} {cause : FireCause}

/-! ## Run states through steps that leave them -/

@[simp] theorem runState_taking (s : State) (k : CueNumber) : s.taking.runState k = s.runState k := rfl
@[simp] theorem runState_owing (a : Answer) (s : State) (k : CueNumber) : (owing a s).runState k = s.runState k := rfl
@[simp] theorem runState_flag (g : EventFlag) (s : State) (k : CueNumber) : (flag g s).runState k = s.runState k := rfl
@[simp] theorem runState_startGuard (s : State) (k : CueNumber) : (startGuard s).runState k = s.runState k := rfl

/-! ## What the closing steps leave (R31, R32, R37) -/

theorem closeFire_timed (hgo : c.isGo = false) (x : State) : closeFire .timed n c x = { x with
    overlay := { x.overlay with lastCue := some (n, c.text) }, cue := { x.cue with lastFired := some n } } := by
  simp [closeFire, hgo]

theorem closeFire_still (hc : cause ≠ .timed) (hgo : cause = .held ∨ c.isGo = false) (x : State) :
    closeFire cause n c x = startGuard { x with
      overlay := { x.overlay with lastCue := some (n, c.text) }, cue := { x.cue with lastFired := some n } } := by
  rcases hgo with rfl | hgo
  · simp [closeFire]
  · simp [closeFire, hc, hgo]

theorem closeFire_go (hgo : c.isGo = true) (x : State) :
    closeFire .standby n c x = startGuard (standbyAfterFire n { x with
      overlay := { x.overlay with lastCue := some (n, c.text) }, cue := { x.cue with lastFired := some n } }) := by
  simp [closeFire, hgo]

/-- The closing steps leave the entry of a cue that is neither passed nor made the standby. -/
theorem closeFire_entry (cause : FireCause) (c : Cue) {k : CueNumber} (hp : k ∉ passedBy n x)
    (hs : x.firstGoAfter (some n) ≠ some k) : (closeFire cause n c x).cue.entry? k = x.cue.entry? k := by
  unfold closeFire
  extract_lets o e s1 s2
  have moved : s2.cue.entry? k = x.cue.entry? k := by
    by_cases hm : cause = .held
    · rw [show s2 = s1 from if_pos hm]; rfl
    · by_cases hgo : c.isGo = true
      · have next : s1.firstGoAfter (some n) ≠ some k := hs
        have ahead : k ∉ passedBy n s1 := hp
        rw [show s2 = standbyAfterFire n s1 from (if_neg hm).trans (if_pos hgo), standbyAfterFire_eq,
          passedBefore_standby, placeStandby_entry_kept next, passedBefore, entry?_passCues, if_neg ahead]
        rfl
      · rw [show s2 = s1 from (if_neg hm).trans (if_neg hgo)]; rfl
  split <;> exact moved

theorem closeFire_entry_self (cause : FireCause) (n : CueNumber) (c : Cue) (x : State) :
    (closeFire cause n c x).cue.entry? n = x.cue.entry? n :=
  closeFire_entry cause c (fun h => ne_of_mem_passedBy h rfl) fun h => by
    simpa [before_irrefl] using firstGoAfter_before h

theorem startFollow_none (h : ∀ d : Cue, x.cueAfter n = some d → d.isFollow = false) : startFollow n x = (x, []) := by
  unfold startFollow
  split
  next => rfl
  next d hd =>
    have := h d hd
    unfold Cue.isFollow at this
    split <;> simp_all

theorem settleFires_nil (x : State) : settleFires (x, []) = x := by
  unfold settleFires
  cases (x.book.cues.length + 1) * 4 + ([] : List AtOnce).length <;> rfl

/-! ## What every fire of no patch leaves (R32, R35, R46) -/

theorem frame_of_outside (h : outside t = outside s) (hp : t.patch = s.patch) : t = { s with
    cue := t.cue, clock := t.clock, overlay := t.overlay, clicks := t.clicks, due := t.due, links := t.links
    port := t.port } := by
  cases s
  cases t
  simp only [outside, State.mk.injEq] at h
  simp_all

/-- From `s` to `u` the clock has taken a step in a cue's fire: it leaves the cue's own entry, the completion record, the
click enables, and all that no clock action writes. -/
structure ClockStep (n : CueNumber) (s u : State) : Prop where
  outside : outside u = outside s
  patch : u.patch = s.patch
  entry : u.cue.entry? n = s.cue.entry? n
  completion : u.cue.completion = s.cue.completion
  enables : ∀ d : Chair, u.clicks[d].enable = s.clicks[d].enable

theorem ClockStep.refl (n : CueNumber) (s : State) : ClockStep n s s := ⟨rfl, rfl, rfl, rfl, fun _ => rfl⟩

/-- The state that a fire of no patch leaves, where no FOLLOW cue stands next (R32). -/
def firedFrom (cause : FireCause) (n : CueNumber) (c : Cue) (u : State) : State := flag .cueFired (closeFire cause n c u)

theorem handed_outside (n : CueNumber) (c : Cue) (s : State) : outside (handed n c s) = outside s := by
  obtain ⟨k, hk⟩ := handed_frame n c s
  rw [hk]; rfl

theorem handed_entry (n : CueNumber) (c : Cue) (s : State) (k : CueNumber) :
    (handed n c s).cue.entry? k = if k = n then (s.cue.entry? k).map completeEntry else s.cue.entry? k := by
  obtain ⟨v, hv⟩ := handed_frame n c s
  rw [hv]
  exact entry?_finished n s k

theorem enables_of_clickFor (hl : c.actions.Pairwise fun a b => a.chair ≠ b.chair) {a : StationAction} (ha : a ∈ c.actions) :
    c.clickFor a.chair = enableOf a := by
  rw [clickFor_eq]
  have one : AtMostOne (fun b : StationAction => decide (b.chair = a.chair)) c.actions :=
    AtMostOne.of_keys hl fun y z hyz hy => by
      simp only [decide_eq_true_eq, decide_eq_false_iff_not] at *
      exact fun hz => hyz (hy.trans hz.symm)
  rw [one.find? ha (by simp)]
  rfl

theorem fired_of_step (h : s.firesNoPatch n c) (hu : ClockStep n (handed n c s) u) (cause : FireCause) :
    s.fired (firedFrom cause n c u) n c := by
  obtain ⟨k, o, hk⟩ := closeFire_around cause n c u
  obtain ⟨v, hv⟩ := handed_frame n c s
  obtain ⟨e, he⟩ := Option.isSome_iff_exists.1 h.entry
  have entry : (firedFrom cause n c u).cue.entry? n = some (completeEntry e) := by
    show (closeFire cause n c u).cue.entry? n = _
    rw [closeFire_entry_self, hu.entry, handed_entry, if_pos rfl, he]; rfl
  have out : outside (firedFrom cause n c u) = outside s := by
    refine Eq.trans ?_ (hu.outside.trans (handed_outside n c s))
    unfold firedFrom; rw [hk]; rfl
  have clicks : (firedFrom cause n c u).clicks = u.clicks := by unfold firedFrom; rw [hk]; rfl
  have enable : ∀ d : Chair, (firedFrom cause n c u).clicks[d].enable = (c.clickFor d).getD s.clicks[d].enable := by
    intro d
    rw [clicks, hu.enables, handed_clicks h]
  refine { lastFired := ?_, complete := ?_, completion := ?_, shown := ?_, enables := ?_, others := ?_, frame := ?_ }
  · unfold firedFrom; rw [hk]; rfl
  · exact runState_of_entry ((outside_isOpen out).trans h.isOpen) entry
  · show (closeFire cause n c u).cue.completion = _
    rw [hk]
    show u.cue.completion = _
    rw [hu.completion, hv]; rfl
  · unfold firedFrom; rw [hk]; rfl
  · intro a ha
    rw [enable, enables_of_clickFor h.chairs ha]
    unfold enableOf
    cases a.click <;> simp
  · intro d hd
    have none : c.actions.find? (fun a => decide (a.chair = d)) = none :=
      List.find?_eq_none.2 fun a ha => by simpa using hd a ha
    rw [enable, clickFor_eq, none]; rfl
  · refine frame_of_outside out ?_
    unfold firedFrom
    rw [hk]
    exact hu.patch.trans (by rw [hv]; rfl)

/-! ## Plain fires -/

theorem fire_noPatch (h : s.firesNoPatch n c) (htempo : (clockPart c (handed n c s)).2 = [])
    (hnext : ∀ d : Cue, s.cueAfter n = some d → d.isFollow = false)
    (hu : ClockStep n (handed n c s) (clockPart c (handed n c s)).1) (cause : FireCause) :
    fire cause n s = firedFrom cause n c (clockPart c (handed n c s)).1 := by
  have book : (closeFire cause n c (clockPart c (handed n c s)).1).book = s.book := by
    obtain ⟨k, o, hk⟩ := closeFire_around cause n c (clockPart c (handed n c s)).1
    rw [hk]
    exact outside_book (hu.outside.trans (handed_outside n c s))
  unfold fire
  rw [fireCue_noPatch h, htempo, startFollow_none fun d hd => hnext d (by unfold State.cueAfter at *; rwa [book] at hd)]
  exact settleFires_nil _

theorem clockPart_none (htempo : c.tempo = none) (hvamp : c.vamp = none) (x : State) : clockPart c x = (x, []) := by
  simp [clockPart, handTempo, handVamp, htempo, hvamp]

theorem fireCue_plain (h : s.firesPlainly n c) (cause : FireCause) :
    fireCue cause n s = (firedFrom cause n c (handed n c s), []) := by
  have book : (closeFire cause n c (handed n c s)).book = s.book := by
    obtain ⟨k, o, hk⟩ := closeFire_around cause n c (handed n c s)
    rw [hk]
    exact outside_book (handed_outside n c s)
  rw [fireCue_noPatch h.tofiresNoPatch, clockPart_none h.tempo h.vamp, startFollow_none fun d hd => h.next d (by
    unfold State.cueAfter at *; rwa [book] at hd)]
  rfl

theorem fire_plain (h : s.firesPlainly n c) (cause : FireCause) : fire cause n s = firedFrom cause n c (handed n c s) := by
  unfold fire
  rw [fireCue_plain h]
  exact settleFires_nil _

theorem firedPlainly_of_fire (h : s.firesPlainly n c) (cause : FireCause) : s.firedPlainly (fire cause n s) n c := by
  rw [fire_plain h]
  obtain ⟨k, o, hk⟩ := closeFire_around cause n c (handed n c s)
  obtain ⟨v, hv⟩ := handed_frame n c s
  have clicks : (firedFrom cause n c (handed n c s)).clicks = (handed n c s).clicks := by unfold firedFrom; rw [hk]; rfl
  refine { fired_of_step h.tofiresNoPatch (.refl ..) cause with flags := ?_, clicks := ?_, quiet := ?_ }
  · unfold firedFrom; rw [hk, hv]; rfl
  · intro d
    rw [clicks, handed_clicks h.tofiresNoPatch]
  · unfold firedFrom; rw [hk, hv]; rfl

theorem handed_runState_other {m : CueNumber} (hm : m ≠ n) (c : Cue) (s : State) :
    (handed n c s).runState m = s.runState m :=
  runState_congr (outside_isOpen (handed_outside n c s)) ((handed_entry ..).trans (if_neg hm))

/-! ## A fire in a state that stands for another -/

/-- `x` stands for `s` as a cue begins to fire: the two differ in what the Cue Engine holds beside the run states, the standby
and the held cue, and in the port beside its flags. -/
structure Stands (s x : State) : Prop where
  frame : x = { s with
    cue := { s.cue with triggers := x.cue.triggers, timers := x.cue.timers }, port := { x.port with flags := s.port.flags } }

theorem Stands.firesNoPatch (h : Stands s x) (hf : s.firesNoPatch n c) : x.firesNoPatch n c := by
  rw [h.frame]
  exact ⟨hf.isOpen, hf.record, hf.entry, hf.slots, hf.patches, hf.chairs⟩

theorem Stands.firesPlainly (h : Stands s x) (hf : s.firesPlainly n c) : x.firesPlainly n c := by
  refine ⟨h.firesNoPatch hf.tofiresNoPatch, hf.tempo, hf.vamp, ?_⟩
  rw [h.frame]
  exact hf.next

theorem Stands.fired (h : Stands s x) (hf : x.fired t n c) (p : Port) : s.fired { t with port := p } n c := by
  rw [h.frame] at hf
  refine ⟨hf.lastFired, hf.complete, hf.completion, hf.shown, hf.enables, hf.others, ?_⟩
  exact congrArg (fun y : State => { y with port := p }) hf.frame

theorem Stands.firedPlainly (h : Stands s x) (hf : x.firedPlainly t n c) {p : Port} (hp : p.flags = t.port.flags) :
    s.firedPlainly { t with port := p } n c := by
  have fired := h.fired hf.tofired p
  rw [h.frame] at hf
  exact ⟨fired, hp.trans hf.flags, hf.clicks, congrArg (fun y : State => { y with port := p }) hf.quiet⟩

theorem stands_taking (s : State) : Stands s s.taking := ⟨rfl⟩

theorem runState_stands (h : Stands s x) (k : CueNumber) : x.runState k = s.runState k := by
  rw [h.frame]; rfl

/-! ## A GO by the steps of R30 -/

section go
variable {kind : GoKind}

theorem decideGo_closed (ho : s.cue.isOpen = false) : decideGo kind s = (s, .notOpen) := by simp [decideGo, ho]

variable (ho : s.cue.isOpen = true)
include ho

theorem decideGo_stopped (hs : s.stop.state ≠ .clear) : decideGo kind s = (ignoreGo kind s, .stopped) := by
  simp [decideGo, ho, hs]

variable (hs : s.stop.state = .clear)
include hs

theorem decideGo_guarded (hg : s.cue.guard ≠ none) : decideGo kind s = (ignoreGo kind s, .guarded) := by
  simp [decideGo, ho, hs, Option.isSome_iff_ne_none, hg]

variable (hg : s.cue.guard = none)
include hg

theorem decideGo_held (hh : s.cue.held = some n) : decideGo kind s = (fire .held n s, .fired n) := by
  simp [decideGo, ho, hs, hg, hh]

theorem decideGo_nothing (hh : s.cue.held = none) (hn : s.cue.standby = none) :
    decideGo kind s = (ignoreGo kind s, .nothing) := by simp [decideGo, ho, hs, hg, hh, hn]

theorem decideGo_standby (hh : s.cue.held = none) (hn : s.cue.standby = some n) : decideGo kind s =
    if s.standbyAllows kind then (fire .standby n s, .fired n) else (ignoreGo kind s, .notAllowed) := by
  simp [decideGo, ho, hs, hg, hh, hn]

end go

theorem standbyAllows_of {kind : GoKind} (hn : s.cue.standby = some n) (hc : s.book.cue? n = some c) :
    s.standbyAllows kind = c.mask.allows kind := by simp [State.standbyAllows, hn, hc]

theorem exec_go (ha : s.accepts) {r : GoResult} (h : decideGo .control s.taking = (t, r)) :
    exec .go s = .next (owing r.answer t) :=
  request_decided (d := decideControlGo) ha (by rw [decideControlGo, h])

/-! ## GOs that are set aside -/

/-- Settles O23: each step of R30 that stops a GO is a branch of the decision. -/
theorem goIsIgnoredByItsSteps : Obligations.GoIsIgnoredByItsSteps := by
  intro s ha
  refine ⟨fun ho => exec_go ha (decideGo_closed ho), fun ho => ⟨fun hs => exec_go ha (decideGo_stopped ho hs), fun hs =>
    ⟨fun hg => exec_go ha (decideGo_guarded ho hs hg), fun hg hh =>
      ⟨fun hn => exec_go ha (decideGo_nothing ho hs hg hh hn), fun n c hn hc hm => ?_⟩⟩⟩⟩
  have notAllowed : ¬s.taking.standbyAllows .control = true := by
    rw [standbyAllows_of (s := s.taking) hn hc]
    simp [GoMask.allows, hm]
  refine exec_go ha (r := .notAllowed) ?_
  rw [decideGo_standby (s := s.taking) ho hs hg hh hn, if_neg notAllowed]
  rfl

/-! ## A GO that fires (R30 to R32, R37, R48) -/

/-- The state in which the fired cue is shown and recorded, before the standby moves (R32). -/
def shownFire (n : CueNumber) (c : Cue) (s : State) : State := { s with
  overlay := { s.overlay with lastCue := some (n, c.text) }, cue := { s.cue with lastFired := some n } }

theorem mem_passedBy_of_mem (hp : s.book.cues.Pairwise fun x y => x.number ≠ y.number) {d : Cue} (hd : d ∈ s.book.cues) :
    d.number ∈ passedBy n s ↔ d.trigger = .go ∧ d.number.before n = true ∧
      (s.runState d.number = .pending ∨ s.runState d.number = .standby) := by
  have once : (s.book.cues.map (·.number)).Nodup := List.pairwise_map.2 hp
  rw [mem_passedBy]
  constructor
  · rintro ⟨e, he, hnum, hgo, hb, hr⟩
    exact ⟨List.inj_on_of_nodup_map once he hd hnum ▸ hgo, hb, hr⟩
  · rintro ⟨hgo, hb, hr⟩
    exact ⟨d, hd, rfl, hgo, hb, hr⟩

theorem exec_go_plain {cause : FireCause} (ha : s.accepts) (hf : s.firesPlainly n c)
    (hd : decideGo .control s.taking = (fire cause n s.taking, .fired n)) :
    exec .go s = .next (owing { status := .ok, data := .cue n } (firedFrom cause n c (handed n c s.taking))) ∧
      s.firedPlainly (owing { status := .ok, data := .cue n } (firedFrom cause n c (handed n c s.taking))) n c := by
  have hf' := (stands_taking s).firesPlainly hf
  have fires := fire_plain hf' cause
  have plainly := firedPlainly_of_fire hf' cause
  rw [fires] at hd plainly
  exact ⟨exec_go ha hd, (stands_taking s).firedPlainly plainly rfl⟩

/-- The guard that a fire starts (R31). -/
def guardOf (s : State) : Option Tick :=
  if s.book.settings.goGuard = 0 then none else some (s.now + msTicks s.book.settings.goGuard)

/-- A GO of a GO cue, with no cue held, closes: the standby moves on and the guard starts (R31, R37). -/
theorem firedFrom_go (hgo : c.isGo = true) (hh : u.cue.held = none) : ∃ (runs : List RunEntry) (timers : List FollowTimer),
    firedFrom .standby n c u = { u with
      cue := { u.cue with
        runs := runs, timers := timers, standby := u.firstGoAfter (some n), held := none, lastFired := some n
        guard := guardOf u }
      overlay := { u.overlay with lastCue := some (n, c.text), standby := u.firstGoAfter (some n) }
      port := { u.port with flags := u.port.flags ||| EventFlag.cueFired.bit } } := by
  obtain ⟨k, o, hk⟩ := frame_of_around (standbyAfterFire_around n (shownFire n c u))
  have standby := standbyAfterFire_standby n (shownFire n c u)
  obtain ⟨overlay, held⟩ := standbyAfterFire_overlay (n := n) (s := shownFire n c u) hh
  have shownNext : (shownFire n c u).firstGoAfter (some n) = u.firstGoAfter (some n) := rfl
  rw [shownNext] at standby overlay
  have close : firedFrom .standby n c u = flag .cueFired (startGuard (standbyAfterFire n (shownFire n c u))) :=
    congrArg (flag .cueFired) (closeFire_go hgo _)
  refine ⟨k.runs, k.timers, ?_⟩
  rw [hk] at close standby held
  have overlay' : ({ (shownFire n c u).overlay with standby := o } : Overlay) = _ := (congrArg State.overlay hk).symm.trans overlay
  rw [close, ← standby, ← held]
  have ho : o = u.firstGoAfter (some n) := congrArg Overlay.standby overlay'
  rw [ho, ← standby]
  rfl

theorem firedFrom_go_runState (hgo : c.isGo = true) (ho : u.cue.isOpen = true) {k : CueNumber}
    (he : (u.cue.entry? k).isSome = true) : (firedFrom .standby n c u).runState k =
      if k ∈ passedBy n u then .passed else if u.firstGoAfter (some n) = some k then .standby else u.runState k := by
  have close : firedFrom .standby n c u = flag .cueFired (startGuard (standbyAfterFire n (shownFire n c u))) :=
    congrArg (flag .cueFired) (closeFire_go hgo _)
  have shown : (shownFire n c u).runState k = u.runState k := rfl
  rw [close, runState_flag, runState_startGuard, standbyAfterFire_runState (s := shownFire n c u) ho he, shown]
  rfl

theorem firstGoAfter_handed (n : CueNumber) (c : Cue) (s : State) :
    (handed n c s).firstGoAfter (some n) = s.firstGoAfter (some n) :=
  firstGoAfter_congr (outside_book (handed_outside n c s)) fun _ _ hd =>
    iff_of_eq (congrArg (· = _) (handed_runState_other (ne_of_before hd).symm c s))

/-- Cues before the fired one are passed in the state after its hand-offs as in the state before. -/
theorem mem_passedBy_handed (hp : s.book.cues.Pairwise fun x y => x.number ≠ y.number) {d : Cue} (hd : d ∈ s.book.cues) :
    d.number ∈ passedBy n (handed n c s) ↔ d.trigger = .go ∧ d.number.before n = true ∧
      (s.runState d.number = .pending ∨ s.runState d.number = .standby) := by
  have book := outside_book (handed_outside n c s)
  rw [mem_passedBy_of_mem (by rw [book]; exact hp) (by rw [book]; exact hd)]
  refine and_congr_right fun _ => and_congr_right fun hb => ?_
  rw [handed_runState_other (ne_of_before hb)]

theorem goFiresTheStandbyCue_standby {n : CueNumber} {c : Cue} {s : State} (ha : s.accepts) (hs : s.stop.state = .clear)
    (hg : s.cue.guard = none) (hh : s.cue.held = none) (hn : s.cue.standby = some n) (hf : s.firesPlainly n c)
    (hgo : c.trigger = .go) (hm : c.mask.control = true) (hp : s.book.cues.Pairwise fun x y => x.number ≠ y.number)
    (he : ∀ d ∈ s.book.cues, (s.cue.entry? d.number).isSome = true) :
    ∃ t : State, exec .go s = .next t ∧ t.port.owed = some { status := .ok, data := .cue n } ∧ s.firedPlainly t n c ∧
      t.cue = { s.cue with
        runs := t.cue.runs, standby := t.cue.standby, holdCandidate := none, timers := t.cue.timers
        guard := t.cue.guard, lastFired := some n, completion := t.cue.completion } ∧
      t.cue.standby = (s.pendingGo.filter fun m => n.before m).head? ∧
      t.overlay = { s.overlay with lastCue := some (n, c.text), standby := t.cue.standby } ∧
      t.cue.guard = (if s.book.settings.goGuard = 0 then none
        else some (s.time.tick + BitVec.ofNat 32 (48 * s.book.settings.goGuard))) ∧
      ∀ d ∈ s.book.cues, d.number ≠ n →
        t.runState d.number =
          if d.trigger = .go ∧ d.number.before n = true ∧
              (s.runState d.number = .pending ∨ s.runState d.number = .standby) then .passed
          else if t.cue.standby = some d.number then .standby
          else s.runState d.number := by
  have allows : s.taking.standbyAllows .control = true := by
    rw [standbyAllows_of (s := s.taking) hn hf.record]; exact hm
  obtain ⟨hexec, plainly⟩ := exec_go_plain (cause := .standby) ha hf
    (by rw [decideGo_standby (s := s.taking) hf.isOpen hs hg hh hn, if_pos allows])
  have isGo := (isGo_iff c).2 hgo
  obtain ⟨v, hv⟩ := handed_frame n c s.taking
  have held : (handed n c s.taking).cue.held = none := by rw [hv]; simp [finished, hh]
  have next : (handed n c s.taking).firstGoAfter (some n) = (s.pendingGo.filter fun m => n.before m).head? :=
    (firstGoAfter_handed n c s.taking).trans (firstGoAfter_some n s)
  have isOpen : (handed n c s.taking).cue.isOpen = true := by rw [hv]; exact hf.isOpen
  have run : ∀ d ∈ s.book.cues, d.number ≠ n → (firedFrom .standby n c (handed n c s.taking)).runState d.number =
      if d.number ∈ passedBy n (handed n c s.taking) then .passed
      else if (handed n c s.taking).firstGoAfter (some n) = some d.number then .standby
      else (handed n c s.taking).runState d.number := by
    intro d hd hdn
    refine firedFrom_go_runState isGo isOpen ?_
    rw [handed_entry, if_neg hdn]
    exact he d hd
  obtain ⟨runs, timers, ht⟩ := firedFrom_go (n := n) isGo held
  rw [next] at ht run
  refine ⟨_, hexec, owing_owed .., plainly, ?_, ?_, ?_, ?_, fun d hd hdn => ?_⟩
  · rw [ht, hv]
    simp [finished, hh]
  · rw [ht]; rfl
  · rw [ht, hv]
    simp [finished, hh]
  · rw [ht, hv]
    rfl
  · have standby : (firedFrom .standby n c (handed n c s.taking)).cue.standby =
        (s.pendingGo.filter fun m => n.before m).head? := by rw [ht]
    rw [runState_owing, run d hd hdn, handed_runState_other hdn, owing_cue, standby]
    exact if_congr (mem_passedBy_handed (s := s.taking) hp hd) rfl rfl

/-- Settles O24: a GO of the standby, and a GO of the held follow cue. -/
theorem goFiresTheStandbyCue : Obligations.GoFiresTheStandbyCue := by
  refine ⟨fun n c s ha hs hg hh hn hf hgo hm hp he => goFiresTheStandbyCue_standby ha hs hg hh hn hf hgo hm hp he,
    fun n c s ha hs hg hh hf => ?_⟩
  obtain ⟨hexec, plainly⟩ := exec_go_plain (cause := .held) ha hf (decideGo_held (s := s.taking) hf.isOpen hs hg hh)
  obtain ⟨v, hv⟩ := handed_frame n c s.taking
  have close : firedFrom .held n c (handed n c s.taking) =
      flag .cueFired (startGuard (shownFire n c (handed n c s.taking))) :=
    congrArg (flag .cueFired) (closeFire_still (by simp) (.inl rfl) _)
  rw [close] at hexec plainly
  refine ⟨_, hexec, rfl, plainly, ?_, ?_, fun m hm => ?_⟩
  · show (startGuard (shownFire n c (handed n c s.taking))).cue = _
    rw [hv]
    simp [startGuard, shownFire, finished, hh]
    rfl
  · show (shownFire n c (handed n c s.taking)).overlay = _
    rw [hv]
    simp [shownFire, finished, hh]
  · exact handed_runState_other hm c s.taking

end Sys2Proof.Proofs

/-! PROOFS. The commands that fire a cue, and the triggers and timers that do (R31, R37, R40 to R45). -/

namespace Sys2Proof.Proofs

open Sys2Proof.Machine Sys2Proof.Laws

variable {s t u x : State} {n : CueNumber} {c : Cue} {cause : FireCause}

/-! ## Held BAR triggers (R41) -/

section trigger
variable {b : BarTrigger} {rest : List BarTrigger} (hr : s.resetHeld = false) (hb : s.cue.triggers = b :: rest)
include hr hb

theorem barTrigger_early (hd : tickReached s.time.tick b.tick = false) : exec .barTrigger s = .next s := by
  refine (event_up hr barTrigger).trans ?_
  simp [barTrigger, hb, State.now, hd]

variable (hd : tickReached s.time.tick b.tick = true)
include hd

theorem barTrigger_reached : exec .barTrigger s =
    .next (if s.triggerStands b then fire .timed b.cue { s with cue := { s.cue with triggers := rest } }
      else { s with cue := { s.cue with triggers := rest } }) := by
  refine (event_up hr barTrigger).trans ?_
  simp only [barTrigger, hb, State.now, hd, if_true]
  rfl

theorem barTrigger_dropped (h : s.runState b.cue ≠ .pending ∨ s.currentSong ≠ some b.pos.song) :
    exec .barTrigger s = .next { s with cue := { s.cue with triggers := rest } } := by
  have stands : ¬s.triggerStands b = true := by
    unfold State.triggerStands
    rcases h with h | h <;> split <;> simp [h]
  rw [barTrigger_reached hr hb hd, if_neg stands]

theorem barTrigger_fires {lead : Nat} (hc : s.book.cue? b.cue = some c) (ho : s.cue.isOpen = true)
    (hp : s.runState b.cue = .pending) (hcur : s.currentSong = some b.pos.song) (hsong : c.song = some b.pos.song)
    (htr : c.trigger = .bar b.pos.bar b.pos.beat lead) :
    exec .barTrigger s = .next (fire .timed b.cue { s with cue := { s.cue with triggers := rest } }) := by
  have stands : s.triggerStands b = true := by
    simp [State.triggerStands, hc, ho, hp, hcur, Cue.fallsOn, htr, hsong]
  rw [barTrigger_reached hr hb hd, if_pos stands]

end trigger

/-! ## Follow timers (R44, R45) -/

section timer
variable {f : FollowTimer} {rest : List FollowTimer} (hr : s.resetHeld = false) (hf : s.cue.timers = f :: rest)
include hr hf

theorem followExpiry_waits (hd : tickReached s.time.tick f.expiry = false ∨ s.stop.state = .stopped) :
    exec .followTimerExpiry s = .next s := by
  refine (event_up hr followExpiry).trans ?_
  rcases hd with hd | hd <;> simp [followExpiry, hf, State.now, hd]

variable (hd : tickReached s.time.tick f.expiry = true) (hs : s.stop.state ≠ .stopped)
include hd hs

theorem followExpiry_reached : exec .followTimerExpiry s =
    .next (if s.followStands f.cue then fire .timed f.cue { s with cue := { s.cue with timers := rest } }
      else { s with cue := { s.cue with timers := rest } }) := by
  refine (event_up hr followExpiry).trans ?_
  simp only [followExpiry, hf, State.now, hd, hs, ne_eq, not_false_eq_true, and_self, if_true]
  rfl

theorem followExpiry_dropped (h : s.runState f.cue ≠ .pending) :
    exec .followTimerExpiry s = .next { s with cue := { s.cue with timers := rest } } := by
  have stands : ¬s.followStands f.cue = true := by
    unfold State.followStands
    split <;> simp [h]
  rw [followExpiry_reached hr hf hd hs, if_neg stands]

theorem followExpiry_fires {delay : Nat} (hc : s.book.cue? f.cue = some c) (ho : s.cue.isOpen = true)
    (hp : s.runState f.cue = .pending) (htr : c.trigger = .follow delay) :
    exec .followTimerExpiry s = .next (fire .timed f.cue { s with cue := { s.cue with timers := rest } }) := by
  have stands : s.followStands f.cue = true := by simp [State.followStands, hc, ho, hp, Cue.isFollow, htr]
  rw [followExpiry_reached hr hf hd hs, if_pos stands]

end timer

/-! ## What a timed fire leaves (R31, R37) -/

theorem firedFrom_timed (hgo : c.isGo = false) (u : State) : firedFrom .timed n c u = { u with
    cue := { u.cue with lastFired := some n }, overlay := { u.overlay with lastCue := some (n, c.text) }
    port := { u.port with flags := u.port.flags ||| EventFlag.cueFired.bit } } := by
  unfold firedFrom
  rw [closeFire_timed hgo]
  rfl

theorem isGo_eq_false (h : c.trigger ≠ .go) : c.isGo = false := by simp [Cue.isGo, h]

/-- A plain fire of a BAR or a FOLLOW cue, which is not held: its whole effect. -/
theorem timedFire_plain (hx : Stands s x) (hxp : x.port = s.port) (hf : s.firesPlainly n c) (hgo : c.trigger ≠ .go)
    (hh : s.cue.held ≠ some n) :
    s.firedPlainly (fire .timed n x) n c ∧
      (fire .timed n x).cue = { x.cue with
        runs := (fire .timed n x).cue.runs, holdCandidate := none, lastFired := some n
        completion := (fire .timed n x).cue.completion } ∧
      (fire .timed n x).overlay = { s.overlay with lastCue := some (n, c.text) } ∧
      (fire .timed n x).port = { s.port with flags := (fire .timed n x).port.flags } ∧
      ∀ m : CueNumber, m ≠ n → (fire .timed n x).runState m = s.runState m := by
  have hf' := hx.firesPlainly hf
  have plainly : s.firedPlainly (fire .timed n x) n c := hx.firedPlainly (firedPlainly_of_fire hf' .timed) rfl
  have run : ∀ m : CueNumber, m ≠ n → (handed n c x).runState m = s.runState m := fun m hm =>
    (handed_runState_other hm c x).trans (runState_stands hx m)
  have held : x.cue.held = s.cue.held := (congrArg (fun y : State => y.cue.held) hx.frame :)
  have overlay : x.overlay = s.overlay := (congrArg State.overlay hx.frame :)
  obtain ⟨v, hv⟩ := handed_frame n c x
  rw [fire_plain hf', firedFrom_timed (isGo_eq_false hgo)] at plainly ⊢
  refine ⟨plainly, ?_, ?_, ?_, run⟩
  · rw [hv]
    simp [finished, held, hh]
  · rw [hv]
    simp [finished, held, hh, overlay]
  · rw [hv]
    simp [finished, hxp]

/-! ## The commands that fire a cue (R30, R41, R44) -/

/-- A command that fires the cue does so in a state that stands for its own, and owes what it owes. -/
theorem exec_firesBy {i : Instr} (hr : s.resetHeld = false) (hi : s.firesBy i n c) (hf : s.firesNoPatch n c) :
    ∃ (x : State) (cause : FireCause) (owed : Option Answer), Stands s x ∧ x.cue.triggers = s.otherTriggers i ∧
      x.cue.timers = s.otherTimers i ∧ (cause = .timed → c.isGo = false) ∧
      exec i s = .next { fire cause n x with port := { (fire cause n x).port with owed := owed } } := by
  rcases hi with ⟨rfl, hw, hs, hg, hgo⟩ | ⟨rfl, hp, b, rest, lead, hb, rfl, hd, hcur, hsong, htr⟩ |
    ⟨rfl, hp, hs, b, rest, delay, hb, rfl, hd, htr⟩
  · rcases hgo with ⟨hh, -⟩ | ⟨hh, hn, hgo, hm⟩
    · exact ⟨s.taking, .held, _, stands_taking s, rfl, rfl, by simp,
        exec_go ⟨hr, hw⟩ (decideGo_held (s := s.taking) hf.isOpen hs hg hh)⟩
    · have allows : s.taking.standbyAllows .control = true := by
        rw [standbyAllows_of (s := s.taking) hn hf.record]; exact hm
      exact ⟨s.taking, .standby, _, stands_taking s, rfl, rfl, by simp,
        exec_go ⟨hr, hw⟩ (by rw [decideGo_standby (s := s.taking) hf.isOpen hs hg hh hn, if_pos allows])⟩
  · exact ⟨_, .timed, _, ⟨rfl⟩, by simp [State.otherTriggers, hb], by simp [State.otherTimers], fun _ => by
      simp [Cue.isGo, htr], barTrigger_fires hr hb hd hf.record hf.isOpen hp hcur hsong htr⟩
  · exact ⟨_, .timed, _, ⟨rfl⟩, by simp [State.otherTriggers], by simp [State.otherTimers, hb], fun _ => by
      simp [Cue.isGo, htr], followExpiry_fires hr hb hd hs hf.record hf.isOpen hp htr⟩

/-! ## The next follow timer (R43) -/

theorem passCues_timers_kept (l : List CueNumber) (h : ∀ x ∈ s.cue.timers, x.cue ∉ l) :
    (l.foldl (fun s m => passCue m s) s).cue.timers = s.cue.timers := by
  induction l generalizing s with
  | nil => rfl
  | cons m l ih =>
    have kept : (passCue m s).cue.timers = s.cue.timers := by
      rw [passCue_timers, List.filter_eq_self]
      exact fun x hx => by simpa using fun e => h x hx (by simp [e])
    rw [List.foldl_cons, ih (by rw [kept]; exact fun x hx hl => h x hx (by simp [hl])), kept]

/-- The closing steps keep the follow timers where none is of a cue that they pass (R37, R44). -/
theorem closeFire_timers (cause : FireCause) (n : CueNumber) (c : Cue) (h : ∀ f ∈ x.cue.timers, f.cue ∉ passedBy n x) :
    (closeFire cause n c x).cue.timers = x.cue.timers := by
  unfold closeFire
  extract_lets o e s1 s2
  have moved : s2.cue.timers = x.cue.timers := by
    by_cases hm : cause = .held
    · rw [show s2 = s1 from if_pos hm]
    · by_cases hgo : c.isGo = true
      · rw [show s2 = standbyAfterFire n s1 from (if_neg hm).trans (if_pos hgo), standbyAfterFire_eq, placeStandby_timers]
        exact passCues_timers_kept (passedBy n s1) h
      · rw [show s2 = s1 from (if_neg hm).trans (if_neg hgo)]
  split <;> exact moved

theorem cueAfter_key {d : Cue} (h : s.cueAfter n = some d) : d ∈ s.book.cues ∧ n.before d.number = true :=
  ⟨List.mem_of_find?_eq_some h, by simpa using List.find?_some h⟩

/-- A FOLLOW cue that stands next is neither passed nor made the standby as the cue before it fires (R37). -/
theorem cueAfter_unmoved (hp : s.book.cues.Pairwise fun x y => x.number ≠ y.number) {d : Cue} (h : s.cueAfter n = some d)
    (hgo : d.trigger ≠ .go) : d.number ∉ passedBy n s ∧ s.firstGoAfter (some n) ≠ some d.number := by
  obtain ⟨hd, hb⟩ := cueAfter_key h
  have once : (s.book.cues.map (·.number)).Nodup := List.pairwise_map.2 hp
  refine ⟨fun hm => hgo ((mem_passedBy_of_mem hp hd).1 hm).1, fun hm => ?_⟩
  obtain ⟨e, he, hnum, hego, -⟩ := mem_pendingGo (firstGoAfter_mem hm)
  exact hgo (List.inj_on_of_nodup_map once he hd hnum ▸ hego)

section follow
variable {d : Cue} {delay : Nat} (hd : x.cueAfter n = some d) (htr : d.trigger = .follow delay)
  (hp : x.runState d.number = .pending)
include hd htr hp

theorem startFollow_atOnce (h : delay = 0 ∨ (8 ≤ x.cue.timers.length ∧ ∀ f ∈ x.cue.timers, f.cue ≠ d.number)) :
    startFollow n x = (x, [.follow d.number]) := by
  unfold startFollow
  simp only [hd, htr, hp, if_true]
  rcases h with h | ⟨h8, hnone⟩
  · rw [if_pos h]
  · have none : ¬(x.cue.timers.any fun f => decide (f.cue = d.number)) = true := by simpa using hnone
    by_cases h0 : delay = 0
    · rw [if_pos h0]
    · rw [if_neg h0, if_neg none, if_pos h8]

theorem startFollow_timer (h0 : 0 < delay) (h : x.cue.timers.length < 8 ∨ ∃ f ∈ x.cue.timers, f.cue = d.number) :
    startFollow n x = (addTimer { cue := d.number, expiry := x.now + msTicks delay } (cancelTimer d.number x), []) := by
  unfold startFollow
  simp only [hd, htr, hp, if_true]
  rw [if_neg (by omega)]
  by_cases has : (x.cue.timers.any fun f => decide (f.cue = d.number)) = true
  · rw [if_pos has]
  · have none : ∀ f ∈ x.cue.timers, f.cue ≠ d.number := by simpa using has
    have short : ¬8 ≤ x.cue.timers.length := by
      rcases h with h | ⟨f, hf, he⟩
      · omega
      · exact absurd he (none f hf)
    have kept : cancelTimer d.number x = x := by
      have all : x.cue.timers.filter (fun f => !decide (f.cue = d.number)) = x.cue.timers :=
        List.filter_eq_self.2 fun f hf => by simpa using none f hf
      unfold cancelTimer
      rw [all]
    rw [if_neg has, if_neg short, kept]

end follow

/-- The state that a fire of no patch and no clock work leaves before it looks for the next FOLLOW cue (R32). -/
abbrev closedFire (cause : FireCause) (n : CueNumber) (c : Cue) (x : State) : State := closeFire cause n c (handed n c x)

theorem closedFire_outside (cause : FireCause) (n : CueNumber) (c : Cue) (x : State) :
    outside (closedFire cause n c x) = outside x := by
  obtain ⟨k, o, hk⟩ := closeFire_around cause n c (handed n c x)
  refine Eq.trans ?_ (handed_outside n c x)
  unfold closedFire
  rw [hk]; rfl

/-- What is left in a fire, beside the cue's own work, of the FOLLOW cue that stands next and of the timers (R37, R43, R44). -/
theorem closedFire_next (cause : FireCause) (c : Cue) (hp : x.book.cues.Pairwise fun x y => x.number ≠ y.number) {d : Cue}
    (hd : x.cueAfter n = some d) (hgo : d.trigger ≠ .go)
    (ht : ∀ f ∈ x.cue.timers, ∀ e ∈ x.book.cues, e.number = f.cue → e.trigger ≠ .go) :
    (closedFire cause n c x).cueAfter n = some d ∧
      (closedFire cause n c x).cue.entry? d.number = x.cue.entry? d.number ∧
      (closedFire cause n c x).cue.timers = x.cue.timers := by
  have book := outside_book (handed_outside n c x)
  obtain ⟨v, hv⟩ := handed_frame n c x
  have timers : (handed n c x).cue.timers = x.cue.timers := by rw [hv]; rfl
  have after : (handed n c x).cueAfter n = some d := by rw [State.cueAfter, book]; exact hd
  obtain ⟨hpass, hstand⟩ := cueAfter_unmoved (by rw [book]; exact hp) after hgo
  refine ⟨?_, ?_, ?_⟩
  · rw [State.cueAfter, outside_book (closedFire_outside cause n c x)]; exact hd
  · rw [closeFire_entry cause c hpass hstand, handed_entry, if_neg (ne_of_before (cueAfter_key hd).2).symm]
  · refine (closeFire_timers cause n c fun f hf hm => ?_).trans timers
    obtain ⟨e, he, hnum, hego, -⟩ := mem_passedBy.1 hm
    exact ht f (timers ▸ hf) e (book ▸ he) hnum hego

theorem or_flags_twice (f : BitVec 10) : f ||| EventFlag.cueDone.bit ||| EventFlag.cueFired.bit ||| EventFlag.cueDone.bit |||
    EventFlag.cueFired.bit = f ||| EventFlag.cueDone.bit ||| EventFlag.cueFired.bit := by
  simp [EventFlag.bit, BitVec.or_assoc]

end Sys2Proof.Proofs

/-! PROOFS. Triggers and follow timers fire their cues, and a fire starts the next follow timer (R31, R41, R43 to R45). -/

namespace Sys2Proof.Proofs

open Sys2Proof.Machine Sys2Proof.Laws

variable {s t u x : State} {n : CueNumber} {c d : Cue} {cause : FireCause} {delay : Nat}

theorem fired_timers (h : s.fired t n c) (l : List FollowTimer) :
    s.fired { t with cue := { t.cue with timers := l } } n c :=
  ⟨h.lastFired, h.complete, h.completion, h.shown, h.enables, h.others,
    congrArg (fun y : State => { y with cue := { y.cue with timers := l } }) h.frame⟩

theorem mem_addTimer (T f : FollowTimer) (s : State) : f ∈ (addTimer T s).cue.timers ↔ f = T ∨ f ∈ s.cue.timers := by
  rw [show (addTimer T s).cue.timers = insertBefore _ T s.cue.timers from rfl, (insertBefore_perm T _).mem_iff]
  simp

theorem runFires_nil (fuel : Nat) (s : State) : runFires fuel [] s = s := by cases fuel <;> rfl

/-- One fire follows at once, and none after it. -/
theorem settleFires_one {a : AtOnce} (h : s.atOnceStands a = true) (hnone : (fireCue .timed a.cue s).2 = []) :
    settleFires (s, [a]) = (fireCue .timed a.cue s).1 := by
  show runFires ((s.book.cues.length + 1) * 4 + 1) [a] s = _
  rw [runFires, if_pos h]
  show runFires _ ([] ++ (fireCue .timed a.cue s).2) _ = _
  rw [hnone]
  exact runFires_nil ..

section next
variable (hf : x.firesNoPatch n c) (htempo : c.tempo = none) (hvamp : c.vamp = none) (hd : x.cueAfter n = some d)
  (htr : d.trigger = .follow delay) (hrun : x.runState d.number = .pending)
  (hp : x.book.cues.Pairwise fun x y => x.number ≠ y.number)
  (ht : ∀ f ∈ x.cue.timers, ∀ e ∈ x.book.cues, e.number = f.cue → e.trigger ≠ .go)
include hf htempo hvamp hd htr hrun hp ht

/-- A fire starts the timer of the FOLLOW cue that stands next (R43). -/
theorem fire_startsTimer (cause : FireCause) (h0 : 0 < delay)
    (h : x.cue.timers.length < 8 ∨ ∃ f ∈ x.cue.timers, f.cue = d.number) :
    fire cause n x = flag .cueFired (addTimer { cue := d.number, expiry := x.now + msTicks delay }
      (cancelTimer d.number (closedFire cause n c x))) := by
  obtain ⟨after, entry, timers⟩ := closedFire_next cause c hp hd (by simp [htr]) ht
  have out := closedFire_outside cause n c x
  have now : (closedFire cause n c x).now = x.now := congrArg Time.tick (outside_time out)
  unfold fire
  rw [fireCue_noPatch hf, clockPart_none htempo hvamp, startFollow_timer after htr
    ((runState_congr (outside_isOpen out) entry).trans hrun) h0 (by rwa [timers]), now]
  exact settleFires_nil _

/-- A fire brings the FOLLOW cue that stands next to fire at once, where it has no delay or no timer is free (R43). -/
theorem fire_atOnce (cause : FireCause) (h : delay = 0 ∨ (8 ≤ x.cue.timers.length ∧ ∀ f ∈ x.cue.timers, f.cue ≠ d.number))
    (hfd : x.firesPlainly d.number d) :
    ∃ y : State, y = flag .cueFired (closedFire cause n c x) ∧ y.firesPlainly d.number d ∧
      fire cause n x = firedFrom .timed d.number d (handed d.number d y) := by
  obtain ⟨after, entry, timers⟩ := closedFire_next cause c hp hd (by simp [htr]) ht
  have out := closedFire_outside cause n c x
  have isOpen := outside_isOpen out
  have pending : (closedFire cause n c x).runState d.number = .pending := (runState_congr isOpen entry).trans hrun
  have patch : (closedFire cause n c x).patch = x.patch := by
    obtain ⟨k, o, hk⟩ := closeFire_around cause n c (handed n c x)
    obtain ⟨v, hv⟩ := handed_frame n c x
    unfold closedFire
    rw [hk, hv]; rfl
  have book := outside_book out
  have fires : (flag .cueFired (closedFire cause n c x)).firesPlainly d.number d := by
    refine ⟨⟨isOpen.trans hfd.isOpen, ?_, ?_, ?_, hfd.patches, hfd.chairs⟩, hfd.tempo, hfd.vamp, ?_⟩
    · rw [flag_book, book]; exact hfd.record
    · rw [flag_cue, entry]; exact hfd.entry
    · show (closedFire cause n c x).slotHolds d.number = false
      rw [State.slotHolds, patch]; exact hfd.slots
    · intro e he
      refine hfd.next e ?_
      rw [State.cueAfter, flag_book, book] at he
      exact he
  refine ⟨_, rfl, fires, ?_⟩
  have stands : (flag .cueFired (closedFire cause n c x)).atOnceStands (.follow d.number) = true := by
    have record := fires.record
    have open' := fires.isOpen
    simp only [State.atOnceStands, State.followStands, record, open', runState_flag, pending, Cue.isFollow, htr]
    decide
  unfold fire
  rw [fireCue_noPatch hf, clockPart_none htempo hvamp, startFollow_atOnce after htr pending (by rwa [timers])]
  have none := fireCue_plain fires .timed
  exact (settleFires_one stands (congrArg Prod.snd none)).trans (congrArg Prod.fst none)

end next

theorem firesTimer_of_firesBy {i : Instr} (hr : s.resetHeld = false) (hi : s.firesBy i n c) (hf : s.firesNoPatch n c)
    (htempo : c.tempo = none) (hvamp : c.vamp = none) (hd : s.cueAfter n = some d) (htr : d.trigger = .follow delay)
    (hrun : s.runState d.number = .pending) (hp : s.book.cues.Pairwise fun x y => x.number ≠ y.number)
    (ht : ∀ x ∈ s.cue.timers, ∀ e ∈ s.book.cues, e.number = x.cue → e.trigger ≠ .go) :
    (0 < delay → ((s.otherTimers i).length < 8 ∨ ∃ x ∈ s.otherTimers i, x.cue = d.number) →
      ∃ t : State, exec i s = .next t ∧ s.fired t n c ∧ t.runState d.number = .pending ∧
        ∀ x : FollowTimer, x ∈ t.cue.timers ↔
          (x ∈ s.otherTimers i ∧ x.cue ≠ d.number) ∨
            x = { cue := d.number, expiry := s.time.tick + BitVec.ofNat 32 (48 * delay) }) ∧
    (delay = 0 ∨ (8 ≤ (s.otherTimers i).length ∧ ∀ x ∈ s.otherTimers i, x.cue ≠ d.number) →
      s.firesPlainly d.number d →
      ∃ t : State, exec i s = .next t ∧ t.runState n = .complete ∧ t.runState d.number = .complete ∧
        t.cue.lastFired = some d.number ∧
        t.cue.completion = some { cue := d.number, requests := 0, failed := 0 } ∧
        t.overlay.lastCue = some (d.number, d.text) ∧
        t.port.flags = s.port.flags ||| EventFlag.cueDone.bit ||| EventFlag.cueFired.bit ∧
        (∀ x : FollowTimer, x ∈ t.cue.timers ↔ x ∈ s.otherTimers i) ∧
        ∀ chair : Chair, t.clicks[chair] = { s.clicks[chair] with
          enable := ((d.clickFor chair).or (c.clickFor chair)).getD s.clicks[chair].enable }) := by
  obtain ⟨x, cause, owed, hx, -, htimers, -, hexec⟩ := exec_firesBy hr hi hf
  have hf' := hx.firesNoPatch hf
  have book : x.book = s.book := (congrArg State.book hx.frame :)
  have after : x.cueAfter n = some d := by rw [State.cueAfter, book]; exact hd
  have pending := (runState_stands hx d.number).trans hrun
  have now : x.now = s.time.tick := (congrArg State.now hx.frame :)
  have sub : ∀ f ∈ x.cue.timers, f ∈ s.cue.timers := by
    rw [htimers]
    intro f hmem
    unfold State.otherTimers at hmem
    split at hmem
    · exact List.mem_of_mem_tail hmem
    · exact hmem
  have once : x.book.cues.Pairwise fun x y => x.number ≠ y.number := by rw [book]; exact hp
  have noGo : ∀ f ∈ x.cue.timers, ∀ e ∈ x.book.cues, e.number = f.cue → e.trigger ≠ .go := fun f hmem e he =>
    ht f (sub f hmem) e (book ▸ he)
  obtain ⟨-, entry, timers⟩ := closedFire_next cause c once after (by simp [htr]) noGo
  have out := closedFire_outside cause n c x
  refine ⟨fun h0 h => ?_, fun h hfd => ?_⟩
  · have fires := fire_startsTimer hf' htempo hvamp after htr pending once noGo cause h0 (by rwa [htimers])
    have fired := fired_timers (hx.fired (fired_of_step hf' (.refl n (handed n c x)) cause)
      { (fire cause n x).port with owed := owed }) (fire cause n x).cue.timers
    rw [fires] at hexec fired
    refine ⟨_, hexec, fired, ?_, fun f => ?_⟩
    · exact (runState_congr (outside_isOpen out) entry).trans pending
    · show f ∈ (addTimer _ _).cue.timers ↔ _
      rw [mem_addTimer, now, ← htimers, ← timers, or_comm]
      simp [cancelTimer, msTicks, ticks]
  · obtain ⟨y, hy, hfy, fires⟩ := fire_atOnce hf' htempo hvamp after htr pending once noGo cause (by rwa [htimers])
      (hx.firesPlainly hfd)
    have fired := firedPlainly_of_fire hfy .timed
    rw [fire_plain hfy] at fired
    rw [fires] at hexec
    have hgo : d.isGo = false := by simp [Cue.isGo, htr]
    obtain ⟨k, o, hk⟩ := closeFire_around cause n c (handed n c x)
    obtain ⟨v, hv⟩ := handed_frame n c x
    obtain ⟨w, hw⟩ := handed_frame d.number d y
    have ne : n ≠ d.number := ne_of_before (cueAfter_key hd).2
    have yflags : y.port.flags = s.port.flags ||| EventFlag.cueDone.bit ||| EventFlag.cueFired.bit := by
      have flags : x.port.flags = s.port.flags := (congrArg (fun y : State => y.port.flags) hx.frame :)
      rw [hy, closedFire, hk, hv, ← flags]; rfl
    have yclicks : y.clicks = (handed n c x).clicks := by rw [hy, closedFire, hk]; rfl
    have xclicks : x.clicks = s.clicks := (congrArg State.clicks hx.frame :)
    refine ⟨_, hexec, ?_, fired.complete, fired.lastFired, fired.completion, fired.shown, ?_, fun f => ?_, fun chair => ?_⟩
    · show (firedFrom .timed d.number d (handed d.number d y)).runState n = _
      obtain ⟨e, he⟩ := Option.isSome_iff_exists.1 hf'.entry
      refine runState_of_entry (open_of_runState (by rw [fired.complete]; simp)) (e := completeEntry e) ?_
      show (closeFire .timed d.number d (handed d.number d y)).cue.entry? n = _
      rw [closeFire_timed hgo]
      show (handed d.number d y).cue.entry? n = _
      rw [handed_entry, if_neg ne, hy]
      show (closeFire cause n c (handed n c x)).cue.entry? n = _
      rw [closeFire_entry_self, handed_entry, if_pos rfl, he]
      rfl
    · exact fired.flags.trans (by rw [yflags, or_flags_twice])
    · have kept : (firedFrom .timed d.number d (handed d.number d y)).cue.timers = s.otherTimers i := by
        rw [firedFrom_timed hgo, hw, hy]
        exact timers.trans htimers
      exact iff_of_eq (congrArg (f ∈ ·) kept)
    · show (firedFrom .timed d.number d (handed d.number d y)).clicks[chair] = _
      rw [firedFrom_timed hgo]
      show (handed d.number d y).clicks[chair] = _
      rw [handed_clicks hfy.tofiresNoPatch, yclicks, handed_clicks hf', xclicks]
      cases d.clickFor chair <;> rfl

/-- Settles O27: the triggers and timers by what a timed fire leaves, the next timer by the branches of its start. -/
theorem timersFireTheirCues : Obligations.TimersFireTheirCues := by
  refine ⟨fun b rest s hr hb => ⟨barTrigger_early hr hb, fun hd => ⟨barTrigger_dropped hr hb hd, ?_⟩⟩,
    fun f rest s hr hf => ⟨followExpiry_waits hr hf, fun hd hs => ⟨followExpiry_dropped hr hf hd hs, ?_⟩⟩,
    fun expiry s hr hg => ?_, fun i n c d delay s hr hi hf htempo hvamp hd htr hrun hp ht =>
      firesTimer_of_firesBy hr hi hf htempo hvamp hd htr hrun hp ht⟩
  · intro c lead hfp hp hh hcur hsong htr
    have stands : Stands s { s with cue := { s.cue with triggers := rest } } := ⟨rfl⟩
    obtain ⟨plainly, cue, overlay, port, run⟩ := timedFire_plain stands rfl hfp (by simp [htr]) hh
    exact ⟨_, barTrigger_fires hr hb hd hfp.record hfp.isOpen hp hcur hsong htr, plainly, cue, overlay, port, run⟩
  · intro c delay hfp hp hh htr
    have stands : Stands s { s with cue := { s.cue with timers := rest } } := ⟨rfl⟩
    obtain ⟨plainly, cue, overlay, port, run⟩ := timedFire_plain stands rfl hfp (by simp [htr]) hh
    exact ⟨_, followExpiry_fires hr hf hd hs hfp.record hfp.isOpen hp htr, plainly, cue, overlay, port, run⟩
  · refine (event_up hr guardExpiry).trans ?_
    simp only [guardExpiry, State.due?, hg, State.now]
    split <;> rfl

end Sys2Proof.Proofs

/-! PROOFS. The standby set, and stepped by requests and swipes (R38, R39). -/

namespace Sys2Proof.Proofs

open Sys2Proof.Machine Sys2Proof.Laws

variable {s t u x : State} {n : CueNumber} {c : Cue}

/-! ## The standby moved (R38, R39) -/

theorem releaseStandby_runs (s : State) :
    ∃ runs, releaseStandby s = { s with cue := { s.cue with runs := runs } } := by
  rcases releaseStandby_eq s with ⟨m, -, -, h⟩ | ⟨-, h⟩
  · rw [h, setRun_eq, if_neg (by simp)]
    exact ⟨_, rfl⟩
  · exact ⟨s.cue.runs, h⟩

theorem releaseStandby_runState (hs : ∀ m : CueNumber, s.cue.standby = some m → s.runState m = .standby) (k : CueNumber) :
    (releaseStandby s).runState k = if s.cue.standby = some k then .pending else s.runState k := by
  rcases releaseStandby_eq s with ⟨m, hm, standing, h⟩ | ⟨hno, h⟩
  · have ho := open_of_runState (s := s) (k := m) (by rw [standing]; simp)
    obtain ⟨e, he, -⟩ := entry_of_runState (s := s) (k := m) (by rw [standing]; simp)
    rw [h, hm]
    by_cases hk : m = k
    · subst hk
      rw [if_pos rfl]
      exact edits_runState_self (setRun_edits m .pending s) ho he
    · rw [if_neg (by simpa using hk)]
      exact edits_runState (setRun_edits m .pending s) (Ne.symm hk)
  · rw [h, if_neg fun hk => hno k hk (hs k hk)]

/-- The held cue that a move of the standby to `n` leaves: one made the standby is held no longer (R48). -/
def heldBeside (n : CueNumber) (s : State) : Option CueNumber := if s.cue.held = some n then none else s.cue.held

theorem moveStandby_frame (n : CueNumber) (s : State) :
    ∃ runs, moveStandby n s = { s with
      cue := { s.cue with runs := runs, standby := some n, held := heldBeside n s }
      overlay := { s.overlay with standby := (heldBeside n s).or (some n) } } := by
  obtain ⟨runs, hr⟩ := releaseStandby_runs s
  unfold moveStandby heldBeside
  rw [hr, placeStandby_some, setRun_eq]
  by_cases hh : s.cue.held = some n
  · rw [if_pos ⟨hh, by simp⟩, if_pos hh]
    exact ⟨_, rfl⟩
  · rw [if_neg fun h => hh h.1, if_neg hh]
    exact ⟨_, rfl⟩

/-- The run states that a move of the standby leaves (R38, R39). -/
theorem moveStandby_runState (ho : s.cue.isOpen = true) (he : (s.cue.entry? n).isSome = true)
    (hs : ∀ m : CueNumber, s.cue.standby = some m → s.runState m = .standby) (hn : s.cue.standby ≠ some n) :
    (moveStandby n s).runState n = .standby ∧
      (∀ m : CueNumber, s.cue.standby = some m → (moveStandby n s).runState m = .pending) ∧
      ∀ m : CueNumber, m ≠ n → s.cue.standby ≠ some m → (moveStandby n s).runState m = s.runState m := by
  have entry : ((releaseStandby s).cue.entry? n).isSome = true := by
    rcases releaseStandby_eq s with ⟨m, -, -, h⟩ | ⟨-, h⟩
    · rw [h, entry?_setRun]; split <;> simpa using he
    · rw [h]; exact he
  have other : ∀ m : CueNumber, m ≠ n → (moveStandby n s).runState m = (releaseStandby s).runState m :=
    fun m hm => placeStandby_other hm _
  refine ⟨placeStandby_self ((outside_isOpen (releaseStandby_outside s)).trans ho) entry, fun m hm => ?_, fun m hm hk => ?_⟩
  · rw [other m fun h => hn (h ▸ hm), releaseStandby_runState hs, if_pos hm]
  · rw [other m hm, releaseStandby_runState hs, if_neg hk]

/-! ## The steps of the standby (R39) -/

/-- The standby that STANDBY NEXT moves to. -/
def nextStandby (s : State) : Option CueNumber := s.firstGoAfter (s.cue.standby.or s.cue.lastFired)

/-- The standby that STANDBY BACK moves to. -/
def backStandby (s : State) : Option CueNumber := s.lastGoBefore s.cue.standby

/-- The standby moves to the cue given, or stays. -/
def stepStandby (target : Option CueNumber) (s : State) : State := target.elim s fun m => moveStandby m s

theorem standbyNext_eq (s : State) : standbyNext s = stepStandby (nextStandby s) s := by
  unfold standbyNext nextStandby stepStandby
  cases s.cue.standby with
  | some n => dsimp only [Option.some_or]; cases s.firstGoAfter (some n) <;> rfl
  | none => dsimp only [Option.none_or]; cases s.firstGoAfter s.cue.lastFired <;> rfl

theorem standbyBack_eq (s : State) : standbyBack s = stepStandby (backStandby s) s := by
  unfold standbyBack backStandby stepStandby
  cases s.cue.standby with
  | some n => dsimp only; cases s.lastGoBefore (some n) <;> rfl
  | none => dsimp only; cases s.lastGoBefore none <;> rfl

theorem nextStandby_eq (s : State) : nextStandby s =
    (match s.cue.standby, s.cue.lastFired with
     | some n, _ => (s.pendingGo.filter fun m => n.before m).head?
     | none, some n => (s.pendingGo.filter fun m => n.before m).head?
     | none, none => s.pendingGo.head?) := by
  unfold nextStandby
  cases s.cue.standby with
  | some n => exact firstGoAfter_some n s
  | none =>
    cases s.cue.lastFired with
    | some n => exact firstGoAfter_some n s
    | none =>
      show s.pendingGo.find? (fun _ => true) = s.pendingGo.head?
      cases s.pendingGo <;> rfl

theorem backStandby_eq (s : State) : backStandby s =
    (match s.cue.standby with
     | some n => (s.pendingGo.filter fun m => m.before n).getLast?
     | none => s.pendingGo.getLast?) := by
  unfold backStandby
  cases s.cue.standby with
  | some n => rfl
  | none =>
    show (s.pendingGo.filter fun _ => true).getLast? = _
    rw [List.filter_true]

theorem pendingGo_pending {m : CueNumber} (h : m ∈ s.pendingGo) : s.runState m = .pending := by
  obtain ⟨c, -, rfl, -, hp⟩ := mem_pendingGo h
  exact hp

theorem nextStandby_pending (h : nextStandby s = some n) : s.runState n = .pending :=
  pendingGo_pending (firstGoAfter_mem h)

theorem backStandby_pending (h : backStandby s = some n) : s.runState n = .pending :=
  pendingGo_pending (lastGoBefore_mem h)

/-- A step of the standby to a PENDING cue that is not held: the old standby becomes PENDING, the cue STANDBY, and the held
follow cue stays (R39). -/
theorem stepStandby_moves (ho : s.cue.isOpen = true) (hp : s.runState n = .pending) (hh : s.cue.held ≠ some n)
    (he : (s.cue.entry? n).isSome = true) (hs : ∀ m : CueNumber, s.cue.standby = some m → s.runState m = .standby) :
    stepStandby (some n) s = { s with
      cue := (stepStandby (some n) s).cue, overlay := { s.overlay with standby := s.cue.held.or (some n) } } ∧
      (stepStandby (some n) s).cue = { s.cue with runs := (stepStandby (some n) s).cue.runs, standby := some n } ∧
      (stepStandby (some n) s).runState n = .standby ∧
      (∀ m : CueNumber, s.cue.standby = some m → (stepStandby (some n) s).runState m = .pending) ∧
      ∀ m : CueNumber, m ≠ n → s.cue.standby ≠ some m → (stepStandby (some n) s).runState m = s.runState m := by
  have hn : s.cue.standby ≠ some n := fun h => by simp [hs n h] at hp
  obtain ⟨runs, hr⟩ := moveStandby_frame n s
  have held : heldBeside n s = s.cue.held := if_neg hh
  rw [held] at hr
  refine ⟨?_, ?_, moveStandby_runState ho he hs hn⟩
  · show moveStandby n s = _
    rw [show stepStandby (some n) s = moveStandby n s from rfl, hr]
  · rw [show stepStandby (some n) s = moveStandby n s from rfl, hr]

/-! ## STANDBY SET (R38) -/

section set
variable {major minor : Nat} (ha : s.accepts)
include ha

theorem standbySet_decided {a : Answer} (h : decideStandbySet major minor s.taking = (t, a)) :
    exec (.standbySet major minor) s = .next (owing a t) := request_decided ha h

variable (ho : s.cue.isOpen = true)
include ho

theorem standbySet_range (h : major < 1 ∨ 999 < major ∨ 9 < minor) :
    exec (.standbySet major minor) s = .next (owing (plain .outOfRange) s.taking) := by
  have range : ({ major := major, minor := minor } : CueNumber).inRange = false := by
    simp only [CueNumber.inRange, Bool.and_eq_false_iff, decide_eq_false_iff_not]
    omega
  exact standbySet_decided ha (by simp [decideStandbySet, ho, range, refuse])

variable (h1 : 1 ≤ major) (h999 : major ≤ 999) (h9 : minor ≤ 9) (hn : n = { major := major, minor := minor })
include h1 h999 h9 hn

theorem standbySet_missing (hc : s.book.cue? n = none) :
    exec (.standbySet major minor) s = .next (owing (plain .notFound) s.taking) := by
  subst hn
  exact standbySet_decided ha (by simp [decideStandbySet, ho, CueNumber.inRange, h1, h999, h9, hc, refuse])

variable (hc : s.book.cue? n = some c)
include hc

theorem standbySet_same (hst : s.cue.standby = some n) :
    exec (.standbySet major minor) s = .next (owing { status := .ok, data := .standby (some n) } s.taking) := by
  subst hn
  refine standbySet_decided ha ?_
  simp [decideStandbySet, ho, CueNumber.inRange, h1, h999, h9, hc, hst, State.standbyAnswer]

theorem standbySet_invalid (hst : s.cue.standby ≠ some n) (h : ¬(c.trigger = .go ∧ s.runState n = .pending)) :
    exec (.standbySet major minor) s = .next (owing (plain .invalid) s.taking) := by
  have number := (cue?_key hc).2
  have may : s.taking.mayStand c = false := by
    rw [Bool.eq_false_iff]
    simpa [State.mayStand, isGo_iff, number] using h
  subst hn
  exact standbySet_decided ha (by simp [decideStandbySet, ho, CueNumber.inRange, h1, h999, h9, hc, hst, may, refuse])

theorem standbySet_moves (hst : s.cue.standby ≠ some n) (hgo : c.trigger = .go) (hp : s.runState n = .pending)
    (he : (s.cue.entry? n).isSome = true) (hs : ∀ m : CueNumber, s.cue.standby = some m → s.runState m = .standby) :
    ∃ t : State, exec (.standbySet major minor) s = .next t ∧
      t = owing { status := .ok, data := .standby (some n) }
        { s.taking with cue := t.cue, overlay := { s.overlay with standby := some n } } ∧
      t.cue = { s.cue with runs := t.cue.runs, standby := some n, held := none, holdCandidate := none } ∧
      t.runState n = .standby ∧ (∀ m : CueNumber, s.cue.standby = some m → t.runState m = .pending) ∧
      ∀ m : CueNumber, m ≠ n → s.cue.standby ≠ some m → t.runState m = s.runState m := by
  have number := (cue?_key hc).2
  have may : s.taking.mayStand c = true := by simp [State.mayStand, isGo_iff, number, hgo, hp]
  let y : State := { s.taking with cue := { s.taking.cue with holdCandidate := none } }
  have run := moveStandby_runState (s := y) ho he hs hst
  obtain ⟨runs, hr⟩ := moveStandby_frame n y
  have decided : decideStandbySet major minor s.taking =
      (setHeld none (moveStandby n y), (setHeld none (moveStandby n y)).standbyAnswer) := by
    subst hn
    simp [decideStandbySet, ho, CueNumber.inRange, h1, h999, h9, hc, hst, may, y]
  refine ⟨_, standbySet_decided ha decided, ?_, ?_, run⟩
  · rw [hr]; rfl
  · rw [hr]; rfl

end set

theorem exec_step {i : Instr} {move : State → State} (ha : s.accepts) (ho : s.cue.isOpen = true)
    (hi : exec i s = request (decideMove move) s) :
    exec i s = .next (owing (move s.taking).standbyAnswer (move s.taking)) := by
  rw [hi]
  exact request_decided ha (if_pos (c := s.taking.cue.isOpen = true) ho)

/-- Settles O26: the branches of STANDBY SET, and the move to the target of STANDBY NEXT and BACK. -/
theorem standbyIsSetAndStepped : Obligations.StandbyIsSetAndStepped := by
  refine ⟨fun major minor s ha => ⟨fun ho => ?_, fun ho => ⟨standbySet_range ha ho, fun h1 h999 h9 =>
    ⟨standbySet_missing ha ho h1 h999 h9 rfl, fun n c hn hc => ⟨standbySet_same ha ho h1 h999 h9 hn hc,
      standbySet_invalid ha ho h1 h999 h9 hn hc, standbySet_moves ha ho h1 h999 h9 hn hc⟩⟩⟩⟩, ?_⟩
  · exact standbySet_decided ha (by simp [decideStandbySet, ho, refuse])
  intro i target s ha hi
  have step : ∃ move : State → State, exec i s = request (decideMove move) s ∧ move s.taking = stepStandby target s.taking ∧
      ∀ n, target = some n → s.runState n = .pending := by
    rcases hi with ⟨rfl, ht⟩ | ⟨rfl, ht⟩
    · have ht' : target = nextStandby s := ht.trans (nextStandby_eq s).symm
      exact ⟨standbyNext, rfl, by rw [standbyNext_eq, ht']; rfl, fun n hn => nextStandby_pending (ht' ▸ hn)⟩
    · have ht' : target = backStandby s := ht.trans (backStandby_eq s).symm
      exact ⟨standbyBack, rfl, by rw [standbyBack_eq, ht']; rfl, fun n hn => backStandby_pending (ht' ▸ hn)⟩
  obtain ⟨move, hexec, hmove, hpending⟩ := step
  refine ⟨fun ho => ?_, fun ho => ⟨fun ht => ?_, fun n ht hh he hs => ?_⟩⟩
  · rw [hexec]
    exact request_refused ha (by simp [decideMove, ho])
  · rw [exec_step ha ho hexec, hmove, ht]
    rfl
  · obtain ⟨frame, cue, run⟩ := stepStandby_moves (s := s.taking) ho (hpending n ht) hh he hs
    refine ⟨_, exec_step ha ho hexec, ?_, ?_, ?_⟩
    · rw [hmove, ht, State.standbyAnswer, cue]
      exact congrArg _ frame
    · rw [hmove, ht]
      exact cue
    · rw [hmove, ht]
      exact run

end Sys2Proof.Proofs

/-! PROOFS. Requests to the Patch Dispatcher: taken, sent and resolved (R33, R35, R46, R91 to R99, R104). -/

namespace Sys2Proof.Proofs

open Sys2Proof.Machine Sys2Proof.Laws

variable {s t u x : State} {n : CueNumber} {k : Cue} {c d : Chair} {r : PatchReq} {o : ReqOutcome}

/-! ## One chair's entry changed twice -/

theorem modifyAt_twice {α : Type} {m : Nat} (v : Vector α m) (i : Fin m) (f g : α → α) :
    modifyAt (modifyAt v i f) i g = modifyAt v i fun x => g (f x) :=
  vector_ext_fin fun j => by
    rw [modifyAt_getElem, modifyAt_getElem, modifyAt_getElem]
    split <;> rfl

theorem onDispatch_twice (f g : Dispatch → Dispatch) (s : State) :
    onDispatch c g (onDispatch c f s) = onDispatch c (fun d => g (f d)) s := by
  unfold onDispatch
  rw [modifyAt_twice]

theorem onLink_twice (f g : Link → Link) (s : State) : onLink c g (onLink c f s) = onLink c (fun l => g (f l)) s := by
  unfold onLink
  rw [modifyAt_twice]

theorem onLink_self (f : Link → Link) (s : State) : (onLink c f s).links[c] = f s.links[c] := by
  rw [onLink_links, modifyAt_getElem, if_pos rfl]

theorem onLink_other (f : Link → Link) (s : State) (h : d ≠ c) : (onLink c f s).links[d] = s.links[d] := by
  rw [onLink_links, modifyAt_getElem, if_neg h]

/-- A change that leaves the chair's entry as it stands changes nothing. -/
theorem onDispatch_eq_self {f : Dispatch → Dispatch} (h : f s.patch[c] = s.patch[c]) : onDispatch c f s = s := by
  have kept : modifyAt s.patch c f = s.patch := vector_ext_fin fun j => by
    rw [modifyAt_getElem]
    split
    next hj => rw [hj, h]
    next => rfl
  unfold onDispatch
  rw [kept]

/-- Two changes of a chair's entry that agree on it as it stands are one. -/
theorem onDispatch_congr {f g : Dispatch → Dispatch} (h : f s.patch[c] = g s.patch[c]) : onDispatch c f s = onDispatch c g s := by
  have same : modifyAt s.patch c f = modifyAt s.patch c g := vector_ext_fin fun j => by
    rw [modifyAt_getElem, modifyAt_getElem]
    split
    next hj => rw [hj, h]
    next => rfl
  unfold onDispatch
  rw [same]

/-! ## Frames of a completion (R46, R47) -/

/-- The state without the Cue Engine, the overlay and the port. -/
def aroundCues (s : State) : State := { s with cue := CueEngine.initial, overlay := Overlay.initial, port := Port.initial }

theorem aroundCues_of_aroundRuns (h : aroundRuns t = aroundRuns s) : aroundCues t = aroundCues s :=
  (congrArg (fun x : State => { x with cue := CueEngine.initial, overlay := Overlay.initial, port := Port.initial }) h :)

theorem frame_of_aroundCues (h : aroundCues t = aroundCues s) : t = { s with cue := t.cue, overlay := t.overlay, port := t.port } := by
  cases s
  cases t
  simp only [aroundCues, State.mk.injEq] at h
  simp_all

theorem setRun_aroundCues (n : CueNumber) (st : RunState) (s : State) : aroundCues (setRun n st s) = aroundCues s :=
  aroundCues_of_aroundRuns (setRun_around n st s)

theorem moveStandby_aroundCues (n : CueNumber) (s : State) : aroundCues (moveStandby n s) = aroundCues s := by
  obtain ⟨runs, h⟩ := moveStandby_frame n s
  rw [h]; rfl

theorem returnPending_aroundCues (k : Cue) (s : State) : aroundCues (returnPending k s) = aroundCues s := by
  have first := setRun_aroundCues k.number .pending s
  unfold returnPending
  extract_lets s1
  split_ifs
  · exact (moveStandby_aroundCues ..).trans first
  · exact first
  · exact first

theorem completeCue_aroundCues (n : CueNumber) (s : State) : aroundCues (completeCue n s) = aroundCues s := by
  unfold completeCue
  split
  · dsimp only
    split
    · exact (setRun_aroundCues ..).trans rfl
    · exact (setRun_aroundCues ..).trans rfl
    · exact (setRun_aroundCues ..).trans rfl
    · exact (returnPending_aroundCues ..).trans rfl
  · rfl

theorem cueResolved_aroundCues (n : CueNumber) (o : ReqOutcome) (s : State) : aroundCues (cueResolved n o s) = aroundCues s := by
  unfold cueResolved
  extract_lets s1
  split_ifs
  · rfl
  · exact completeCue_aroundCues n s1
  · rfl

/-! ## Requests resolved (R91, R96 to R98) -/

/-- A chair's dispatch state after an outcome (R92). -/
def Resolved (r : PatchReq) (o : ReqOutcome) (d : Dispatch) : Dispatch :=
  { d with counts := d.counts.after o, last := some (r.kind, o) }

theorem resolve_quiet (h : ∀ n : CueNumber, r.isOf n = false) (o : ReqOutcome) (s : State) :
    resolve c r o s = onDispatch c (Resolved r o) s := by
  unfold resolve
  extract_lets s1
  split
  next n sel => simpa [PatchReq.isOf] using h n
  next => rfl

theorem resolve_aroundCues (r : PatchReq) (o : ReqOutcome) (s : State) :
    aroundCues (resolve c r o s) = aroundCues (onDispatch c (Resolved r o) s) := by
  unfold resolve
  extract_lets s1
  split
  · exact cueResolved_aroundCues ..
  · rfl

/-- A chair's dispatch state with its request in flight landed (R96 to R98, R100). -/
def Landed (r : PatchReq) (o : ReqOutcome) (confirmed : Confirmed) (d : Dispatch) : Dispatch :=
  { d with flight := none, confirmed := confirmed, counts := d.counts.after o, last := some (r.kind, o) }

theorem promote_none (h : s.patch[c].waiting = none) : promote c s = s := by
  unfold promote
  split
  · rw [h]
  · rfl

theorem land_quiet (h : ∀ n : CueNumber, r.isOf n = false) (o : ReqOutcome) (confirmed : Confirmed) (s : State) :
    land c r o confirmed s = promote c (onDispatch c (Landed r o confirmed) s) := by
  show promote c (resolve c r o (onDispatch c _ s)) = _
  rw [resolve_quiet h, onDispatch_twice]
  rfl

/-- With nothing waiting, the landing of a request changes its chair's slot, and the Cue Engine by the outcome (R96 to R98). -/
theorem land_alone (r : PatchReq) (o : ReqOutcome) (confirmed : Confirmed) (hw : s.patch[c].waiting = none) :
    land c r o confirmed s = resolve c r o (onDispatch c (fun d => { d with flight := none, confirmed := confirmed }) s) ∧
      aroundCues (land c r o confirmed s) = aroundCues (onDispatch c (Landed r o confirmed) s) := by
  have around := resolve_aroundCues (c := c) r o (onDispatch c (fun d => { d with flight := none, confirmed := confirmed }) s)
  rw [onDispatch_twice] at around
  have waiting : (resolve c r o (onDispatch c (fun d => { d with flight := none, confirmed := confirmed }) s)).patch[c].waiting
      = none := by
    rw [show (resolve c r o _).patch = _ from (congrArg State.patch around :)]
    exact (congrArg Dispatch.waiting (onDispatch_self c (Landed r o confirmed) s)).trans hw
  show promote c (resolve c r o (onDispatch c _ s)) = _ ∧ aroundCues (promote c (resolve c r o (onDispatch c _ s))) = _
  rw [promote_none waiting]
  exact ⟨rfl, around⟩

/-! ## Requests sent (R93 to R95) -/

/-- A chair's dispatch state as a request is sent (R95). -/
def Sent (r : PatchReq) (now : Tick) (d : Dispatch) : Dispatch :=
  { d with
    flight := some { req := r, tag := d.tag + 1#8, expiry := now + ticks 1920, retired := false }
    tag := d.tag + 1#8
    adhoc := if r.kind = .adHoc then [] else d.adhoc
    counts := { d.counts with sent := bump d.counts.sent } }

theorem send_found {entries : List Entry} (h : s.contents c r = some entries) : send c r s =
    onLink c (fun l => { l with patchMsg := some { tag := s.patch[c].tag + 1#8, entries := entries } })
      (onDispatch c (Sent r s.now) s) := by
  unfold send
  rw [h]
  refine congrArg (onLink c _) (onDispatch_congr ?_)
  rfl

theorem send_absent (h : s.contents c r = none) : send c r s = resolve c r .rejected s := by
  unfold send
  rw [h]

theorem promote_waiting (hf : s.patch[c].flight = none) (hl : s.links[c].state = .locked) (hw : s.patch[c].waiting = some r) :
    promote c s = send c r (onDispatch c (fun d => { d with waiting := none }) s) := by
  unfold promote
  rw [if_pos ⟨by rw [hf]; rfl, hl⟩, hw]

/-- A request of a patch goes out at once to an idle LOCKED chair that does not hold it (R93 to R95). -/
theorem takeRequest_sends {sel : PatchSel} {l entries : List Entry} (hr : r.sel? = some sel)
    (hf : s.patch[c].flight = none) (hw : s.patch[c].waiting = none) (hk : s.patch[c].confirmed ≠ .patch sel)
    (hl : s.links[c].state = .locked) (hc : s.contents c r = some entries) : takeRequest c r l s =
      onLink c (fun l => { l with patchMsg := some { tag := s.patch[c].tag + 1#8, entries := entries } })
        (onDispatch c (fun d => Sent r s.now { d with target := some sel }) s) := by
  have kind : r.kind ≠ .adHoc := by
    cases r with
    | adHoc => simp [PatchReq.sel?] at hr
    | cue => simp [PatchReq.kind]
    | restore => simp [PatchReq.kind]
  unfold takeRequest
  extract_lets s1 d
  have hd : d = { s.patch[c] with target := some sel } := by
    show s1.patch[c] = _
    rw [show s1 = onDispatch c _ s from rfl, onDispatch_self, hr]
    rfl
  have flight : d.flight = none := (congrArg Dispatch.flight hd :).trans hf
  have waiting : d.waiting = none := (congrArg Dispatch.waiting hd :).trans hw
  have confirmed : d.confirmed = s.patch[c].confirmed := (congrArg Dispatch.confirmed hd :)
  have held : ¬r.alreadyHeld d.confirmed = true := by
    unfold PatchReq.alreadyHeld
    rw [hr, confirmed]
    simpa only [decide_eq_true_eq] using hk
  rw [if_pos ⟨by rw [flight]; rfl, by rw [waiting]; rfl⟩, if_neg held]
  have locked : s1.links[c].state = .locked := hl
  rw [if_pos locked]
  have adhoc : onDispatch c (fun d => { d with adhoc := if r.kind = .adHoc then l else d.adhoc }) s1 = s1 :=
    onDispatch_eq_self (by rw [if_neg kind])
  rw [adhoc]
  have contents : s1.contents c r = some entries := by
    unfold State.contents at hc ⊢
    rw [hr] at hc ⊢
    exact hc
  have tag : s1.patch[c].tag = s.patch[c].tag := (congrArg Dispatch.tag hd :)
  rw [send_found contents, tag, show s1 = onDispatch c _ s from rfl, onDispatch_twice, hr]
  rfl

end Sys2Proof.Proofs

/-! PROOFS. Messages that arrive on a LOCKED link, and the acknowledgements and timeouts of the requests in flight (R46, R96 to
R99, R104, R112, R115, R117). -/

namespace Sys2Proof.Proofs

open Sys2Proof.Machine Sys2Proof.Laws

variable {s t u x : State} {n : CueNumber} {k : Cue} {c d : Chair} {r : PatchReq} {f : Flight} {seq tag result : Byte}

/-! ## A message that passes its checks (R112, R115, R117) -/

theorem onLink_congr {f g : Link → Link} (h : f s.links[c] = g s.links[c]) : onLink c f s = onLink c g s := by
  have same : modifyAt s.links c f = modifyAt s.links c g := vector_ext_fin fun j => by
    rw [modifyAt_getElem, modifyAt_getElem]
    split
    next hj => rw [hj, h]
    next => rfl
  unfold onLink
  rw [same]

/-- A LOCKED link as a message of a sequence number has passed its checks at a time. -/
def Heard (micros : Nat) (seq : Byte) (l : Link) : Link :=
  { l with
    activity := some micros, silence := some (micros + 50000), seq := some (seq + 1#8)
    mark := l.mark || decide (l.seq ≠ some seq)
    counts := { l.counts with sequence := if l.seq = some seq then l.counts.sequence else bump l.counts.sequence } }

/-- The state in which a chair's message has passed the checks of its LOCKED link. -/
def hears (c : Chair) (seq : Byte) (s : State) : State := onLink c (Heard s.time.micros seq) s

theorem heard_inSequence {l : Link} (h : l.seq = some seq) (micros : Nat) : Heard micros seq l = { l with
    activity := some micros, silence := some (micros + 50000), seq := some (seq + 1#8) } := by
  simp [Heard, h]

theorem hears_links (c : Chair) (seq : Byte) (s : State) (d : Chair) :
    (hears c seq s).links[d] = if d = c then Heard s.time.micros seq s.links[d] else s.links[d] :=
  modifyAt_getElem s.links c d _

/-- A LOCKED link after the sequence check (R115). -/
def SequenceChecked (seq : Byte) (l : Link) : Link :=
  { l with
    seq := some (seq + 1#8)
    mark := l.mark || decide (l.seq ≠ some seq)
    counts := { l.counts with sequence := if l.seq = some seq then l.counts.sequence else bump l.counts.sequence } }

theorem checkSequence_eq (c : Chair) (seq : Byte) (s : State) : checkSequence c seq s = onLink c (SequenceChecked seq) s := by
  unfold checkSequence
  by_cases h : s.links[c].seq = some seq
  · rw [if_pos h]
    refine onLink_congr ?_
    unfold SequenceChecked
    rw [if_pos h, decide_eq_false (not_not_intro h), Bool.or_false]
  · rw [if_neg h]
    unfold sequenceError markError
    refine (onLink_twice ..).trans (onLink_congr ?_)
    unfold SequenceChecked
    rw [if_neg h, decide_eq_true h, Bool.or_true]

theorem checkSequence_hears (c : Chair) (seq : Byte) (s : State) :
    checkSequence c seq (restartSilence c (onLink c (fun l => { l with activity := some s.time.micros }) s)) =
      hears c seq s := by
  rw [checkSequence_eq]
  unfold restartSilence
  rw [onLink_twice, onLink_twice]
  rfl

theorem arrive_passed (hl : s.links[c].state = .locked) (seq : Byte) (m : UpMsg) : arrive c (.passed seq m) s =
    deliver c seq m (restartSilence c (onLink c (fun l => { l with activity := some s.time.micros }) s)) := by
  have locked : (onLink c (fun l => { l with activity := some s.time.micros }) s).links[c].state = .locked :=
    (congrArg Link.state (onLink_self _ s) :).trans hl
  unfold arrive
  rw [if_neg (by rw [hl]; simp)]
  dsimp only
  rw [if_pos locked]

/-! ## Acknowledgements (R96 to R99) -/

/-- The outcome that an acknowledgement's result gives (R96, R97). -/
def outcomeOf (result : Byte) : ReqOutcome := if result = 0#8 then .ok else .rejected

/-- The confirmed patch that an acknowledgement's result gives (R96, R97). -/
def confirmedFor (s : State) (c : Chair) (f : Flight) (result : Byte) : Confirmed :=
  if result = 0#8 then s.confirmedBy c f else .unknown

theorem byte_le_one (h : result.toNat ≤ 1) : result = 0#8 ∨ result = 1#8 := by
  rcases Nat.le_one_iff_eq_zero_or_eq_one.1 h with h | h
  · exact .inl (BitVec.eq_of_toNat_eq h)
  · exact .inr (BitVec.eq_of_toNat_eq h)

theorem exec_patchAck (hr : s.resetHeld = false) (hl : s.links[c].state = .locked) (h1 : result.toNat ≤ 1) :
    exec (.patchAck c seq tag result) s = .next (takeAck c tag (decide (result = 0#8)) (hears c seq s)) := by
  have check : formatCheck seq (patchAckMsg tag result) = .passed seq (.patchAck tag (decide (result = 0#8))) := by
    rcases byte_le_one h1 with rfl | rfl <;> rfl
  refine (event_up hr _).trans ?_
  rw [check, arrive_passed hl, deliver, checkSequence_hears]

theorem takeAck_lands (hf : s.patch[c].flight = some f) (ht : f.tag = tag) (y : State) (hp : y.patch = s.patch)
    (hb : y.book = s.book) :
    takeAck c tag (decide (result = 0#8)) y = land c f.req (outcomeOf result) (confirmedFor s c f result) y := by
  have flight : y.patch[c].flight = some f := by rw [hp]; exact hf
  have confirmed : y.confirmedBy c f = s.confirmedBy c f := by unfold State.confirmedBy; rw [hb]
  unfold takeAck
  rw [if_pos (by rw [Dispatch.matches, flight]; simp [ht])]
  unfold acknowledge outcomeOf confirmedFor
  rw [flight]
  dsimp only
  by_cases h0 : result = 0#8
  · rw [if_pos (by simpa using h0), if_pos h0, if_pos h0, confirmed]
  · rw [if_neg (by simpa using h0), if_neg h0, if_neg h0]

theorem confirmedBy_eq (s : State) (c : Chair) (f : Flight) : s.confirmedBy c f =
    match f.req.sel? with
    | none => .modified
    | some sel => if f.retired = true ∨ s.book.patch? c sel.number = none then .unknown else .patch sel := by
  unfold State.confirmedBy
  cases f.req.sel? with
  | none => rfl
  | some sel => exact if_congr (by simp) rfl rfl

/-- The last request of a FIRING cue completes it, with a failure counted (R46). -/
theorem cueResolved_completes {e : RunEntry} {o : ReqOutcome} (ho : s.cue.isOpen = true) (hk : s.book.cue? n = some k)
    (he : s.cue.entry? n = some e) (hst : e.state = .firing) (hm : e.mark = none) (hslot : s.slotHolds n = false) :
    (cueResolved n o s).runState n = .complete ∧
      (cueResolved n o s).port.flags = s.port.flags ||| EventFlag.cueDone.bit ∧
      (cueResolved n o s).cue.completion =
        some { cue := n, requests := k.patchActions, failed := if o = .ok then e.failed else e.failed + 1 } := by
  let g : RunEntry → RunEntry := fun r => { r with failed := if o = .ok then r.failed else r.failed + 1 }
  have entry : (mapRun n g s).cue.entry? n = some (g e) := by
    rw [entry?_mapRun n (f := g) (fun _ => rfl), if_pos rfl, he]; rfl
  have done : cueResolved n o s = setRun n .complete (completed n k.patchActions (g e).failed (mapRun n g s)) := by
    have complete : completeCue n (mapRun n g s) =
        setRun n .complete (completed n k.patchActions (g e).failed (mapRun n g s)) := by
      rw [completeCue_eq entry (s := mapRun n g s) (c := k) hk, show (g e).mark = none from hm]
    rw [← complete]
    unfold cueResolved
    rw [if_pos ⟨ho, (runState_of_entry ho he).trans hst⟩]
    exact if_neg (by rw [show (mapRun n _ s).slotHolds n = s.slotHolds n from rfl, hslot]; simp)
  rw [done]
  refine ⟨?_, ?_, ?_⟩
  · exact edits_runState_self (s := completed n k.patchActions (g e).failed (mapRun n g s)) (setRun_edits n .complete _) ho entry
  · rw [setRun_eq]; split <;> rfl
  · rw [setRun_eq]; split <;> rfl

theorem hears_frame (hq : s.links[c].seq = some seq) : hears c seq s = { s with links := (hears c seq s).links } ∧
    (∀ d : Chair, d ≠ c → (hears c seq s).links[d] = s.links[d]) ∧
    (hears c seq s).links[c] = { s.links[c] with
      activity := some s.time.micros, silence := some (s.time.micros + 50000), seq := some (seq + 1#8) } := by
  refine ⟨rfl, fun d hd => ?_, ?_⟩
  · rw [hears_links, if_neg hd]
  · rw [hears_links, if_pos rfl, heard_inSequence hq]

/-- An acknowledgement with nothing waiting (R46, R96, R97). -/
theorem patchAck_alone (hr : s.resetHeld = false) (hl : s.links[c].state = .locked) (hq : s.links[c].seq = some seq)
    (hf : s.patch[c].flight = some f) (ht : f.tag = tag) (hw : s.patch[c].waiting = none) (h1 : result.toNat ≤ 1) :
    ∃ t : State, exec (.patchAck c seq tag result) s = .next t ∧
      t = { s with cue := t.cue, overlay := t.overlay, patch := t.patch, links := t.links, port := t.port } ∧
      (∀ d : Chair, d ≠ c → t.patch[d] = s.patch[d] ∧ t.links[d] = s.links[d]) ∧
      t.links[c] = { s.links[c] with
        activity := some s.time.micros, silence := some (s.time.micros + 50000), seq := some (seq + 1#8) } ∧
      (result = 0#8 →
        t.patch[c] = { s.patch[c] with
          flight := none, last := some (f.req.kind, .ok), confirmed := t.patch[c].confirmed } ∧
        (f.req = .adHoc → t.patch[c].confirmed = .modified) ∧
        ∀ sel : PatchSel, f.req.sel? = some sel →
          t.patch[c].confirmed =
            if f.retired = true ∨ s.book.patch? c sel.number = none then .unknown else .patch sel) ∧
      (result = 1#8 →
        t.patch[c] = { s.patch[c] with
          flight := none, last := some (f.req.kind, .rejected), confirmed := .unknown
          counts := { s.patch[c].counts with rejected := bump s.patch[c].counts.rejected } }) ∧
      ((∀ n : CueNumber, f.req.isOf n = false) →
        t.cue = s.cue ∧ t.overlay = s.overlay ∧ t.port = s.port) ∧
      ∀ (n : CueNumber) (sel : PatchSel) (k : Cue) (e : RunEntry), f.req = .cue n false sel → s.cue.isOpen = true →
        s.book.cue? n = some k → s.cue.entry? n = some e → e.state = .firing → e.mark = none →
        (∀ d : Chair, d ≠ c → s.patch[d].holds n = false) →
        t.runState n = .complete ∧ t.port.flags = s.port.flags ||| EventFlag.cueDone.bit ∧
        t.cue.completion = some { cue := n, requests := k.patchActions, failed := e.failed + result.toNat } := by
  let y := hears c seq s
  let slot : Dispatch → Dispatch := fun d => { d with flight := none, confirmed := confirmedFor s c f result }
  let final := Landed f.req (outcomeOf result) (confirmedFor s c f result)
  obtain ⟨-, otherLinks, link⟩ := hears_frame hq
  have exact := exec_patchAck (seq := seq) (tag := tag) hr hl h1
  rw [takeAck_lands hf ht y rfl rfl] at exact
  obtain ⟨alone, around⟩ := land_alone (s := y) f.req (outcomeOf result) (confirmedFor s c f result) hw
  have patch : (land c f.req (outcomeOf result) (confirmedFor s c f result) y).patch = modifyAt s.patch c final :=
    (congrArg State.patch around :)
  have links : (land c f.req (outcomeOf result) (confirmedFor s c f result) y).links = y.links :=
    (congrArg State.links around :)
  have self : (land c f.req (outcomeOf result) (confirmedFor s c f result) y).patch[c] = final s.patch[c] := by
    rw [patch, modifyAt_getElem, if_pos rfl]
  refine ⟨_, exact, ?_, fun d hd => ⟨?_, ?_⟩, ?_, fun h0 => ⟨?_, fun had => ?_, fun sel hsel => ?_⟩, fun h1' => ?_,
    fun hq => ?_, fun n sel k e hreq ho hk he hst hm hother => ?_⟩
  · exact (frame_of_aroundCues around).trans (by rw [patch, links]; rfl)
  · rw [patch, modifyAt_getElem, if_neg hd]
  · rw [links]; exact otherLinks d hd
  · rw [links]; exact link
  · rw [self]
    subst h0
    rfl
  · rw [self]
    show confirmedFor s c f result = _
    rw [confirmedFor, if_pos h0, confirmedBy_eq, had]
    rfl
  · rw [self]
    show confirmedFor s c f result = _
    rw [confirmedFor, if_pos h0, confirmedBy_eq, hsel]
  · rw [self]
    subst h1'
    rfl
  · rw [alone, resolve_quiet hq]
    exact ⟨rfl, rfl, rfl⟩
  · let z := onDispatch c (Resolved f.req (outcomeOf result)) (onDispatch c slot y)
    have resolved : land c f.req (outcomeOf result) (confirmedFor s c f result) y = cueResolved n (outcomeOf result) z := by
      rw [alone]
      unfold resolve
      rw [show z = onDispatch c _ (onDispatch c slot y) from rfl, hreq]
      rfl
    have slotless : z.slotHolds n = false := by
      rw [Bool.eq_false_iff, Ne, slotHolds_onDispatch]
      rintro (h | ⟨d, hd, h⟩)
      · rw [onDispatch_self] at h
        have empty : (Resolved f.req (outcomeOf result) (slot y.patch[c])).holds n = false := by
          unfold Dispatch.holds
          rw [show (Resolved f.req (outcomeOf result) (slot y.patch[c])).waiting = none from hw]
          rfl
        rw [empty] at h
        cases h
      · have kept : (onDispatch c slot y).patch[d] = s.patch[d] := (modifyAt_getElem s.patch c d slot).trans (if_neg hd)
        rw [kept, hother d hd] at h
        cases h
    have complete := cueResolved_completes (s := z) (o := outcomeOf result) ho hk he hst hm slotless
    rw [resolved]
    refine ⟨complete.1, complete.2.1, complete.2.2.trans ?_⟩
    rcases byte_le_one h1 with rfl | rfl <;> rfl

/-- A chair's dispatch state as its request in flight lands and the waiting one leaves its slot (R96 to R98). -/
def Vacated (r : PatchReq) (o : ReqOutcome) (confirmed : Confirmed) (d : Dispatch) : Dispatch :=
  { Landed r o confirmed d with waiting := none }

theorem land_promotes {q : PatchReq} (hq : ∀ n : CueNumber, q.isOf n = false) (hl : s.links[c].state = .locked)
    (hw : s.patch[c].waiting = some r) (o : ReqOutcome) (confirmed : Confirmed) :
    land c q o confirmed s = send c r (onDispatch c (Vacated q o confirmed) s) := by
  have self : (onDispatch c (Landed q o confirmed) s).patch[c] = Landed q o confirmed s.patch[c] := onDispatch_self ..
  rw [land_quiet hq, promote_waiting (congrArg Dispatch.flight self :) hl ((congrArg Dispatch.waiting self :).trans hw),
    onDispatch_twice]
  rfl

/-- What a request sends: the ad-hoc buffer, or the patch's list as the book holds it. -/
theorem contents_of {entries : List Entry}
    (h : (r = .adHoc ∧ entries = s.patch[c].adhoc) ∨ (∃ (sel : PatchSel) (p : Patch), r.sel? = some sel ∧
      s.book.patch? c sel.number = some p ∧ entries = p.list sel.variant)) : s.contents c r = some entries := by
  unfold State.contents
  rcases h with ⟨rfl, rfl⟩ | ⟨sel, p, hr, hp, rfl⟩
  · rfl
  · rw [hr]
    dsimp only
    rw [hp]
    rfl

theorem contents_absent {sel : PatchSel} (h : s.book.patch? c sel.number = none) : s.contents c (.restore sel) = none := by
  unfold State.contents
  show (s.book.patch? c sel.number).map _ = none
  rw [h]
  rfl

theorem kind_adHoc (r : PatchReq) : r.kind = .adHoc ↔ r = .adHoc := by
  cases r <;> simp [PatchReq.kind]

/-- An acknowledgement with a request waiting (R96, R97, R104). -/
theorem patchAck_promotes (hr : s.resetHeld = false) (hl : s.links[c].state = .locked) (hq : s.links[c].seq = some seq)
    (hf : s.patch[c].flight = some f) (ht : f.tag = tag) (hw : s.patch[c].waiting = some r) (h1 : result.toNat ≤ 1)
    (hquiet : ∀ n : CueNumber, f.req.isOf n = false) :
    ∃ (t : State) (landed : Dispatch), exec (.patchAck c seq tag result) s = .next t ∧
      landed = { s.patch[c] with
        flight := none, waiting := none, last := some (f.req.kind, if result = 0#8 then .ok else .rejected)
        counts := if result = 0#8 then s.patch[c].counts
          else { s.patch[c].counts with rejected := bump s.patch[c].counts.rejected }
        confirmed := if result ≠ 0#8 then .unknown else
          match f.req.sel? with
          | none => .modified
          | some sel => if f.retired = true ∨ s.book.patch? c sel.number = none then .unknown else .patch sel } ∧
      (∀ entries : List Entry,
        (r = .adHoc ∧ entries = s.patch[c].adhoc) ∨ (∃ (sel : PatchSel) (p : Patch), r.sel? = some sel ∧
          s.book.patch? c sel.number = some p ∧ entries = p.list sel.variant) →
        t = { s with patch := t.patch, links := t.links } ∧
        (∀ d : Chair, d ≠ c → t.patch[d] = s.patch[d] ∧ t.links[d] = s.links[d]) ∧
        t.links[c].patchMsg = some { tag := s.patch[c].tag + 1#8, entries := entries } ∧
        t.patch[c] = { landed with
          flight := some { req := r, tag := s.patch[c].tag + 1#8, expiry := s.time.tick + 1920#32, retired := false }
          tag := s.patch[c].tag + 1#8, adhoc := if r = .adHoc then [] else s.patch[c].adhoc
          counts := { landed.counts with sent := bump s.patch[c].counts.sent } }) ∧
      ∀ sel : PatchSel, r = .restore sel → s.book.patch? c sel.number = none →
        t = { s with patch := t.patch, links := t.links } ∧ t.links[c].patchMsg = s.links[c].patchMsg ∧
        t.patch[c] = { landed with
          last := some (.restore, .rejected)
          counts := { landed.counts with rejected := bump landed.counts.rejected } } := by
  obtain ⟨-, otherLinks, link⟩ := hears_frame hq
  let y := hears c seq s
  let confirmed := confirmedFor s c f result
  let z := onDispatch c (Vacated f.req (outcomeOf result) confirmed) y
  have zself : z.patch[c] = Vacated f.req (outcomeOf result) confirmed s.patch[c] := onDispatch_self ..
  have locked : y.links[c].state = .locked := (congrArg Link.state link :).trans hl
  have lands : exec (.patchAck c seq tag result) s = .next (send c r z) := by
    rw [exec_patchAck hr hl h1, takeAck_lands hf ht y rfl rfl, land_promotes hquiet locked hw]
  refine ⟨send c r z, Vacated f.req (outcomeOf result) confirmed s.patch[c], lands, ?_, fun entries he => ?_,
    fun sel hsel habs => ?_⟩
  · rw [← confirmedBy_eq]
    rcases byte_le_one h1 with rfl | rfl <;> rfl
  · have contents : z.contents c r = some entries := by
      rw [← contents_of he]
      unfold State.contents
      rw [zself]
      rfl
    have sent := send_found contents
    rw [zself] at sent
    rw [sent]
    refine ⟨rfl, fun d hd => ⟨?_, ?_⟩, ?_, ?_⟩
    · refine (modifyAt_getElem z.patch c d _).trans ((if_neg hd).trans ?_)
      exact (modifyAt_getElem s.patch c d _).trans (if_neg hd)
    · exact (onLink_other _ _ hd).trans (otherLinks d hd)
    · exact (congrArg Link.patchMsg (onLink_self _ _) :)
    · refine (onDispatch_self c (Sent r z.now) z).trans ?_
      rw [zself]
      unfold Sent
      rw [if_congr (kind_adHoc r) rfl rfl]
      rcases byte_le_one h1 with rfl | rfl <;> rfl
  · subst hsel
    rw [send_absent (s := z) (contents_absent habs), resolve_quiet (fun _ => rfl)]
    refine ⟨rfl, (congrArg Link.patchMsg link :), ?_⟩
    refine (onDispatch_self c _ z).trans ?_
    rw [zself]
    rfl

/-- An acknowledgement that matches no request in flight (R99). -/
theorem patchAck_strays (hr : s.resetHeld = false) (hl : s.links[c].state = .locked) (hq : s.links[c].seq = some seq)
    (h1 : result.toNat ≤ 1) (hf : ∀ f : Flight, s.patch[c].flight = some f → f.tag ≠ tag) :
    ∃ t : State, exec (.patchAck c seq tag result) s = .next t ∧ t = { s with links := t.links } ∧
      ∀ d : Chair, t.links[d] = if d = c then
        { s.links[d] with
          activity := some s.time.micros, silence := some (s.time.micros + 50000), seq := some (seq + 1#8)
          mark := true
          counts := { s.links[d].counts with sequence := bump s.links[d].counts.sequence } }
      else s.links[d] := by
  have unmatched : (hears c seq s).patch[c].matches tag = false := by
    show s.patch[c].matches tag = false
    unfold Dispatch.matches
    cases h : s.patch[c].flight with
    | none => rfl
    | some f => exact decide_eq_false (hf f h)
  refine ⟨sequenceError c (hears c seq s), ?_, rfl, fun d => ?_⟩
  · rw [exec_patchAck hr hl h1, takeAck, unmatched]
    rfl
  · refine (modifyAt_getElem _ c d _).trans ?_
    rw [hears_links]
    split
    next hd =>
      subst hd
      rw [heard_inSequence hq]
    next => rfl

/-- The timeout of a request in flight, taken with nothing waiting (R98). -/
theorem patchTimeout_lands (hr : s.resetHeld = false) (hf : s.patch[c].flight = some f) :
    (tickReached s.time.tick f.expiry = false → exec (.patchTimeout c) s = .next s) ∧
    (tickReached s.time.tick f.expiry = true → s.patch[c].waiting = none → (∀ n : CueNumber, f.req.isOf n = false) →
      ∃ t : State, exec (.patchTimeout c) s = .next t ∧ t = { s with patch := t.patch } ∧
        (∀ d : Chair, d ≠ c → t.patch[d] = s.patch[d]) ∧
        t.patch[c] = { s.patch[c] with
          flight := none, last := some (f.req.kind, .timeout), confirmed := .unknown
          counts := { s.patch[c].counts with timedOut := bump s.patch[c].counts.timedOut } }) := by
  have runs : exec (.patchTimeout c) s = .next (patchTimeout c s) := event_up hr _
  have expires : patchTimeout c s =
      if tickReached s.now f.expiry then land c f.req .timeout .unknown s else s := by
    unfold patchTimeout
    rw [hf]
  refine ⟨fun early => ?_, fun reached hw hq => ?_⟩
  · rw [runs, expires, if_neg (by rw [State.now, early]; decide)]
  · refine ⟨onDispatch c (Landed f.req .timeout .unknown) s, ?_, rfl, fun d hd => ?_, onDispatch_self ..⟩
    · rw [runs, expires, if_pos (by rw [State.now, reached]), land_quiet hq, promote_none]
      exact (congrArg Dispatch.waiting (onDispatch_self c _ s) :).trans hw
    · exact (modifyAt_getElem s.patch c d _).trans (if_neg hd)

/-- Settles O40: each outcome lands the request in flight and promotes the one that waits. -/
theorem patchOutcomesSetTheConfirmedPatch : Obligations.PatchOutcomesSetTheConfirmedPatch := by
  unfold Obligations.PatchOutcomesSetTheConfirmedPatch
  exact ⟨fun _ _ _ _ _ _ hr hl hq hf ht hw h1 => patchAck_alone hr hl hq hf ht hw h1,
    fun _ _ _ _ _ _ _ hr hl hq hf ht hw h1 hquiet => patchAck_promotes hr hl hq hf ht hw h1 hquiet,
    fun _ _ _ _ _ hr hl hq h1 hf => patchAck_strays hr hl hq h1 hf,
    fun _ _ _ hr hf => patchTimeout_lands hr hf⟩

end Sys2Proof.Proofs

/-! PROOFS. The GO of a cue that names one patch (R33, R35, R94, R95). -/

namespace Sys2Proof.Proofs

open Sys2Proof.Machine Sys2Proof.Laws

variable {s t u x : State} {n : CueNumber} {c : Cue} {a : StationAction} {p : Patch} {v : Variant}

/-! ## The variant of a station action (R33) -/

theorem variantFor_of_role {chair : Chair} {patch song role : Nat} {r : Song} {i : Fin 32}
    (hp : s.book.patch? chair patch = some p) (hs : c.song = some song) (hr : s.book.song? song = some r)
    (hk : r.keyRole = some role) (hi : role = i.val + 1) :
    s.variantFor c chair patch = if p.hasList s.book.roles[i] then s.book.roles[i] else .base := by
  have key : s.book.roleKey role = s.book.roles[i] := by
    subst hi
    simp [Book.roleKey]
  simp [State.variantFor, hs, hr, hk, hp, key]

theorem variantFor_base {chair : Chair} {patch : Nat} (h : (c.song.bind s.book.song?).bind (·.keyRole) = none) :
    s.variantFor c chair patch = .base := by
  unfold State.variantFor
  rw [h]
  split
  · exact ite_self _
  · rfl

/-! ## The fire -/

/-- A cue that is not held begins to fire by its entry alone (R35). -/
theorem beginFire_frame (hh : s.cue.held ≠ some n) : ∃ runs, beginFire n s =
    { s with cue := { s.cue with runs := runs, holdCandidate := none } } := by
  refine ⟨(beginFire n s).cue.runs, ?_⟩
  unfold beginFire
  rw [setRun_eq, if_neg fun h => hh h.1]
  rfl

theorem beginFire_entry (n : CueNumber) (s : State) :
    (beginFire n s).cue.entry? n = (s.cue.entry? n).map fun e => { newState .firing e with failed := 0 } := by
  show (mapRun n (fun r => { r with failed := 0 }) _).cue.entry? n = _
  rw [entry?_mapRun n (f := fun r => { r with failed := 0 }) (fun _ => rfl), if_pos rfl, entry?_setRun, if_pos rfl]
  exact Option.map_map ..

theorem beginFire_runState (ho : s.cue.isOpen = true) (he : (s.cue.entry? n).isSome = true) :
    (beginFire n s).runState n = .firing := by
  obtain ⟨e, he⟩ := Option.isSome_iff_exists.1 he
  have entry := beginFire_entry n s
  rw [he] at entry
  exact runState_of_entry ((outside_isOpen (beginFire_outside s n)).trans ho) entry

/-- The state in which a cue's one patch has gone out (R33, R35, R95). -/
def patchSent (n : CueNumber) (chair : Chair) (p : Patch) (v : Variant) (s : State) : State :=
  onLink chair (fun l => { l with patchMsg := some { tag := s.patch[chair].tag + 1#8, entries := p.list v } })
    (onDispatch chair (fun d => Sent (.cue n false { number := p.number, variant := v }) s.now
      { d with target := some { number := p.number, variant := v } }) (beginFire n s))

theorem patchSent_slotHolds (n : CueNumber) (chair : Chair) (p : Patch) (v : Variant) (s : State) :
    (patchSent n chair p v s).slotHolds n = true := by
  refine (slotHolds_onDispatch chair _ (beginFire n s) n).2 (.inl ?_)
  simp [Dispatch.holds, Sent, PatchReq.isOf]

theorem patchSent_links (n : CueNumber) (chair : Chair) (p : Patch) (v : Variant) (hl : (beginFire n s).links = s.links)
    (d : Chair) : (patchSent n chair p v s).links[d] = if d = chair then { s.links[d] with
      patchMsg := some { tag := s.patch[chair].tag + 1#8, entries := p.list v } } else s.links[d] := by
  refine (modifyAt_getElem _ chair d _).trans ?_
  rw [show (onDispatch chair _ (beginFire n s)).links = s.links from hl]

theorem patchSent_patch (n : CueNumber) (chair : Chair) (p : Patch) (v : Variant) (hp : (beginFire n s).patch = s.patch)
    (d : Chair) : (patchSent n chair p v s).patch[d] = if d = chair then
      Sent (.cue n false { number := p.number, variant := v }) s.now
        { s.patch[d] with target := some { number := p.number, variant := v } } else s.patch[d] := by
  refine (modifyAt_getElem _ chair d _).trans ?_
  rw [hp]

/-- A fire of the standby whose one station action sends its patch (R32, R33, R35). -/
theorem fire_patch (hh : s.cue.held = none) (hc : s.book.cue? n = some c) (htempo : c.tempo = none) (hvamp : c.vamp = none)
    (hactions : c.actions = [a]) (hpatch : a.patch = some p.number) (hclick : a.click = .unchanged)
    (hp : s.book.patch? a.chair p.number = some p) (hen : s.book.chairs[a.chair].enabled = true)
    (hl : s.links[a.chair].state = .locked) (hf : s.patch[a.chair].flight = none) (hw : s.patch[a.chair].waiting = none)
    (hv : s.variantFor c a.chair p.number = v) (hk : s.patch[a.chair].confirmed ≠ .patch { number := p.number, variant := v })
    (hnext : ∀ d : Cue, s.cueAfter n = some d → d.isFollow = false) :
    fire .standby n s = firedFrom .standby n c (patchSent n a.chair p v s) := by
  obtain ⟨runs, hb⟩ := beginFire_frame (s := s) (n := n) (by simp [hh])
  have number : c.number = n := (cue?_key hc).2
  have sends : handPatch c (beginFire n s) a = patchSent n a.chair p v s := by
    have variant : (beginFire n s).variantFor c a.chair p.number = v := by rw [hb]; exact hv
    have enabled : ((beginFire n s).chairRec a.chair).enabled = true := by rw [hb]; exact hen
    unfold handPatch
    rw [hpatch]
    dsimp only
    rw [if_pos enabled, number, variant]
    have sent := takeRequest_sends (s := beginFire n s) (r := .cue n false { number := p.number, variant := v }) (l := [])
      (entries := p.list v) (sel := { number := p.number, variant := v }) rfl (by rw [hb]; exact hf) (by rw [hb]; exact hw)
      (by rw [hb]; exact hk) (by rw [hb]; exact hl) (contents_of (.inr ⟨_, p, rfl, by rw [hb]; exact hp, rfl⟩))
    rw [sent]
    unfold patchSent
    rw [hb]
    rfl
  have clicks : handClick (patchSent n a.chair p v s) a = patchSent n a.chair p v s := by
    unfold handClick
    rw [hclick]
  have next : ∀ d : Cue, (closeFire .standby n c (patchSent n a.chair p v s)).cueAfter n = some d → d.isFollow = false := by
    obtain ⟨k, o, hclose⟩ := closeFire_around .standby n c (patchSent n a.chair p v s)
    unfold patchSent at hclose ⊢
    rw [hb] at hclose ⊢
    rw [hclose]
    exact hnext
  have fired : fireCue .standby n s = (firedFrom .standby n c (patchSent n a.chair p v s), []) := by
    unfold fireCue
    simp only [hc, hactions, List.foldl_cons, List.foldl_nil, sends, patchSent_slotHolds, clicks, if_true]
    show (flag .cueFired (startFollow n (closeFire .standby n c (clockPart c (patchSent n a.chair p v s)).1)).1,
      (clockPart c (patchSent n a.chair p v s)).2.map .bar ++
        (startFollow n (closeFire .standby n c (clockPart c (patchSent n a.chair p v s)).1)).2) = _
    rw [clockPart_none htempo hvamp, startFollow_none next]
    rfl
  unfold fire
  rw [fired]
  exact settleFires_nil _

/-- Settles O25: the one request goes out as the cue begins to fire, and no later step of the fire touches it. -/
theorem goSendsThePatchOfItsCue : Obligations.GoSendsThePatchOfItsCue := by
  intro n c a p s ha ho hs hg hh hn hc he hgo hm htempo hvamp hactions hpatch hclick hp hen hl hf hw hk hnext
  let v := s.variantFor c a.chair p.number
  have allows : s.taking.standbyAllows .control = true := by
    rw [standbyAllows_of (s := s.taking) hn hc]; exact hm
  have decides : decideGo .control s.taking = (fire .standby n s.taking, .fired n) := by
    rw [decideGo_standby (s := s.taking) ho hs hg hh hn, if_pos allows]
  have unheld : s.taking.cue.held ≠ some n := by
    show s.cue.held ≠ some n
    rw [hh]; simp
  obtain ⟨begun, hb⟩ := beginFire_frame unheld
  have isGo := (isGo_iff c).2 hgo
  let u := patchSent n a.chair p v s.taking
  have frame : u = { s.taking with
      cue := { s.cue with runs := begun, holdCandidate := none }, patch := u.patch, links := u.links } := by
    show patchSent n a.chair p v s.taking = _
    unfold u patchSent
    rw [hb]
    rfl
  have links : ∀ d : Chair, u.links[d] = _ := patchSent_links n a.chair p v (s := s.taking) (by rw [hb])
  have patch : ∀ d : Chair, u.patch[d] = _ := patchSent_patch n a.chair p v (s := s.taking) (by rw [hb])
  have fires := fire_patch (s := s.taking) hh hc htempo hvamp hactions hpatch hclick hp hen hl hf hw (v := v) rfl hk hnext
  obtain ⟨runs, timers, ht⟩ := firedFrom_go (n := n) (c := c) (u := u) isGo (by rw [frame]; exact hh)
  have isOpen : u.cue.isOpen = true := by rw [frame]; exact ho
  have entry : (u.cue.entry? n).isSome = true := by
    show ((beginFire n s.taking).cue.entry? n).isSome = true
    rw [beginFire_entry, Option.isSome_map]
    exact he
  have firing : (firedFrom .standby n c u).runState n = .firing := by
    rw [firedFrom_go_runState isGo isOpen entry, if_neg fun h => ne_of_mem_passedBy h rfl, if_neg fun h => by
      simpa [before_irrefl] using firstGoAfter_before h]
    exact beginFire_runState (s := s.taking) ho he
  rw [fires] at decides
  refine ⟨owing (GoResult.fired n).answer (firedFrom .standby n c u), v, exec_go ha decides, owing_owed .., ?_, ?_, ?_,
    fun d hd => ⟨?_, ?_⟩, firing, ?_, ?_, ?_, fun song role r i hsong hr hrole hi => variantFor_of_role hp hsong hr hrole hi,
    fun song r hsong hr hrole => variantFor_base ?_, fun hsong => variantFor_base ?_⟩
  · rw [ht, frame]; rfl
  · rw [ht]
    exact (patch a.chair).trans (if_pos rfl)
  · rw [ht]
    exact (links a.chair).trans (if_pos rfl)
  · rw [ht]
    exact (patch d).trans (if_neg hd)
  · rw [ht]
    exact (links d).trans (if_neg hd)
  · rw [ht]; rfl
  · rw [ht, frame]; rfl
  · rw [ht, frame]; rfl
  · simp [hsong, hr, hrole]
  · simp [hsong]

end Sys2Proof.Proofs

/-! PROOFS. A GO PRESS that sends a patch on another chair's link (R29, R33, R95, R118). -/

namespace Sys2Proof.Proofs

open Sys2Proof.Machine Sys2Proof.Laws

/-! ## The counterexample -/

def pressNumber : CueNumber := { major := 1, minor := 0 }

/-- A one-entry patch of chair 2. -/
def pressPatch : Patch :=
  { chair := 1, number := 5, base := [{ device := 1, code := 2, value := 3 }], v1 := none, v2 := none, v3 := none, refs := 1 }

/-- A GO cue that a chair may fire and that names chair 2's patch. -/
def pressCue : Cue :=
  { number := pressNumber, song := none, trigger := .go, mask := { pad := false, control := false, chair := true }
    actions := [{ chair := 1, patch := some 5, click := .unchanged }], tempo := none, vamp := none, text := none }

/-- An open show whose standby is that cue. Chair 1, with GO rights, and chair 2 are LOCKED. -/
def pressShow : State :=
  let book := { Book.empty with patches := [pressPatch], cues := [pressCue] }
  let locked := fun (l : Link) => { l with state := .locked, seq := some 0#8 }
  onLink 0 locked (onLink 1 locked { State.reset with
    book := book.putChair 0 { defaultChair 1 with goRights := true }
    cue := { CueEngine.initial with
      isOpen := true, standby := some pressNumber
      runs := [{ cue := pressNumber, state := .standby, mark := none, failed := 0 }] } })

/-- The PATCH message that a command leaves at chair 2's link. -/
def patchMsgAfter (o : Host.Outcome State Fault Refusal) : Option PatchMsg :=
  match o with
  | .next t => t.links[(1 : Chair)].patchMsg
  | _ => none

/-- Chair 1's press fires the cue, whose patch goes out on chair 2's link. -/
theorem pressShow_sends : (patchMsgAfter (exec (.goPress 0 0#8) pressShow)).isSome = true := by decide +kernel

theorem pressShow_waits : pressShow.resetHeld = false ∧ pressShow.links[(0 : Chair)].state = .locked ∧
    pressShow.links[(0 : Chair)].seq = some 0#8 ∧ pressShow.links[(1 : Chair)].patchMsg = none := by decide +kernel

/-- Refutes O45: its last part says that a GO PRESS leaves every other chair's link as it is, for every standby cue. The
press of `pressShow` fires a cue that names a patch of chair 2, and its PATCH message goes to chair 2's link. -/
theorem not_linksCheckTheirMessages : ¬ Obligations.LinksCheckTheirMessages := by
  rintro ⟨-, -, -, h⟩
  obtain ⟨hr, hl, hq, empty⟩ := pressShow_waits
  obtain ⟨t, ht, others, -⟩ := h 0 0#8 pressShow hr hl hq
  have sends := pressShow_sends
  rw [ht, show patchMsgAfter (.next t) = t.links[(1 : Chair)].patchMsg from rfl, others 1 (by decide), empty] at sends
  cases sends

end Sys2Proof.Proofs

/-! PROOFS. SHOW OPEN and SHOW CLOSE across the blocks (R27, R28, R51, R81, R82, R107, R146, R158, R163, R176). -/

namespace Sys2Proof.Proofs

open Sys2Proof.Machine Sys2Proof.Laws

variable {s t x : State} {n : CueNumber}

/-! ## The standby placed with no cue held (R36) -/

theorem placeStandby_frame (y : Option CueNumber) (hh : s.cue.held = none) : ∃ runs, placeStandby y s = { s with
    cue := { s.cue with runs := runs, standby := y }, overlay := { s.overlay with standby := y } } := by
  cases y with
  | none =>
    refine ⟨s.cue.runs, ?_⟩
    rw [placeStandby_none]
    unfold handStandby standbyField
    dsimp only
    rw [hh]
    rfl
  | some m =>
    refine ⟨s.cue.runs.map fun r => if r.cue = m then newState .standby r else r, ?_⟩
    rw [placeStandby_some, setRun_eq, if_neg (by show ¬(s.cue.held = some m ∧ _); rw [hh]; simp)]
    unfold handStandby standbyField
    show { s with cue := _, overlay := { s.overlay with standby := s.cue.held.or (some m) } } = _
    rw [hh]
    rfl

/-! ## A cue engine just opened (R27) -/

/-- The show as its cue list is opened, before the standby is placed (R27, R146). -/
def cuesOpened (s : State) : State :=
  { s with cue := CueEngine.opened s.book, overlay := { s.overlay.blank with lastCue := none } }

section opened
variable (hp : s.book.cues.Pairwise fun x y => x.number ≠ y.number)
include hp

theorem entry?_opened {c : Cue} (hc : c ∈ s.book.cues) : (cuesOpened s).cue.entry? c.number = some (openEntry s.book c) := by
  have one : AtMostOne (fun d : Cue => decide (d.number = c.number)) s.book.cues :=
    AtMostOne.of_keys hp fun y z hyz hy => by
      simp only [decide_eq_true_eq, decide_eq_false_iff_not] at *
      exact fun hz => hyz (hy.trans hz.symm)
  show (s.book.cues.map (openEntry s.book)).find? (fun r => decide (r.cue = c.number)) = _
  rw [List.find?_map]
  exact congrArg (Option.map (openEntry s.book)) (one.find? hc (by simp))

theorem runState_opened {c : Cue} (hc : c ∈ s.book.cues) :
    (cuesOpened s).runState c.number = if s.book.cueCut c then .passed else .pending :=
  runState_of_entry rfl (entry?_opened hp hc)

theorem firstGo_opened : (cuesOpened s).firstGoAfter none =
    ((s.book.cues.filter fun c => decide (c.trigger = .go) && !s.book.cueCut c).map (·.number)).head? := by
  have pending : (cuesOpened s).pendingGo =
      (s.book.cues.filter fun c => decide (c.trigger = .go) && !s.book.cueCut c).map (·.number) := by
    unfold State.pendingGo
    refine congrArg (List.map _) (List.filter_congr fun c hc => ?_)
    rw [runState_opened hp hc]
    by_cases hcut : s.book.cueCut c = true
    · simp [hcut]
    · simp [hcut, Cue.isGo]
  unfold State.firstGoAfter
  rw [pending]
  generalize List.map _ _ = l
  cases l <;> rfl

end opened

/-! ## Parking, and a stop request at rest (R51, R166) -/

/-- The clock with nothing under way (R51). -/
def Cleared (k : Clock) : Clock :=
  { k.dropFollow with pos := none, next := none, ending := none, vamp := none, holdDue := false, countIn := none }

theorem parkForShow_parked (h : s.clock.state = .parked) : parkForShow s = { s with clock := Cleared s.clock } :=
  if_pos h

theorem cancelClicks_empty (h : s.due = []) : cancelClicks s = s := by
  have links : (tabulateChairs fun c => { s.links[c] with clickQueue := s.links[c].clickQueue.filter fun k =>
      !((s.due.map (·.click)).filter fun _ => true).contains k }) = s.links := vector_ext_fin fun c => by
    rw [tabulateChairs_getElem, h]
    simp
  unfold cancelClicks withdrawItems
  dsimp only
  rw [links, h]
  show { s with due := [] } = s
  rw [← h]

/-- A stop recorded and shown, with its STOP MARKs handed out (R166). -/
def stopRecorded (src : StopSource) (s : State) : State :=
  showStopCard (handStopMarks true { s with stop := { s.stop with
    count := bump s.stop.count, held := s.stop.held.add src
    record := some { sources := SourceSet.empty.add src, first := src, tick := s.now, pos := s.stopPosition,
                     lastFired := s.cue.lastFired, number := bump s.stop.count } } })

theorem enterStop_eq (src : StopSource) (s : State) :
    enterStop src s = stopRecorded src (freezeClock (cancelClicks (setStopState .stopped s))) := rfl

theorem stopRecorded_parked (src : StopSource) (h : s.clock.state = .parked) : stopRecorded src s =
    { handStopMarks true s with
      stop := { s.stop with
        count := bump s.stop.count, held := s.stop.held.add src
        record := some { sources := SourceSet.empty.add src, first := src, tick := s.now, pos := none,
                         lastFired := s.cue.lastFired, number := bump s.stop.count } }
      overlay := { s.overlay with stopCard := some { first := src, pos := none }, countCard := none } } := by
  have position : s.stopPosition = none := if_pos h
  unfold stopRecorded
  rw [position]
  rfl

/-- The state as a stop request in CLEAR has flagged its change (R164). -/
def stopFlagged (s : State) : State := flag .stopChange { s with stop := { s.stop with state := .stopped } }

/-- A stop request in CLEAR, with the clock PARKED and no click due (R166). -/
theorem enterStop_atRest (src : StopSource) (hs : s.stop.state = .clear) (hc : s.clock.state = .parked) (hd : s.due = []) :
    enterStop src s = stopRecorded src (stopFlagged s) := by
  have stops : setStopState .stopped s = stopFlagged s := if_neg (by rw [hs]; simp)
  have frozen : freezeClock (stopFlagged s) = stopFlagged s := by
    unfold freezeClock
    rw [show (stopFlagged s).clock.state = .parked from hc]
  rw [enterStop_eq, stops, cancelClicks_empty (s := stopFlagged s) hd, frozen]

/-! ## SHOW OPEN (R27) -/

/-- The show with its clock parked and nothing due (R27, R51). -/
def parkedOpen (s : State) : State := { s with clock := { Cleared s.clock with rejected := 0 }, due := [] }

/-- The show as its cues have been opened and their standby placed (R27). -/
def standbyOpened (s : State) : State := parkedOpen (placeStandby ((cuesOpened s).firstGoAfter none) (cuesOpened s))

/-- The show opened at the Click Scheduler, the Patch Dispatcher, the Fault Monitor and, but for the stop line, the Stop
Controller (R82, R107, R158, R176). -/
def blocksOpened (s : State) : State :=
  let s := openFaults (detachPatches (enableClicks s))
  { s with stop := { s.stop with held := SourceSet.empty, record := none, count := 0 } }

/-- A closed show opened, but for its stop line (R27). -/
def openedQuiet (s : State) : State := blocksOpened (standbyOpened s)

theorem standbyOpened_frame (s : State) : ∃ runs, standbyOpened s = { s with
    cue := { CueEngine.initial with isOpen := true, runs := runs, standby := (cuesOpened s).firstGoAfter none }
    overlay := { s.overlay with
      lastCue := none, standby := (cuesOpened s).firstGoAfter none, position := none, beat := none, stopCard := none
      countCard := none }
    clock := { Cleared s.clock with rejected := 0 }
    due := [] } := by
  obtain ⟨runs, h⟩ := placeStandby_frame (s := cuesOpened s) ((cuesOpened s).firstGoAfter none) rfl
  refine ⟨runs, ?_⟩
  unfold standbyOpened
  rw [h]
  rfl

theorem standbyOpened_runState (s : State) (k : CueNumber) : (standbyOpened s).runState k =
    (placeStandby ((cuesOpened s).firstGoAfter none) (cuesOpened s)).runState k := by
  unfold standbyOpened
  generalize placeStandby _ _ = x
  rfl

theorem openedQuiet_frame (s : State) : ∃ runs, openedQuiet s = { s with
    cue := { CueEngine.initial with isOpen := true, runs := runs, standby := (cuesOpened s).firstGoAfter none }
    overlay := { s.overlay with
      lastCue := none, standby := (cuesOpened s).firstGoAfter none, position := none, beat := none, stopCard := none
      countCard := none }
    clock := { Cleared s.clock with rejected := 0 }
    due := []
    clicks := (enableClicks s).clicks
    patch := (detachPatches s).patch
    faults := (openFaults s).faults
    stop := { s.stop with held := SourceSet.empty, record := none, count := 0 } } := by
  obtain ⟨runs, h⟩ := standbyOpened_frame s
  refine ⟨runs, ?_⟩
  unfold openedQuiet
  rw [h]
  rfl

theorem openShow_eq (hc : s.clock.state = .parked) (hs : s.stop.state = .clear) :
    openShow s = if s.stop.line then stopRecorded .line (stopFlagged (openedQuiet s)) else openedQuiet s := by
  obtain ⟨runs, placed⟩ := placeStandby_frame (s := cuesOpened s) ((cuesOpened s).firstGoAfter none) rfl
  obtain ⟨_, frame⟩ := openedQuiet_frame s
  have opens : openShow s = openStop (openFaults (detachPatches (enableClicks (standbyOpened s)))) := by
    have parks : parkForShow (placeStandby ((cuesOpened s).firstGoAfter none) (cuesOpened s)) =
        { placeStandby ((cuesOpened s).firstGoAfter none) (cuesOpened s) with
          clock := Cleared (placeStandby ((cuesOpened s).firstGoAfter none) (cuesOpened s)).clock } :=
      parkForShow_parked (by rw [placed]; exact hc)
    unfold openShow
    rw [show ({ s with cue := CueEngine.opened s.book, overlay := { s.overlay.blank with lastCue := none } } : State) =
      cuesOpened s from rfl]
    dsimp only
    rw [parks]
    rfl
  have blocks : ∀ x : State, x.stop.state = .clear → openStop (openFaults (detachPatches (enableClicks x))) =
      if x.stop.line then stopRequest .line (blocksOpened x) else blocksOpened x := by
    intro x hx
    have clear : setStopState .clear (openFaults (detachPatches (enableClicks x))) =
        openFaults (detachPatches (enableClicks x)) := if_pos hx
    unfold openStop
    rw [clear]
    rfl
  obtain ⟨_, stand⟩ := standbyOpened_frame s
  have stop : (standbyOpened s).stop = s.stop := by rw [stand]
  have state : (openedQuiet s).stop.state = .clear := by rw [frame]; exact hs
  have isOpen : (openedQuiet s).cue.isOpen = true := by rw [frame]
  have request : stopRequest .line (openedQuiet s) = enterStop .line (openedQuiet s) := by
    unfold stopRequest
    rw [isOpen, state]
    rfl
  have rest : enterStop .line (openedQuiet s) = stopRecorded .line (stopFlagged (openedQuiet s)) :=
    enterStop_atRest .line state (by rw [frame]; exact hc) (by rw [frame])
  rw [opens, blocks (standbyOpened s) (by rw [stop]; exact hs), stop, ← rest, ← request]
  rfl

theorem openedQuiet_runState (hp : s.book.cues.Pairwise fun x y => x.number ≠ y.number) {c : Cue} (hc : c ∈ s.book.cues) :
    (openedQuiet s).runState c.number = if s.book.cueCut c then .passed
      else if (cuesOpened s).firstGoAfter none = some c.number then .standby else .pending := by
  have blocks : ∀ x : State, (blocksOpened x).runState c.number = x.runState c.number := fun _ => rfl
  have placed : (openedQuiet s).runState c.number =
      (placeStandby ((cuesOpened s).firstGoAfter none) (cuesOpened s)).runState c.number :=
    (blocks _).trans (standbyOpened_runState s c.number)
  have entry : ((cuesOpened s).cue.entry? c.number).isSome = true := by rw [entry?_opened hp hc]; rfl
  rw [placed, placeStandby_runState _ rfl entry, runState_opened hp hc]
  by_cases hcut : s.book.cueCut c = true
  · have notNext : (cuesOpened s).firstGoAfter none ≠ some c.number := fun h => by
      have pending := firstGoAfter_mem h
      unfold State.pendingGo at pending
      obtain ⟨d, hd, hnum⟩ := List.mem_map.1 pending
      have := (List.mem_filter.1 hd).2
      rw [hnum, runState_opened hp hc, if_pos hcut] at this
      simp at this
    rw [if_neg notNext, if_pos hcut, if_pos hcut]
  · rw [if_neg hcut, if_neg hcut]

theorem detachPatches_patch (s : State) (c : Chair) :
    (detachPatches s).patch[c] = { s.patch[c] with
      flight := (detachPatches s).patch[c].flight, counts := Dispatch.initial.counts, last := none } ∧
    (detachPatches s).patch[c].flight.map (·.tag) = s.patch[c].flight.map (·.tag) ∧
    ∀ n : CueNumber, (detachPatches s).patch[c].flight.any (fun f => f.req.isOf n) = false := by
  unfold detachPatches
  rw [show (tabulateChairs _ : Vector Dispatch 16)[c] = _ from tabulateChairs_getElem ..]
  refine ⟨rfl, ?_, fun n => ?_⟩
  · cases s.patch[c].flight <;> rfl
  · cases s.patch[c].flight with
    | none => rfl
    | some f => cases h : f.req <;> simp [h, PatchReq.isOf]

/-- Settles O21: the opening's steps leave one explicit state, to which an ACTIVE stop line adds its stop. -/
theorem showOpenStartsTheShow : Obligations.ShowOpenStartsTheShow := by
  intro s ha
  refine ⟨fun ho => request_refused (d := decideShowOpen) ha (if_pos ho),
    fun ho hb => request_refused (d := decideShowOpen) ha ((if_neg (by rw [show s.taking.cue.isOpen = false from ho]; simp)).trans
      (if_pos hb)), fun ho hb hquiet hp => ?_⟩
  obtain ⟨hc, hs⟩ := hquiet ho
  let q := openedQuiet s.taking
  let opened := if s.stop.line then stopRecorded .line (stopFlagged q) else q
  have decides : decideShowOpen s.taking = (opened, plain .ok) := by
    unfold decideShowOpen
    rw [if_neg (by rw [show s.taking.cue.isOpen = false from ho]; simp),
      if_neg (by rw [show s.taking.busy = false from hb]; simp), openShow_eq (s := s.taking) hc hs]
    rfl
  obtain ⟨runs, frame⟩ := openedQuiet_frame s.taking
  have run : ∀ c ∈ s.book.cues, q.runState c.number = _ := fun c hc => openedQuiet_runState (s := s.taking) hp hc
  have rest : ∃ links overlay stop port,
      opened = { q with links := links, overlay := overlay, stop := stop, port := port } := by
    unfold opened
    generalize q = x
    split
    · exact ⟨_, _, _, _, rfl⟩
    · exact ⟨_, _, _, _, rfl⟩
  have next := firstGo_opened (s := s.taking) hp
  refine ⟨owing (plain .ok) opened, request_decided ha decides, owing_owed .., ?_, ?_, ?_, fun c hc => ?_, ?_,
    fun c => ?_, ?_, ?_, fun i => ?_, fun hline => ?_, fun hline => ?_⟩
  all_goals obtain ⟨links, overlay, stop, port, rest⟩ := rest
  · rw [rest, show q = _ from frame]; rfl
  · rw [rest, show q = _ from frame]; rfl
  · rw [rest, show q = _ from frame]; exact next
  · rw [runState_owing, rest]
    refine (run c hc).trans ?_
    rw [show q = _ from frame]
    rfl
  · rw [rest, show q = _ from frame]; rfl
  · rw [rest, show q = _ from frame]
    exact ⟨tabulateChairs_getElem .., detachPatches_patch s c⟩
  · rw [rest, show q = _ from frame]; rfl
  · rw [rest, show q = _ from frame]; rfl
  · rw [rest, show q = _ from frame]
    refine (tabulateFin_getElem ..).trans ?_
    simp
  · have quiet : opened = q := if_neg (by rw [hline]; simp)
    rw [quiet, show q = _ from frame]
    exact ⟨rfl, rfl, rfl, rfl⟩
  · have stops : opened = stopRecorded .line (stopFlagged q) := if_pos hline
    have parked : (stopFlagged q).clock.state = .parked := by
      show q.clock.state = _
      rw [show q = _ from frame]
      exact hc
    rw [stops, stopRecorded_parked .line parked, show q = _ from frame]
    exact ⟨rfl, rfl, rfl, fun c => tabulateChairs_getElem ..⟩

end Sys2Proof.Proofs

/-! PROOFS. SHOW CLOSE across the blocks (R28, R51, R81, R107, R146, R158, R163, R176). -/

namespace Sys2Proof.Proofs

open Sys2Proof.Machine Sys2Proof.Laws

variable {s t x : State} {n : CueNumber} {c : Chair}

/-! ## What each block's closing leaves -/

/-- A clock that is not at rest parks (R51, R87, R88, R146). -/
theorem setClockState_parks (h : s.clock.state ≠ .parked) : setClockState .parked s = settleClicks { s with
    clock := { s.clock with state := .parked }
    overlay := { s.overlay with position := none, beat := none }
    port := { s.port with flags := s.port.flags ||| EventFlag.clockChange.bit } } :=
  (if_neg h).trans rfl

theorem setClockState_parked (s : State) : ∃ clicks position beat, setClockState .parked s = { s with
    clock := { s.clock with state := .parked }
    clicks := clicks
    overlay := { s.overlay with position := position, beat := beat }
    port := { s.port with flags :=
      s.port.flags ||| (if s.clock.state = .parked then 0#10 else EventFlag.clockChange.bit) } } := by
  by_cases h : s.clock.state = .parked
  · refine ⟨s.clicks, s.overlay.position, s.overlay.beat, ?_⟩
    rw [if_pos h, BitVec.or_zero, ← h]
    exact if_pos rfl
  · refine ⟨(settleClicks s).clicks, none, none, ?_⟩
    rw [if_neg h, setClockState_parks h]
    rfl

/-- The monitor disarms, with the FAULT output released (R158, R163). -/
theorem closeFaults_frame (s : State) : ∃ held, closeFaults s = { s with
    faults := { s.faults with
      armed := false, armExp := none, raised := false, sources := clearFlags true false s.faults.sources }
    stop := { s.stop with held := held } } := by
  have decided : closeFaults s = if s.faults.raised = false then { s with faults := { s.faults with
      armed := false, armExp := none, sources := clearFlags true false s.faults.sources } }
    else releaseSource .fault { s with faults := { s.faults with
      armed := false, armExp := none, raised := false, sources := clearFlags true false s.faults.sources } } :=
    if_congr eq_comm rfl rfl
  rw [decided]
  split
  next h =>
    refine ⟨s.stop.held, ?_⟩
    rw [← h]
  next h => exact ⟨s.stop.held.remove .fault, rfl⟩

/-- The stop ends, with STOP MARKs taken off where one was (R121, R176). -/
theorem closeStop_frame (s : State) : closeStop s = { s with
    links := if s.stop.state = .clear then s.links else (handStopMarks false s).links
    stop := { s.stop with state := .clear, held := SourceSet.empty }
    port := { s.port with flags :=
      s.port.flags ||| (if s.stop.state = .clear then 0#10 else EventFlag.stopChange.bit) } } := by
  by_cases h : s.stop.state = .clear
  · have clear : closeStop s = { s with stop := { s.stop with held := SourceSet.empty } } := by
      unfold closeStop
      rw [if_pos h]
      dsimp only
      rw [show setStopState .clear s = s from if_pos h]
    have state : ({ s.stop with state := .clear, held := SourceSet.empty } : StopController) =
        { s.stop with held := SourceSet.empty } := by rw [← h]
    rw [if_pos h, if_pos h, BitVec.or_zero, clear, state]
  · have changes : setStopState .clear (handStopMarks false s) =
        flag .stopChange { handStopMarks false s with stop := { s.stop with state := .clear } } := if_neg h
    unfold closeStop
    rw [if_neg h, if_neg h, if_neg h]
    dsimp only
    rw [changes]
    rfl

/-! ## Withdrawals (R78, R81) -/

theorem withdrawItems_links (gone : Click → Bool) (s : State) (c : Chair) : (withdrawItems gone s).links[c] =
    { s.links[c] with
      clickQueue := s.links[c].clickQueue.filter fun k => !(gone k && s.due.any fun i => decide (i.click = k)) } := by
  have same : ∀ k : Click, (!((s.due.map (·.click)).filter gone).contains k) =
      (!(gone k && s.due.any fun i => decide (i.click = k))) := fun k => by
    congr 1
    rw [Bool.eq_iff_iff]
    simp only [List.contains_iff_mem, List.mem_filter, List.mem_map, Bool.and_eq_true, List.any_eq_true, decide_eq_true_eq]
    exact and_comm
  exact (tabulateChairs_getElem ..).trans
    (congrArg (fun q => { s.links[c] with clickQueue := q }) (List.filter_congr fun k _ => same k))

/-! ## The item that a click makes (R77, R80) -/

/-- The item of a click as it is handed over. -/
def madeItem (s : State) (k : Click) : DueItem := { click := k, parts := tabulateChairs fun c => s.newPart c k }

/-! ## SHOW CLOSE (R28) -/

theorem link_of_queue {l m : Link} {q : List Click} {mark : Option Bool}
    (h : l = { m with clickQueue := q, stopMark := mark }) : l = { m with clickQueue := l.clickQueue, stopMark := mark } := by
  rw [h]

theorem emptyPending_patch (s : State) (c : Chair) :
    (emptyPending s).patch[c] = { s.patch[c] with waiting := none, adhoc := [] } := by
  unfold emptyPending
  exact tabulateChairs_getElem ..

/-- The show as its cues have closed and its due list is empty (R26, R81). -/
def cuesClosed (s : State) : State := cancelClicks (handStandby { s with cue := s.cue.closed })

/-- The show closed at the Patch Dispatcher, the Fault Monitor, the Stop Controller and the overlay (R107, R146, R158,
R176). -/
def blocksClosed (s : State) : State :=
  let s := closeStop (closeFaults (emptyPending s))
  { s with overlay := s.overlay.blank }

theorem cuesClosed_frame (s : State) : cuesClosed s = { s with
    cue := s.cue.closed, overlay := { s.overlay with standby := none }, due := [], links := (cancelClicks s).links } := by
  have empty : (s.due.filter fun _ => !true) = [] := List.filter_eq_nil_iff.2 fun _ _ => by simp
  unfold cuesClosed
  show { s with
    cue := s.cue.closed, overlay := { s.overlay with standby := none }, due := s.due.filter fun _ => !true
    links := (cancelClicks s).links } = _
  rw [empty]

theorem blocksClosed_frame (s : State) : blocksClosed s = { s with
    patch := (emptyPending s).patch
    links := if s.stop.state = .clear then s.links else (handStopMarks false s).links
    overlay := s.overlay.blank
    faults := { s.faults with
      armed := false, armExp := none, raised := false, sources := clearFlags true false s.faults.sources }
    stop := { s.stop with state := .clear, held := SourceSet.empty }
    port := { s.port with flags :=
      s.port.flags ||| (if s.stop.state = .clear then 0#10 else EventFlag.stopChange.bit) } } := by
  obtain ⟨held, faults⟩ := closeFaults_frame (emptyPending s)
  unfold blocksClosed
  dsimp only
  rw [faults, closeStop_frame]
  rfl

theorem closeShow_eq (s : State) :
    closeShow s = blocksClosed (setClockState .parked { cuesClosed s with clock := Cleared s.clock }) := rfl

/-- A show that closes leaves this state (R28). -/
theorem closeShow_frame (s : State) : ∃ clicks : Vector ClickChair 16, closeShow s = { s with
    cue := s.cue.closed
    clock := { Cleared s.clock with state := .parked }
    clicks := clicks
    due := []
    patch := (emptyPending s).patch
    links := if s.stop.state = .clear then (cancelClicks s).links else (handStopMarks false (cancelClicks s)).links
    overlay := { s.overlay with standby := none, position := none, beat := none, stopCard := none, countCard := none }
    faults := { s.faults with
      armed := false, armExp := none, raised := false, sources := clearFlags true false s.faults.sources }
    stop := { s.stop with state := .clear, held := SourceSet.empty }
    port := { s.port with flags := s.port.flags |||
      (if s.clock.state = .parked then 0#10 else EventFlag.clockChange.bit) |||
      (if s.stop.state = .clear then 0#10 else EventFlag.stopChange.bit) } } := by
  obtain ⟨clicks, position, beat, parks⟩ := setClockState_parked { cuesClosed s with clock := Cleared s.clock }
  refine ⟨clicks, ?_⟩
  rw [closeShow_eq, parks, blocksClosed_frame, cuesClosed_frame]
  rfl

/-- Settles O22: the closing's steps leave one explicit state. -/
theorem showCloseEndsTheShow : Obligations.ShowCloseEndsTheShow := by
  intro s ha
  refine ⟨fun ho => request_refused (d := decideShowClose) ha (if_neg (by rw [show s.taking.cue.isOpen = false from ho]; simp)),
    fun ho => ?_⟩
  obtain ⟨clicks, frame⟩ := closeShow_frame s.taking
  have decides : decideShowClose s.taking = (closeShow s.taking, plain .ok) := if_pos ho
  have links : ∀ c : Chair, (closeShow s.taking).links[c] = { s.links[c] with
      clickQueue := s.links[c].clickQueue.filter fun k => !(true && s.due.any fun i => decide (i.click = k))
      stopMark := if s.links[c].state = .locked ∧ s.stop.state ≠ .clear then some false else s.links[c].stopMark } := by
    intro c
    have withdrawn := withdrawItems_links (fun _ => true) s.taking c
    rw [frame]
    by_cases hs : s.stop.state = .clear
    · simp only [show s.taking.stop.state = .clear from hs, if_true, hs, ne_eq, not_true_eq_false, and_false, if_false]
      exact withdrawn
    · simp only [show ¬s.taking.stop.state = .clear from hs, if_false, ne_eq, hs, not_false_eq_true, and_true]
      refine (tabulateChairs_getElem ..).trans ?_
      rw [show (cancelClicks s.taking).links[c] = _ from withdrawn]
      by_cases hl : s.links[c].state = .locked
      · rw [if_pos hl]
        exact if_pos hl
      · rw [if_neg hl]
        exact if_neg hl
  generalize closeShow s.taking = t at frame decides links
  refine ⟨owing (plain .ok) t, request_decided ha decides, owing_owed .., ?_, ?_, ?_, ?_,
    fun c => ⟨?_, ?_⟩, ?_, ?_, ?_, fun i => ?_, ?_⟩
  · rw [frame]; rfl
  · rw [frame]; rfl
  · rw [frame]; rfl
  · have due : t.due = [] := by rw [frame]
    refine ⟨⟨madeItem s, nofun, ?_⟩, fun _ _ => ?_, fun c => ?_⟩
    · show t.due.Perm _
      rw [due]
      simp
    · show t.due.Pairwise _
      rw [due]
      exact .nil
    · exact (congrArg Link.clickQueue (links c)).trans (by simp)
  · rw [frame]
    exact emptyPending_patch s c
  · exact link_of_queue (links c)
  · rw [frame]; rfl
  · rw [frame]; rfl
  · rw [frame]; rfl
  · rw [frame]
    refine (tabulateFin_getElem ..).trans ?_
    simp
  · rw [frame]; rfl

end Sys2Proof.Proofs

/-! PROOFS. Clicks handed to the Click Scheduler and withdrawn from it: the items that they make, the order of the due list and
the links' queues (R58, R77, R78, R80). -/

namespace Sys2Proof.Proofs

open Sys2Proof.Machine Sys2Proof.Laws

variable {s t u x : State} {c d : Chair} {k : Click} {l m : List Click} {gone : Click → Bool}

/-! ## What a hand-off reads -/

/-- What the parts of a click depend on (R77, R79, R80). -/
structure SameClicks (s t : State) : Prop where
  tick : t.time.tick = s.time.tick
  isOpen : t.cue.isOpen = s.cue.isOpen
  stopped : t.stop.state = .stopped ↔ s.stop.state = .stopped
  chairs : t.book.chairs = s.book.chairs
  clicks : t.clicks = s.clicks
  links : ∀ c : Chair, t.links[c].state = s.links[c].state

theorem SameClicks.refl (s : State) : SameClicks s s := ⟨rfl, rfl, Iff.rfl, rfl, rfl, fun _ => rfl⟩

theorem SameClicks.trans (h : SameClicks s t) (h' : SameClicks t u) : SameClicks s u :=
  ⟨h'.tick.trans h.tick, h'.isOpen.trans h.isOpen, h'.stopped.trans h.stopped, h'.chairs.trans h.chairs,
    h'.clicks.trans h.clicks, fun c => (h'.links c).trans (h.links c)⟩

theorem SameClicks.symm (h : SameClicks s t) : SameClicks t s :=
  ⟨h.tick.symm, h.isOpen.symm, h.stopped.symm, h.chairs.symm, h.clicks.symm, fun c => (h.links c).symm⟩

theorem eligible_iff : s.eligible c k = true ↔ s.receives c k := by
  simp only [State.eligible, State.chairRec, Bool.and_eq_true, Bool.not_eq_true', decide_eq_true_eq, decide_eq_false_iff_not,
    Bool.or_eq_true, and_assoc, ← imp_iff_not_or]

theorem receives_congr (h : SameClicks s t) : t.receives c k ↔ s.receives c k := by
  unfold State.receives
  rw [h.isOpen, h.chairs, h.clicks, h.links, Ne, h.stopped]

theorem late_congr (h : SameClicks s t) : t.late c k ↔ s.late c k := by
  unfold State.late
  rw [h.tick, h.clicks]

theorem newPart_eq (s : State) (c : Chair) (k : Click) : s.newPart c k = {
    send := k.tick - BitVec.ofNat 32 s.clicks[c].advance
    state := if s.late c k then (if s.receives c k then .handed else .done) else .waiting } := by
  by_cases h : s.late c k
  · rw [show s.newPart c k = _ from if_pos h, show (if s.eligible c k then PartState.handed else .done) = _ from
      if_congr eligible_iff rfl rfl, if_pos h]
    rfl
  · rw [show s.newPart c k = _ from if_neg h, if_neg h]
    rfl

theorem newPart_congr (h : SameClicks s t) (c : Chair) (k : Click) : t.newPart c k = s.newPart c k := by
  have state : (if t.late c k then (if t.receives c k then PartState.handed else .done) else .waiting) =
      if s.late c k then (if s.receives c k then .handed else .done) else .waiting :=
    if_congr (late_congr h) (if_congr (receives_congr h) rfl rfl) rfl
  have advance : t.clicks[c].advance = s.clicks[c].advance := by rw [h.clicks]
  rw [newPart_eq, newPart_eq, state, advance]

theorem newPart_handed : (s.newPart c k).state = .handed ↔ s.late c k ∧ s.receives c k := by
  rw [newPart_eq]
  show (if s.late c k then _ else _) = _ ↔ _
  by_cases h : s.late c k
  · rw [if_pos h]
    by_cases hr : s.receives c k
    · rw [if_pos hr]
      exact ⟨fun _ => ⟨h, hr⟩, fun _ => rfl⟩
    · rw [if_neg hr]
      exact ⟨nofun, fun both => absurd both.2 hr⟩
  · rw [if_neg h]
    exact ⟨nofun, fun both => absurd both.1 h⟩

theorem makesItem_madeItem (s : State) (k : Click) : s.makesItem k (madeItem s k) :=
  ⟨rfl, fun c => (tabulateChairs_getElem ..).trans (newPart_eq s c k)⟩

theorem madeItem_congr (h : SameClicks s t) (k : Click) : madeItem t k = madeItem s k :=
  congrArg (fun f => ({ click := k, parts := tabulateChairs f } : DueItem)) (funext fun c => newPart_congr h c k)

/-! ## One click handed over (R77, R80) -/

/-- A click that a chair's link takes at the hand-off, its part being late. -/
def queuesNow (s : State) (c : Chair) (k : Click) : Bool := decide (s.late c k ∧ s.receives c k)

theorem queueClicks {cs : List Chair} (hn : cs.Nodup) (p : Chair → Bool) (k : Click) (s : State) :
    ∃ links, cs.foldl (fun s c => if p c = true then queueClick c k s else s) s = { s with links := links } ∧
      ∀ d : Chair, links[d] = if d ∈ cs ∧ p d = true then
        { s.links[d] with clickQueue := s.links[d].clickQueue ++ [k] } else s.links[d] := by
  induction cs generalizing s with
  | nil => exact ⟨s.links, rfl, fun d => by simp⟩
  | cons c cs ih =>
    obtain ⟨hc, hn⟩ := List.nodup_cons.1 hn
    obtain ⟨links, hl, each⟩ := ih hn (if p c = true then queueClick c k s else s)
    refine ⟨links, ?_, fun d => ?_⟩
    · rw [List.foldl_cons, hl]
      split <;> rfl
    · rw [each]
      by_cases hp : p c = true
      · rw [if_pos hp]
        by_cases hd : d = c
        · subst hd
          rw [if_neg (by simp [hc]), if_pos (by simp [hp])]
          exact onLink_self ..
        · rw [show (queueClick c k s).links[d] = s.links[d] from onLink_other _ _ hd]
          simp [hd]
      · rw [if_neg hp]
        by_cases hd : d = c
        · subst hd
          simp [hp]
        · simp [hd]

/-- The due list with a click's item in its place, unless every part is DONE at once. -/
def withItem (s : State) (due : List DueItem) (k : Click) : List DueItem :=
  if (madeItem s k).finished then due
  else insertBefore (fun x y => tickBefore x.click.tick y.click.tick) (madeItem s k) due

/-- From `s` to `t` the clicks of a list have been handed over in their turn, and nothing that their parts depend on has
changed. -/
structure Hands (s t : State) (l : List Click) : Prop where
  same : SameClicks s t
  due : t.due = l.foldl (withItem s) s.due
  links : ∀ c : Chair, t.links[c] = { s.links[c] with clickQueue := s.links[c].clickQueue ++ l.filter (queuesNow s c) }

theorem withItem_congr (h : SameClicks s t) : withItem t = withItem s := by
  funext due k
  unfold withItem
  rw [madeItem_congr h]

theorem queuesNow_congr (h : SameClicks s t) (c : Chair) : queuesNow t c = queuesNow s c := by
  funext k
  unfold queuesNow
  simp only [late_congr h, receives_congr h]

theorem Hands.trans (h : Hands s t l) (h' : Hands t u m) : Hands s u (l ++ m) where
  same := h.same.trans h'.same
  due := by rw [h'.due, h.due, withItem_congr h.same, List.foldl_append]
  links c := by rw [h'.links, h.links, queuesNow_congr h.same, List.filter_append, List.append_assoc]

/-- A step that leaves what a hand-off reads, the due list and the links hands no click over. -/
theorem Hands.of_still (same : SameClicks s t) (due : t.due = s.due) (links : t.links = s.links) : Hands s t [] :=
  ⟨same, due, fun c => by rw [links]; simp⟩

theorem Hands.refl (s : State) : Hands s s [] := .of_still (.refl s) rfl rfl

theorem handOffClick_frame (k : Click) (s : State) :
    handOffClick k s = { s with due := (handOffClick k s).due, links := (handOffClick k s).links } ∧
      Hands s (handOffClick k s) [k] := by
  obtain ⟨links, hl, each⟩ := queueClicks (cs := allChairs) (by decide)
    (fun c => decide ((tabulateChairs fun c => s.newPart c k)[c].state = .handed)) k s
  have queued : ∀ c : Chair, links[c] = { s.links[c] with
      clickQueue := s.links[c].clickQueue ++ [k].filter (queuesNow s c) } := by
    intro c
    have member : c ∈ allChairs := by revert c; decide
    rw [each, tabulateChairs_getElem]
    by_cases h : s.late c k ∧ s.receives c k
    · rw [if_pos ⟨member, decide_eq_true (newPart_handed.2 h)⟩,
        show [k].filter (queuesNow s c) = [k] from List.filter_cons_of_pos (decide_eq_true h)]
    · rw [if_neg fun both => h (newPart_handed.1 (of_decide_eq_true both.2)),
        show [k].filter (queuesNow s c) = [] from List.filter_cons_of_neg (by rw [queuesNow, decide_eq_false h]; simp),
        List.append_nil]
  have hands : handOffClick k s = { s with due := withItem s s.due k, links := links } := by
    unfold handOffClick
    simp only [decide_eq_true_eq] at hl
    simp only [hl]
    show (if (madeItem s k).finished then _ else _) = _
    unfold withItem
    split <;> rfl
  rw [hands]
  refine ⟨rfl, ⟨rfl, rfl, Iff.rfl, rfl, rfl, fun c => ?_⟩, rfl, queued⟩
  exact (congrArg Link.state (queued c) :)

/-! ## The due list in order (R77) -/

theorem tickBefore_iff {a b now : Tick} (ha : (a - now).toInt.natAbs < 1073741824) (hb : (b - now).toInt.natAbs < 1073741824) :
    tickBefore a b = true ↔ (a - now).toInt < (b - now).toInt := by
  unfold tickBefore
  rw [decide_eq_true_eq]
  have split : b - a = (b - now) - (a - now) := by bv_omega
  rw [split]
  generalize a - now = a' at *
  generalize b - now = b' at *
  rw [BitVec.toInt_sub]
  rw [Int.bmod_eq_of_le] <;> omega

theorem insertBefore_ordered {α : Type} (key : α → Int) (before : α → α → Bool) (x : α) (l : List α)
    (hb : ∀ y ∈ l, before x y = true ↔ key x < key y) (hl : l.Pairwise fun y z => key y ≤ key z) :
    (insertBefore before x l).Pairwise fun y z => key y ≤ key z := by
  induction l with
  | nil => exact List.pairwise_singleton ..
  | cons y l ih =>
    obtain ⟨hy, hl⟩ := List.pairwise_cons.1 hl
    unfold insertBefore
    split
    next h =>
      have first := (hb y (by simp)).1 h
      refine List.pairwise_cons.2 ⟨fun z hz => ?_, List.pairwise_cons.2 ⟨hy, hl⟩⟩
      rcases List.mem_cons.1 hz with rfl | hz
      · exact le_of_lt first
      · exact (le_of_lt first).trans (hy z hz)
    next h =>
      have later : key y ≤ key x := not_lt.1 fun hlt => h ((hb y (by simp)).2 hlt)
      refine List.pairwise_cons.2 ⟨fun z hz => ?_, ih (fun z hz => hb z (by simp [hz])) hl⟩
      rcases List.mem_cons.1 ((insertBefore_perm x l).mem_iff.1 hz) with rfl | hz
      · exact later
      · exact hy z hz

theorem withItem_perm (due : List DueItem) (k : Click) :
    (withItem s due k).Perm (due ++ ([k].map (madeItem s)).filter fun i => !i.finished) := by
  unfold withItem
  split
  next h => simp [h]
  next h =>
    refine (insertBefore_perm ..).trans ((List.perm_append_comm (l₁ := [madeItem s k])).trans ?_)
    simp [h]

theorem withItems_perm (l : List Click) (due : List DueItem) :
    (l.foldl (withItem s) due).Perm (due ++ (l.map (madeItem s)).filter fun i => !i.finished) := by
  induction l generalizing due with
  | nil => simp
  | cons k l ih =>
    rw [List.foldl_cons]
    refine (ih _).trans (((withItem_perm due k).append_right _).trans ?_)
    rw [List.append_assoc, ← List.filter_append, ← List.map_append]
    exact .rfl

/-- A click's place relative to the present, in ticks. -/
def place (now : Tick) (i : DueItem) : Int := (i.click.tick - now).toInt

theorem withItems_ordered {now : Tick} (l : List Click) (due : List DueItem)
    (near : ∀ k : Click, (k ∈ l ∨ ∃ i ∈ due, i.click = k) → (k.tick - now).toInt.natAbs < 1073741824)
    (ordered : due.Pairwise fun x y => place now x ≤ place now y) :
    (l.foldl (withItem s) due).Pairwise fun x y => place now x ≤ place now y := by
  induction l generalizing due with
  | nil => exact ordered
  | cons k l ih =>
    refine ih _ (fun j hj => near j ?_) ?_
    · rcases hj with hj | ⟨i, hi, rfl⟩
      · exact .inl (by simp [hj])
      · rcases List.mem_append.1 ((withItem_perm due k).mem_iff.1 hi) with hi | hi
        · exact .inr ⟨i, hi, rfl⟩
        · have made := List.mem_of_mem_filter hi
          simp only [List.map_cons, List.map_nil, List.mem_singleton] at made
          exact .inl (by simp [made, madeItem])
    · unfold withItem
      split
      · exact ordered
      · exact insertBefore_ordered (place now) _ _ _ (fun i hi =>
          tickBefore_iff (near k (by simp)) (near i.click (.inr ⟨i, hi, rfl⟩))) ordered

/-! ## Withdrawals, then hand-offs -/

/-- From `s` to `t` the clicks that `gone` names have been withdrawn. -/
structure Withdrawn (s t : State) (gone : Click → Bool) : Prop where
  due : t.due = s.due.filter fun i => !gone i.click
  links : ∀ c : Chair, t.links[c] = { s.links[c] with
    clickQueue := s.links[c].clickQueue.filter fun k => !(gone k && s.due.any fun i => decide (i.click = k)) }

theorem withdrawItems_withdrawn (gone : Click → Bool) (s : State) : Withdrawn s (withdrawItems gone s) gone :=
  ⟨rfl, withdrawItems_links gone s⟩

/-- A step that leaves the due list and the links withdraws nothing. -/
theorem Withdrawn.of_still (due : t.due = s.due) (links : t.links = s.links) : Withdrawn s t fun _ => false :=
  ⟨by rw [due]; simp, fun c => by rw [links]; simp⟩

theorem any_unfinished (i : DueItem) : (i.parts.toList.any fun p => decide (p.state ≠ .done)) = !i.finished := by
  unfold DueItem.finished
  rw [List.not_all_eq_any_not]
  refine congrArg (fun f => i.parts.toList.any f) (funext fun p => ?_)
  simp

theorem handsOver_of (hw : Withdrawn x s gone) (h : Hands s t l) : x.handsOver t gone l where
  items := by
    refine ⟨madeItem t, fun k _ => makesItem_madeItem t k, ?_⟩
    rw [h.due, funext (madeItem_congr h.same), ← hw.due]
    simp only [any_unfinished]
    exact withItems_perm l s.due
  order near ordered := by
    rw [h.due]
    refine withItems_ordered l s.due (fun k hk => near k (hk.imp_right ?_)) ?_
    · rintro ⟨i, hi, hik⟩
      rw [hw.due] at hi
      exact ⟨i, List.mem_of_mem_filter hi, hik⟩
    · rw [hw.due]
      exact ordered.filter _
  queues c := by
    have taken : t.links[c].clickQueue = s.links[c].clickQueue ++ l.filter (queuesNow s c) :=
      congrArg Link.clickQueue (h.links c)
    have left : s.links[c].clickQueue = _ := congrArg Link.clickQueue (hw.links c)
    rw [← queuesNow_congr h.same, left] at taken
    exact taken

end Sys2Proof.Proofs

/-! PROOFS. Announced beats: the triggers that an announcement makes, the beat that follows and its clicks (R40, R54 to R58,
R68, R77). -/

namespace Sys2Proof.Proofs

open Sys2Proof.Machine Sys2Proof.Laws

variable {s t u x y : State} {c : Chair} {d : Cue} {pos : SongPos} {tick : Tick} {sub : SubTick} {tempo : Nat} {v : Option Vamp}
  {onward : Option SongPos} {b : NextBeat} {e : BarTrigger}

/-! ## Announcements (R40) -/

theorem mem_insertBefore {α : Type} {before : α → α → Bool} {a z : α} {l : List α} :
    a ∈ insertBefore before z l ↔ a = z ∨ a ∈ l :=
  (insertBefore_perm z l).mem_iff.trans List.mem_cons

theorem mem_insertAll {α β : Type} {before : α → α → Bool} (f : β → α) (l : List β) (m : List α) (a : α) :
    a ∈ l.foldl (fun m z => insertBefore before (f z) m) m ↔ a ∈ m ∨ ∃ z ∈ l, a = f z := by
  induction l generalizing m with
  | nil => simp
  | cons z l ih =>
    rw [List.foldl_cons, ih, mem_insertBefore]
    simp only [List.mem_cons, exists_eq_or_imp]
    tauto

theorem laterPass_iff {k : Clock} : k.laterPass pos = true ↔
    ∃ w : Vamp, k.vamp = some w ∧ 2 ≤ w.pass ∧ w.first ≤ pos.bar ∧ pos.bar ≤ w.last := by
  unfold Clock.laterPass
  cases k.vamp <;> simp [and_assoc]

theorem fallsOn_iff {last : Bool} : d.fallsOn pos last = true ↔ ∃ beat lead : Nat, d.trigger = .bar pos.bar beat lead ∧
    d.song = some pos.song ∧ (beat = pos.beat ∨ (last = true ∧ pos.beat < beat)) := by
  unfold Cue.fallsOn
  cases h : d.trigger with
  | bar bar beat lead =>
    simp only [Bool.and_eq_true, Bool.or_eq_true, decide_eq_true_eq, Trigger.bar.injEq]
    constructor
    · rintro ⟨⟨hs, rfl⟩, hb⟩
      exact ⟨beat, lead, ⟨rfl, rfl, rfl⟩, hs, hb⟩
    · rintro ⟨beat', lead', ⟨rfl, rfl, rfl⟩, hs, hb⟩
      exact ⟨⟨hs, rfl⟩, hb⟩
  | go => simp
  | follow delay => simp

/-- An announcement of a beat that is not of a later pass makes the triggers of the cues that fall on it (R40). -/
theorem mem_triggersOn (hv : s.clock.vamp = v) (hp : s.clock.laterPass pos = false) :
    e ∈ s.triggersOn pos tick ↔ ∃ d : Cue, s.announces v pos tick d e := by
  unfold State.triggersOn
  extract_lets last cues
  rw [mem_insertAll fun c : Cue => ({ cue := c.number, tick := tick - msTicks c.lead, pos := pos, lastOfBar := last } : BarTrigger)]
  have first : ∀ w : Vamp, v = some w → w.first ≤ pos.bar → pos.bar ≤ w.last → w.pass < 2 := by
    intro w hw hf hl
    by_contra h
    have later := laterPass_iff.2 ⟨w, hv.trans hw, not_lt.1 h, hf, hl⟩
    rw [hp] at later
    cases later
  have lead : ∀ {d : Cue} {bar beat lead : Nat}, d.trigger = .bar bar beat lead → d.lead = lead := by
    intro d bar beat lead h
    simp [Cue.lead, h]
  constructor
  · rintro (h | ⟨d, hd, rfl⟩)
    · cases h
    · obtain ⟨hd, hf⟩ := List.mem_filter.1 hd
      simp only [Bool.and_eq_true, decide_eq_true_eq] at hf
      obtain ⟨beat, ms, ht, hs, hb⟩ := fallsOn_iff.1 hf.2
      refine ⟨d, hd, hf.1, first, beat, ms, ht, hs, hb.imp_right fun both => ⟨of_decide_eq_true both.1, both.2⟩, ?_⟩
      rw [lead ht]
      rfl
  · rintro ⟨d, hd, hrun, -, beat, ms, ht, hs, hb, rfl⟩
    refine .inr ⟨d, List.mem_filter.2 ⟨hd, ?_⟩, ?_⟩
    · simp only [Bool.and_eq_true, decide_eq_true_eq]
      exact ⟨hrun, fallsOn_iff.2 ⟨beat, ms, ht, hs, hb.imp_right fun both => ⟨decide_eq_true both.1, both.2⟩⟩⟩
    · rw [lead ht]
      rfl

/-- The announcement of the beat that follows, of tick `tick` and with the region `v`, leaves the triggers `l` held and none to
fire at once; with no beat to follow the triggers stay. -/
structure Announced (s : State) (v : Option Vamp) (onward : Option SongPos) (tick : Tick) (l : List BarTrigger) : Prop where
  announces : ∀ (pos : SongPos) (y : State), onward = some pos → y.book = s.book → y.cue = s.cue → y.time = s.time →
    y.clock.vamp = v → announce pos tick y = ({ y with cue := { y.cue with triggers := l } }, [])
  silent : onward = none → l = s.cue.triggers

/-- A beat of a later pass triggers no cue (R40, R68). -/
theorem announced_of_laterPass {w : Vamp} (h2 : 2 ≤ w.pass) (hf : w.first ≤ pos.bar) (hl : pos.bar ≤ w.last) :
    Announced s (some w) (some pos) tick s.cue.triggers where
  announces p y hpos _ hc _ hv := by
    cases hpos
    have later : y.clock.laterPass pos = true := laterPass_iff.2 ⟨w, hv, h2, hf, hl⟩
    unfold announce
    rw [later, if_pos (by simp), ← hc]
  silent := nofun

/-- The state with a vamp region, as an announcement finds it. -/
def withVamp (s : State) (v : Option Vamp) : State := { s with clock := { s.clock with vamp := v } }

theorem announces_withVamp : (withVamp s v).announces v pos tick d e ↔ s.announces v pos tick d e :=
  ⟨fun ⟨h1, h2, h3, h4⟩ => ⟨h1, h2, h3, h4⟩, fun ⟨h1, h2, h3, h4⟩ => ⟨h1, h2, h3, h4⟩⟩

theorem announce_open (hp : y.clock.laterPass pos = false) (ho : y.cue.isOpen = true)
    (hn : ∀ e ∈ y.triggersOn pos tick, tickReached y.time.tick e.tick = false) : announce pos tick y = ({ y with
      cue := { y.cue with triggers :=
        (y.triggersOn pos tick).foldl (fun l t => insertBefore BarTrigger.before t l) y.cue.triggers } }, []) := by
  have reached : (y.triggersOn pos tick).filter (fun t => tickReached y.now t.tick) = [] :=
    List.filter_eq_nil_iff.2 fun e he => by rw [State.now, hn e he]; simp
  have kept : (y.triggersOn pos tick).filter (fun t => !tickReached y.now t.tick) = y.triggersOn pos tick :=
    List.filter_eq_self.2 fun e he => by rw [State.now, hn e he]; rfl
  unfold announce
  rw [hp, if_neg (by rw [ho]; simp)]
  dsimp only
  rw [reached, kept]

theorem announced_of_firstPass (hp : (withVamp s v).clock.laterPass pos = false) (ho : s.cue.isOpen = true)
    (hn : ∀ (d : Cue) (e : BarTrigger), s.announces v pos tick d e → tickReached s.time.tick e.tick = false) :
    Announced s v (some pos) tick (((withVamp s v).triggersOn pos tick).foldl
      (fun l t => insertBefore BarTrigger.before t l) s.cue.triggers) where
  announces p y hpos hb hc ht hv := by
    cases hpos
    have on : y.triggersOn pos tick = (withVamp s v).triggersOn pos tick := by
      unfold State.triggersOn State.runState
      rw [hb, hc]
      rfl
    have early : y.clock.laterPass pos = false := by
      rw [← hp]
      unfold Clock.laterPass
      rw [hv]
      rfl
    rw [announce_open early (by rw [hc]; exact ho) fun e he => ?_, on, hc]
    rw [on] at he
    obtain ⟨d, hd⟩ := (mem_triggersOn (s := withVamp s v) rfl hp).1 he
    rw [ht]
    exact hn d e (announces_withVamp.1 hd)
  silent := nofun

/-- In an open show the triggers that an announcement adds are those of the cues that fall on its beat (R40). -/
theorem announced_of_open (ho : s.cue.isOpen = true)
    (hn : ∀ (pos : SongPos) (d : Cue) (e : BarTrigger), onward = some pos → s.announces v pos tick d e →
      tickReached s.time.tick e.tick = false) : ∃ l, Announced s v onward tick l ∧
    ∀ e, e ∈ l ↔ e ∈ s.cue.triggers ∨ ∃ (pos : SongPos) (d : Cue), onward = some pos ∧ s.announces v pos tick d e := by
  cases onward with
  | none => exact ⟨s.cue.triggers, ⟨fun _ _ h => absurd h (by simp), fun _ => rfl⟩, fun e => by simp⟩
  | some pos =>
    simp only [Option.some.injEq, exists_and_left, exists_eq_left']
    cases hp : (withVamp s v).clock.laterPass pos with
    | true =>
      obtain ⟨w, hw, h2, hf, hl⟩ := laterPass_iff.1 hp
      have hw : v = some w := hw
      refine ⟨s.cue.triggers, hw ▸ announced_of_laterPass h2 hf hl, fun e => ⟨.inl, ?_⟩⟩
      rintro (h | ⟨d, h⟩)
      · exact h
      · exact absurd (h.firstPass w hw hf hl) (by omega)
    | false =>
      refine ⟨_, announced_of_firstPass hp ho fun d e => hn pos d e rfl, fun e => ?_⟩
      rw [mem_insertAll fun t : BarTrigger => t]
      refine or_congr_right ?_
      rw [exists_eq_right', mem_triggersOn (s := withVamp s v) rfl hp]
      exact exists_congr fun d => announces_withVamp

/-! ## Clicks handed over one after another, and the next beat fixed (R55, R58, R77) -/

theorem handOffClicks (l : List Click) (s : State) : ∃ due links,
    l.foldl (fun s k => handOffClick k s) s = { s with due := due, links := links } ∧
      Hands s { s with due := due, links := links } l := by
  induction l generalizing s with
  | nil => exact ⟨s.due, s.links, rfl, .refl s⟩
  | cons k l ih =>
    obtain ⟨frame, hands⟩ := handOffClick_frame k s
    obtain ⟨due, links, hl, rest⟩ := ih (handOffClick k s)
    have same : ({ handOffClick k s with due := due, links := links } : State) = { s with due := due, links := links } := by
      rw [frame]
    rw [same] at hl rest
    exact ⟨due, links, by rw [List.foldl_cons, hl], hands.trans rest⟩

theorem fixNext_announced {l : List BarTrigger} (h : Announced s v (some pos) (tickOfSub sub) l) (hb : x.book = s.book)
    (hc : x.cue = s.cue) (ht : x.time = s.time) (hv : x.clock.vamp = v) (tempo : Nat) : ∃ due links,
    fixNext pos sub tempo x = ({ x with
      clock := { x.clock with next := some { pos := pos, sub := sub } }
      cue := { x.cue with triggers := l }, due := due, links := links }, []) ∧
    Hands x { x with
      clock := { x.clock with next := some { pos := pos, sub := sub } }
      cue := { x.cue with triggers := l }, due := due, links := links } [songBeatClick pos (tickOfSub sub) tempo] := by
  let y : State := { x with clock := { x.clock with next := some { pos := pos, sub := sub } }
                            cue := { x.cue with triggers := l } }
  have announced := h.announces pos { x with clock := { x.clock with next := some { pos := pos, sub := sub } } } rfl hb hc ht hv
  obtain ⟨frame, hands⟩ := handOffClick_frame (songBeatClick pos (tickOfSub sub) tempo) y
  have still : Hands x y [] := .of_still ⟨rfl, rfl, Iff.rfl, rfl, rfl, fun _ => rfl⟩ rfl rfl
  refine ⟨(handOffClick (songBeatClick pos (tickOfSub sub) tempo) y).due,
    (handOffClick (songBeatClick pos (tickOfSub sub) tempo) y).links, ?_, ?_⟩
  · unfold fixNext
    dsimp only
    rw [announced]
    exact congrArg (·, []) frame
  · rw [show ({ x with
      clock := { x.clock with next := some { pos := pos, sub := sub } }
      cue := { x.cue with triggers := l }
      due := (handOffClick (songBeatClick pos (tickOfSub sub) tempo) y).due
      links := (handOffClick (songBeatClick pos (tickOfSub sub) tempo) y).links } : State) = _ from frame.symm]
    exact still.trans hands

end Sys2Proof.Proofs

/-! PROOFS. A beat produced, what follows it, and the vamp's turn and exit (R54 to R58, R61, R64, R68 to R70). -/

namespace Sys2Proof.Proofs

open Sys2Proof.Machine Sys2Proof.Laws

variable {s t u x y : State} {c : Chair} {pos : SongPos} {sub : SubTick} {tempo : Nat} {v : Option Vamp}
  {onward : Option SongPos} {b : NextBeat} {l : List BarTrigger} {st : ClockState}

/-! ## The walk of the song (R56, R68) -/

/-- A clock that takes another state, and does not come to rest in it, flags the change and nothing else (R51). -/
theorem setClockState_runs (hp : st ≠ .parked) (hf : st ≠ .frozen) (h : s.clock.state ≠ st) :
    setClockState st s = flag .clockChange { s with clock := { s.clock with state := st } } := by
  unfold setClockState
  rw [if_neg h]
  cases st with
  | parked => exact absurd rfl hp
  | frozen => exact absurd rfl hf
  | playing => rfl
  | vamping => rfl
  | held => rfl
  | counting => rfl

/-- The region that was in force is left. -/
def leaves (k : Clock) (v : Option Vamp) : Bool := k.vamp.isSome && v.isNone

/-- The state with the clock's region as the walk leaves it (R68). -/
def walked (v : Option Vamp) (s : State) : State :=
  { s with
    clock := { s.clock with vamp := v, state := if leaves s.clock v then .playing else s.clock.state }
    port := { s.port with flags := s.port.flags |||
      (if leaves s.clock v = true ∧ s.clock.state ≠ .playing then EventFlag.clockChange.bit else 0#10) } }

theorem walked_stays (h : leaves s.clock v = false) : walked v s = { s with clock := { s.clock with vamp := v } } := by
  unfold walked
  rw [h]
  simp

theorem walked_self (s : State) : walked s.clock.vamp s = s :=
  walked_stays (by cases h : s.clock.vamp <;> simp [leaves, h])

theorem walked_leaves (hv : s.clock.vamp.isSome = true) :
    walked none s = setClockState .playing { s with clock := { s.clock with vamp := none } } := by
  have left : leaves s.clock none = true := by simp [leaves, hv]
  unfold walked
  rw [left]
  by_cases h : s.clock.state = .playing
  · have still : setClockState .playing { s with clock := { s.clock with vamp := none } } =
        { s with clock := { s.clock with vamp := none } } := if_pos h
    rw [if_pos rfl, if_neg (by simp [h]), BitVec.or_zero, still, ← h]
  · rw [if_pos rfl, if_pos ⟨rfl, h⟩, setClockState_runs (by decide) (by decide) (by exact h)]
    rfl

theorem lastOfBar_iff {b : Book} : b.lastOfBar pos = true ↔ b.beatsIn pos.song pos.bar ≤ pos.beat := decide_eq_true_iff

theorem lastOfBar_false {b : Book} (h : pos.beat < b.beatsIn pos.song pos.bar) : b.lastOfBar pos = false :=
  decide_eq_false (by omega)

/-- The walk finds the position that follows, and the region that is then in force (R56, R68). -/
theorem nextPosition_follows {region : Option Vamp} (hr : s.clock.vamp = region) (h : s.book.Follows pos region onward v) :
    nextPosition pos s = (walked v s, onward) := by
  have self := walked_self s
  rw [hr] at self
  cases h with
  | within _ hb =>
    unfold nextPosition
    rw [hr, self, lastOfBar_false hb]
    cases v <;> simp
  | nextBar _ r hb hv hsong hbar =>
    unfold nextPosition
    rw [hr, self, lastOfBar_iff.2 hb, hsong]
    cases v with
    | none => simp [Nat.not_le.2 hbar]
    | some w => simp [Nat.not_le.2 hbar, hv w rfl]
  | songEnd _ r hb hv hsong hbar =>
    unfold nextPosition
    rw [hr, self, lastOfBar_iff.2 hb, hsong]
    cases v with
    | none => simp [hbar]
    | some w => simp [hbar, hv w rfl]
  | turn w hb hl hx =>
    unfold nextPosition
    rw [hr, walked_stays (by simp [leaves]), lastOfBar_iff.2 hb]
    simp [hl, hx]
  | leave w r hb hl hx hsong hbar =>
    unfold nextPosition
    rw [walked_leaves (by rw [hr]; rfl), hr, lastOfBar_iff.2 hb, hsong]
    simp [hl, hx, Nat.not_le.2 hbar]
  | leaveAtEnd w r hb hl hx hsong hbar =>
    unfold nextPosition
    rw [hr, self, lastOfBar_iff.2 hb, hsong]
    simp [hl, hx, hbar]

/-! ## The beat set (R54, R55, R61, R64) -/

/-- A beat's fields on the overlay (R146). -/
def shownBeat (b : NextBeat) (o : Overlay) : Overlay :=
  { o with position := some b.pos, beat := some { tick := tickOfSub b.sub, downbeat := decide (b.pos.beat = 1) } }

/-- The state as the beat is set and shown, before what follows it. -/
def beatSet (b : NextBeat) (tempo : Nat) (s : State) : State :=
  { s with clock := s.producing b tempo, overlay := shownBeat b s.overlay }

/-- A beat crosses into another segment (R64). -/
def crosses (s : State) (b : NextBeat) : Bool :=
  s.clock.pos.any fun old => decide (s.book.segmentStart old ≠ s.book.segmentStart b.pos)

theorem crosses_true (h : crosses s b = true) :
    ∃ old, s.clock.pos = some old ∧ s.book.segmentStart old ≠ s.book.segmentStart b.pos := by
  obtain ⟨old, hp, hd⟩ := (Option.any_eq_true _ _).1 h
  exact ⟨old, hp, of_decide_eq_true hd⟩

theorem crosses_false (h : crosses s b = false) (old : SongPos) (hp : s.clock.pos = some old) :
    s.book.segmentStart old = s.book.segmentStart b.pos := by
  by_contra hne
  have := (Option.any_eq_true (s.clock.pos) (p := fun old =>
    decide (s.book.segmentStart old ≠ s.book.segmentStart b.pos))).2 ⟨old, hp, decide_eq_true hne⟩
  rw [show Option.any _ _ = false from h] at this
  cases this

/-- The tempo in force of the beat is the one that times it (R61, R64). -/
theorem tempoOf_producing (h : s.timesBeat b tempo sub) (base : Nat) :
    ({ s with clock := s.producing b base } : State).tempoOf b.pos = tempo := by
  show (let m := s.book.mappedTempo (if crosses s b = true then none else s.clock.override) b.pos
    match (if crosses s b = true then none else s.clock.adjust) with
    | none => m
    | some f => clampNat 2000 30000 (clampNat (m - m * s.book.settings.band / 1000) (m + m * s.book.settings.band / 1000) f)) = _
  cases hc : crosses s b with
  | true =>
    obtain ⟨old, hp, hne⟩ := crosses_true hc
    exact (h.crossing old hp hne).symm
  | false =>
    have within := crosses_false hc
    dsimp only
    rw [if_neg (by simp), if_neg (by simp)]
    cases ha : s.clock.adjust with
    | none => exact (h.mapped within ha).symm
    | some f => exact (h.adjusted within f _ _ ha rfl rfl).symm

theorem producing_eq (s : State) (b : NextBeat) (base : Nat) : s.producing b base =
    let mark := fun (v : Vamp) => if v.last = b.pos.bar ∧ b.pos.beat = 1 then { v with mark := true } else v
    let k : Clock := { s.clock with pos := some b.pos, p := b.sub, next := none, vamp := s.clock.vamp.map mark, tempo := base }
    if crosses s b then k.dropFollow else k := by
  have marks : (fun w : Vamp => { w with mark := w.mark || (decide (w.last = b.pos.bar) && decide (b.pos.beat = 1)) }) =
      fun v => if v.last = b.pos.bar ∧ b.pos.beat = 1 then { v with mark := true } else v := by
    funext w
    split
    next h => simp [h]
    next h =>
      have off : (decide (w.last = b.pos.bar) && decide (b.pos.beat = 1)) = false := by
        rw [← Bool.decide_and, decide_eq_false h]
      rw [off, Bool.or_false]
  unfold State.producing
  dsimp only
  rw [show s.clock.pos.any _ = crosses s b from rfl, marks]
  cases crosses s b <;> rfl

/-! ## The beat produced (R55 to R58, R70) -/

theorem range_filter_pos (n : Nat) : (List.range n).filter (fun j => decide (1 ≤ j)) = (List.range (n - 1)).map (· + 1) := by
  cases n with
  | zero => rfl
  | succ n =>
    rw [List.range_succ_eq_map, List.filter_cons_of_neg (by simp), Nat.add_sub_cancel]
    exact List.filter_eq_self.2 fun j hj => by
      obtain ⟨i, -, rfl⟩ := List.mem_map.1 hj
      simp

theorem subClicks_eq (pos : SongPos) (p : SubTick) (tempo n : Nat) : subClicks pos p tempo n =
    (List.range (n - 1)).map fun j =>
      { cls := .sub, bar := pos.bar, beat := pos.beat, sub := j + 1, tempo := tempo
        tick := tickOfSub (p + BitVec.ofNat 40 ((j + 1) * ((73728000000 + tempo / 2) / tempo) / n)) } := by
  unfold subClicks
  rw [range_filter_pos, List.map_map]
  rfl

/-- The beat as the announced one, before its tempo (R55, R64, R68). -/
def beatMoved (b : NextBeat) (s : State) : State :=
  let boundary : Bool :=
    match s.clock.pos with
    | some old => decide (s.book.segmentStart old ≠ s.book.segmentStart b.pos)
    | none => false
  let mark := fun (v : Vamp) => if v.last = b.pos.bar ∧ b.pos.beat = 1 then { v with mark := true } else v
  let s := { s with clock := { s.clock with pos := some b.pos, p := b.sub, next := none, vamp := s.clock.vamp.map mark } }
  if boundary then { s with clock := s.clock.dropFollow } else s

/-- What follows a beat that is set with its tempo (R55 to R58, R70). -/
def beatFollowed (b : NextBeat) (s : State) : State × List BarTrigger :=
  let tempo := s.clock.tempo
  if s.clock.holdDue then
    (setClockState .held { s with clock := { s.clock with holdDue := false, tapOnset := none, taps := [] } }, [])
  else
    let sub := subAfter b.sub (beatInterval tempo)
    let found := nextPosition b.pos s
    let s := (subClicks b.pos b.sub tempo (found.1.book.subdivisionIn b.pos.song b.pos.bar)).foldl
      (fun s k => handOffClick k s) found.1
    match found.2 with
    | some pos => fixNext pos sub tempo s
    | none => ({ s with clock := { s.clock with ending := some (tickOfSub sub) } }, [])

/-- The beat that follows is fixed at `sub`, or the song's end set there (R55, R57). -/
def followedBy (sub : SubTick) (tempo : Nat) (onward : Option SongPos) (s : State) : State × List BarTrigger :=
  match onward with
  | some pos => fixNext pos sub tempo s
  | none => ({ s with clock := { s.clock with ending := some (tickOfSub sub) } }, [])

theorem beatFollowed_eq (hh : x.clock.holdDue = false) (ht : x.clock.tempo = tempo)
    (hsub : subAfter b.sub (beatInterval tempo) = sub) (hn : nextPosition b.pos x = (y, onward)) : beatFollowed b x =
      followedBy sub tempo onward
        ((subClicks b.pos b.sub tempo (y.book.subdivisionIn b.pos.song b.pos.bar)).foldl (fun s k => handOffClick k s) y) := by
  subst ht
  unfold beatFollowed
  rw [if_neg (by simp [hh]), hn, hsub]
  rfl

theorem produceBeat_eq (b : NextBeat) (s : State) : produceBeat b s =
    beatFollowed b { beatMoved b s with
      clock := { (beatMoved b s).clock with tempo := (beatMoved b s).tempoOf b.pos }
      overlay := shownBeat b (beatMoved b s).overlay } := rfl

theorem beatMoved_eq (b : NextBeat) (s : State) : beatMoved b s = { s with clock := s.producing b s.clock.tempo } := by
  have across : (match s.clock.pos with
      | some old => decide (s.book.segmentStart old ≠ s.book.segmentStart b.pos)
      | none => false) = crosses s b := by
    unfold crosses
    cases s.clock.pos <;> rfl
  unfold beatMoved
  rw [producing_eq, across]
  cases crosses s b <;> rfl

/-- The production of a beat sets it with the tempo that times it (R55, R61). -/
theorem produceBeat_timed (h : s.timesBeat b tempo sub) : produceBeat b s = beatFollowed b (beatSet b tempo s) := by
  rw [produceBeat_eq, beatMoved_eq, tempoOf_producing h]
  rfl

theorem timesBeat_sub (h : s.timesBeat b tempo sub) : subAfter b.sub (beatInterval tempo) = sub := h.interval.symm

/-- With hold due the clock is HELD on the beat (R70). -/
theorem produceBeat_held (h : s.timesBeat b tempo sub) (hh : s.clock.holdDue = true) (hs : s.clock.state ≠ .held) :
    produceBeat b s = ({ s with
      clock := { s.producing b tempo with state := .held, holdDue := false, tapOnset := none, taps := [] }
      overlay := shownBeat b s.overlay
      port := { s.port with flags := s.port.flags ||| EventFlag.clockChange.bit } }, []) := by
  rw [produceBeat_timed h]
  unfold beatFollowed
  rw [if_pos (show (beatSet b tempo s).clock.holdDue = true from hh), setClockState_runs (by decide) (by decide) (by exact hs)]
  rfl

/-- The state that a beat leaves once what follows it is fixed: `l` the triggers held, and the due list and links as the
clicks are handed over (R55 to R58). -/
def beatProduced (b : NextBeat) (tempo : Nat) (sub : SubTick) (onward : Option SongPos) (v : Option Vamp) (l : List BarTrigger)
    (due : List DueItem) (links : Vector Link 16) (s : State) : State :=
  { s with
    clock := { s.producing b tempo with
      vamp := v
      state := if leaves s.clock v then .playing else s.clock.state
      next := onward.map fun pos => { pos := pos, sub := sub }
      ending := if onward.isNone then some (tickOfSub sub) else s.clock.ending }
    overlay := shownBeat b s.overlay
    cue := { s.cue with triggers := l }
    due := due
    links := links
    port := { s.port with flags := s.port.flags |||
      (if leaves s.clock v = true ∧ s.clock.state ≠ .playing then EventFlag.clockChange.bit else 0#10) } }

theorem leaves_producing (s : State) (b : NextBeat) (tempo : Nat) (v : Option Vamp) :
    leaves (s.producing b tempo) v = leaves s.clock v := congrArg (· && v.isNone) Option.isSome_map

/-- The state as the beat is set and the region walked on. -/
def beatWalked (b : NextBeat) (tempo : Nat) (v : Option Vamp) (s : State) : State :=
  { s with
    clock := { s.producing b tempo with vamp := v, state := if leaves s.clock v then .playing else s.clock.state }
    overlay := shownBeat b s.overlay
    port := { s.port with flags := s.port.flags |||
      (if leaves s.clock v = true ∧ s.clock.state ≠ .playing then EventFlag.clockChange.bit else 0#10) } }

theorem walked_beatSet (b : NextBeat) (tempo : Nat) (v : Option Vamp) (s : State) :
    walked v (beatSet b tempo s) = beatWalked b tempo v s := by
  unfold walked
  rw [show leaves (beatSet b tempo s).clock v = leaves s.clock v from leaves_producing ..]
  rfl

theorem produceBeat_follows (h : s.timesBeat b tempo sub) (hh : s.clock.holdDue = false)
    (hf : s.book.Follows b.pos (s.producing b tempo).vamp onward v) (ha : Announced s v onward (tickOfSub sub) l) :
    ∃ due links, produceBeat b s = (beatProduced b tempo sub onward v l due links s, []) ∧
      Hands s (beatProduced b tempo sub onward v l due links s) (s.book.clicksAfter b tempo sub onward) := by
  let w := beatWalked b tempo v s
  have follows : nextPosition b.pos (beatSet b tempo s) = (w, onward) := by
    rw [nextPosition_follows rfl hf, walked_beatSet]
  have still : Hands s w [] := .of_still ⟨rfl, rfl, Iff.rfl, rfl, rfl, fun _ => rfl⟩ rfl rfl
  obtain ⟨due, links, hl, hands⟩ := handOffClicks
    (subClicks b.pos b.sub tempo (s.book.subdivisionIn b.pos.song b.pos.bar)) w
  have made : produceBeat b s = followedBy sub tempo onward { w with due := due, links := links } := by
    rw [produceBeat_timed h, beatFollowed_eq (x := beatSet b tempo s) hh rfl (timesBeat_sub h) follows, ← hl]
    rfl
  have clicks : s.book.clicksAfter b tempo sub onward =
      subClicks b.pos b.sub tempo (s.book.subdivisionIn b.pos.song b.pos.bar) ++
        onward.toList.map fun pos => songBeatClick pos (tickOfSub sub) tempo := by rw [subClicks_eq]; rfl
  rw [made, clicks]
  cases onward with
  | none =>
    refine ⟨due, links, ?_, ?_⟩
    · rw [ha.silent rfl]
      rfl
    · refine (still.trans hands).trans (m := []) (.of_still ⟨rfl, rfl, Iff.rfl, rfl, rfl, fun _ => rfl⟩ rfl rfl)
  | some pos =>
    obtain ⟨due', links', fixed, hands'⟩ := fixNext_announced (x := { w with due := due, links := links }) ha rfl rfl rfl rfl tempo
    exact ⟨due', links', fixed, (still.trans hands).trans hands'⟩

end Sys2Proof.Proofs

/-! PROOFS. Beats in their turn, the vamp release and the vamp's turns, and the count-in (R54 to R58, R68 to R70, R74, R75,
R175). -/

namespace Sys2Proof.Proofs

open Sys2Proof.Machine Sys2Proof.Laws

variable {s t u x : State} {sub : SubTick} {tempo : Nat} {v : Option Vamp} {onward : Option SongPos} {b : NextBeat}
  {l : List BarTrigger} {k : CountIn}

/-! ## The announced beat (R55) -/

theorem settleBars_nil (x : State) : settleBars (x, []) = x := settleFires_nil x

/-- In PLAYING and VAMPING the announced beat is produced when it is reached, and not before. -/
theorem exec_beatProduction (hr : s.resetHeld = false) (hs : s.clock.state = .playing ∨ s.clock.state = .vamping)
    (hb : s.clock.next = some b) : exec .beatProduction s = .next
      (if tickReached s.time.tick (tickOfSub b.sub) then settleBars (produceBeat b s) else s) := by
  refine (event_up hr _).trans ?_
  unfold beatReached
  rcases hs with hs | hs <;> rw [hs, hb] <;> rfl

theorem leaves_flag (hs : s.clock.state = .playing ∨ s.clock.state = .vamping) (v : Option Vamp) :
    (leaves s.clock v = true ∧ s.clock.state ≠ .playing) ↔
      (s.clock.state = .vamping ∧ s.clock.vamp.isSome = true ∧ v = none) := by
  unfold leaves
  rw [Bool.and_eq_true, Option.isNone_iff_eq_none]
  rcases hs with hs | hs
  · simp [hs]
  · simp [hs]

theorem beatProduced_links {due : List DueItem} {links : Vector Link 16} {m : List Click}
    (h : Hands s (beatProduced b tempo sub onward v l due links s) m) (c : Chair) :
    links[c] = { s.links[c] with clickQueue := links[c].clickQueue } := by
  have := h.links c
  rw [show (beatProduced b tempo sub onward v l due links s).links[c] = links[c] from rfl] at this
  rw [this]

/-- Settles O28: the beat is set, the walk goes on, and the announcement and the hand-offs follow. -/
theorem beatIsProducedInItsTurn : Obligations.BeatIsProducedInItsTurn := by
  intro b s hr ho hs hb
  have runs := exec_beatProduction hr hs hb
  refine ⟨fun early => ?_, fun tempo sub reached timed => ⟨fun hold => ?_, fun onward v hh follows later => ?_⟩⟩
  · rw [runs, early]; rfl
  · have notHeld : s.clock.state ≠ .held := by rcases hs with hs | hs <;> rw [hs] <;> simp
    rw [runs, if_pos reached, produceBeat_held timed hold notHeld, settleBars_nil]
    rfl
  · obtain ⟨l, announced, mem⟩ := announced_of_open ho later
    obtain ⟨due, links, made, hands⟩ := produceBeat_follows timed hh follows announced
    refine ⟨_, ?_, ?_, beatProduced_links hands, ?_, handsOver_of (.of_still rfl rfl) hands, ?_, mem⟩
    · rw [runs, if_pos reached, made, settleBars_nil]
    · rfl
    · rfl
    · exact congrArg (s.port.flags ||| ·) (if_congr (leaves_flag hs v) rfl rfl)

/-! ## The vamp's release, turn and exit (R68, R69) -/

theorem releasable_iff : s.releasable = true ↔ (s.clock.state = .vamping ∨ s.clock.state = .held) ∧
    ∃ v : Vamp, s.clock.vamp = some v ∧ v.exit = none := by
  unfold State.releasable
  cases s.clock.vamp <;> simp

theorem vampRelease_sets {v : Vamp} (hs : s.clock.state = .vamping ∨ s.clock.state = .held) (hv : s.clock.vamp = some v)
    (hx : v.exit = none) : vampRelease s = { s with
      clock := { s.clock with vamp := some { v with exit := some (if v.mark then v.pass + 1 else v.pass) } } } := by
  unfold vampRelease
  rw [if_pos (releasable_iff.2 ⟨hs, v, hv, hx⟩), hv]
  rfl

theorem vampRelease_checks (ha : s.accepts) :
    (s.cue.isOpen = false → exec .vampRelease s = .next (owing (plain .notOpen) s.taking)) ∧
    (s.cue.isOpen = true →
      (s.clock.state = .frozen ∨ s.clock.state = .counting →
        exec .vampRelease s = .next (owing (plain .stopped) s.taking)) ∧
      (s.clock.state = .parked ∨ s.clock.state = .playing →
        exec .vampRelease s = .next (owing (plain .invalid) s.taking)) ∧
      (s.clock.state = .vamping ∨ s.clock.state = .held →
        ((∀ v : Vamp, s.clock.vamp = some v → v.exit ≠ none) →
          exec .vampRelease s = .next (owing (plain .invalid) s.taking)) ∧
        ∀ v : Vamp, s.clock.vamp = some v → v.exit = none →
          exec .vampRelease s = .next (owing (plain .ok) { s.taking with clock := { s.clock with
            vamp := some { v with exit := some (if v.mark then v.pass + 1 else v.pass) } } }))) := by
  have decides : s.cue.isOpen = true → ¬(s.clock.state = .frozen ∨ s.clock.state = .counting) →
      decideVampRelease s.taking = if s.taking.releasable then (vampRelease s.taking, plain .ok) else refuse .invalid s.taking := by
    intro ho hs
    unfold decideVampRelease
    rw [if_neg (by rw [show s.taking.cue.isOpen = true from ho]; simp), if_neg (by exact hs)]
  refine ⟨fun ho => request_refused (d := decideVampRelease) ha (if_pos (by rw [show s.taking.cue.isOpen = false from ho]; rfl)),
    fun ho => ⟨fun hs => request_refused (d := decideVampRelease) ha ?_, fun hs => request_refused (d := decideVampRelease) ha ?_,
      fun hs => ⟨fun hx => request_refused (d := decideVampRelease) ha ?_, fun v hv hx => request_decided (d := decideVampRelease) ha ?_⟩⟩⟩
  · unfold decideVampRelease
    rw [if_neg (by rw [show s.taking.cue.isOpen = true from ho]; simp), if_pos (by exact hs)]
  · rw [decides ho (by rcases hs with hs | hs <;> simp [hs]), if_neg]
    rw [releasable_iff]
    rintro ⟨h, -⟩
    have h : s.clock.state = .vamping ∨ s.clock.state = .held := h
    rcases hs with hs | hs <;> simp [hs] at h
  · rw [decides ho (by rcases hs with hs | hs <;> simp [hs]), if_neg]
    rw [releasable_iff]
    rintro ⟨-, v, hv, hx'⟩
    exact hx v hv hx'
  · rw [decides ho (by rcases hs with hs | hs <;> simp [hs]), if_pos (releasable_iff (s := s.taking).2 ⟨hs, v, hv, hx⟩),
      vampRelease_sets (s := s.taking) hs hv hx]
    rfl

/-- A region as a beat is set, with its last-bar downbeat mark (R68). -/
theorem producing_vamp {w : Vamp} (hv : s.clock.vamp = some w) (b : NextBeat) (tempo : Nat) : (s.producing b tempo).vamp =
    some { w with mark := w.mark || (decide (w.last = b.pos.bar) && decide (b.pos.beat = 1)) } := by
  show s.clock.vamp.map _ = _
  rw [hv]
  rfl

theorem two_le_bump {n : Nat} (h : 1 ≤ n) : 2 ≤ bump n := by
  unfold bump
  split <;> omega

/-- Settles O29: the release is a branch of its checks, and the turn and the exit are ways that the walk goes on. -/
theorem vampTurnsUntilItsExit : Obligations.VampTurnsUntilItsExit := by
  refine ⟨fun s ha => vampRelease_checks ha, fun b w tempo sub s hr hs hv hb hh reached timed hl hbeat => ?_⟩
  have runs := exec_beatProduction hr (.inr hs) hb
  have region := producing_vamp hv b tempo
  refine ⟨fun hx h1 horder => ?_, fun r after hx hsong hbar hafter ho later => ?_⟩
  · have follows : s.book.Follows b.pos (s.producing b tempo).vamp (some { b.pos with bar := w.first, beat := 1 })
        (some { w with pass := bump w.pass, mark := false }) := by
      rw [region]
      exact .turn b.pos _ hbeat hl hx
    have announced : Announced s (some { w with pass := bump w.pass, mark := false })
        (some { b.pos with bar := w.first, beat := 1 }) (tickOfSub sub) s.cue.triggers :=
      announced_of_laterPass (two_le_bump h1) le_rfl horder
    obtain ⟨due, links, made, hands⟩ := produceBeat_follows timed hh follows announced
    have stays : leaves s.clock (some { w with pass := bump w.pass, mark := false }) = false := by simp [leaves]
    refine ⟨_, by rw [runs, if_pos reached, made, settleBars_nil], rfl, ?_, rfl, rfl,
      handsOver_of (.of_still rfl rfl) hands, ?_, rfl⟩
    · show (if leaves s.clock _ then _ else s.clock.state) = _
      rw [stays]
      exact hs
    · show s.port.flags ||| (if leaves s.clock _ = true ∧ _ then _ else _) = _
      rw [stays]
      simp
  · subst hafter
    have follows : s.book.Follows b.pos (s.producing b tempo).vamp (some { b.pos with bar := b.pos.bar + 1, beat := 1 }) none := by
      rw [region]
      exact .leave b.pos _ r hbeat hl hx hsong hbar
    obtain ⟨l, announced, mem⟩ := announced_of_open (s := s) (v := none) (tick := tickOfSub sub)
      (onward := some { b.pos with bar := b.pos.bar + 1, beat := 1 }) ho
      (fun pos d e hpos => by cases hpos; exact later d e)
    obtain ⟨due, links, made, hands⟩ := produceBeat_follows timed hh follows announced
    have left : leaves s.clock none = true := by simp [leaves, hv]
    refine ⟨_, by rw [runs, if_pos reached, made, settleBars_nil], rfl, ?_, rfl, rfl,
      handsOver_of (.of_still rfl rfl) hands, ?_, fun e => (mem e).trans (by simp)⟩
    · exact if_pos left
    · exact congrArg (s.port.flags ||| ·) (if_pos ⟨left, by rw [hs]; simp⟩)

end Sys2Proof.Proofs

/-! PROOFS. The count-in's beats and its end (R67, R70, R74, R75, R175). -/

namespace Sys2Proof.Proofs

open Sys2Proof.Machine Sys2Proof.Laws

variable {s t u x : State} {sub : SubTick} {tempo : Nat} {v : Option Vamp} {onward : Option SongPos} {b : NextBeat}
  {l : List BarTrigger} {k : CountIn}

/-! ## A count-in beat (R75) -/

/-- The count-in as one more of its beats has been reached (R75). -/
def counted (k : CountIn) : CountIn :=
  { k with reached := k.reached + 1, given := if k.given < k.total then k.given + 1 else k.given }

/-- The state as a count-in beat is shown, before the next one is given (R75). -/
def countShown (k : CountIn) (s : State) : State :=
  { s with
    clock := { s.clock with countIn := some (counted k) }
    overlay := { s.overlay with countCard := s.overlay.countCard.map fun _ => some (k.total - k.reached) } }

theorem due?_dueTick (k : CountIn) (s : State) : s.due? k.dueTick = true ↔ k.reached < k.total ∧
    tickReached s.time.tick (tickOfSub (k.first + BitVec.ofNat 40 (k.reached * k.interval))) = true := by
  unfold CountIn.dueTick
  split
  next h => simp [State.due?, h, State.now, subAfter]
  next h => simp [State.due?, h]

theorem exec_countInBeat (hr : s.resetHeld = false) (hs : s.clock.state = .counting) (hk : s.clock.countIn = some k) :
    exec .countInBeat s = .next (if s.due? k.dueTick then
      if k.given < k.total then handOffClick (k.click s.clock.tempo k.given) (countShown k s) else countShown k s
    else s) := by
  refine (event_up hr _).trans ?_
  unfold countInBeat
  rw [hs, hk]
  dsimp only
  by_cases hd : s.due? k.dueTick = true
  · rw [if_pos hd, if_pos hd]
    by_cases hg : k.given < k.total
    · rw [if_pos hg, decide_eq_true hg, if_pos rfl, if_pos rfl]
      unfold countShown counted
      rw [if_pos hg]
      rfl
    · rw [if_neg hg, decide_eq_false hg, if_neg (by simp), if_neg (by simp)]
      unfold countShown counted
      rw [if_neg hg]
  · rw [if_neg hd, if_neg hd]

theorem countInBeat_counts (hr : s.resetHeld = false) (hs : s.clock.state = .counting) (hk : s.clock.countIn = some k) :
    (k.total ≤ k.reached ∨
        tickReached s.time.tick (tickOfSub (k.first + BitVec.ofNat 40 (k.reached * k.interval))) = false →
      exec .countInBeat s = .next s) ∧
    (k.reached < k.total →
      tickReached s.time.tick (tickOfSub (k.first + BitVec.ofNat 40 (k.reached * k.interval))) = true →
      ∃ t : State, exec .countInBeat s = .next t ∧
        t = { s with
          due := t.due, links := t.links
          clock := { s.clock with countIn := some { k with
            reached := k.reached + 1, given := if k.given < k.total then k.given + 1 else k.given } }
          overlay := { s.overlay with countCard := s.overlay.countCard.map fun _ => some (k.total - k.reached) } } ∧
        (∀ c : Chair, t.links[c] = { s.links[c] with clickQueue := t.links[c].clickQueue }) ∧
        s.handsOver t (fun _ => false) (if k.given < k.total then [k.click s.clock.tempo k.given] else [])) := by
  have runs := exec_countInBeat hr hs hk
  have still : Hands s (countShown k s) [] := .of_still ⟨rfl, rfl, Iff.rfl, rfl, rfl, fun _ => rfl⟩ rfl rfl
  refine ⟨fun h => ?_, fun hk reached => ?_⟩
  · rw [runs, if_neg]
    rw [due?_dueTick]
    rintro ⟨h1, h2⟩
    rcases h with h | h
    · omega
    · rw [h] at h2
      cases h2
  · rw [if_pos ((due?_dueTick k s).2 ⟨hk, reached⟩)] at runs
    by_cases hg : k.given < k.total
    · obtain ⟨frame, hands⟩ := handOffClick_frame (k.click s.clock.tempo k.given) (countShown k s)
      rw [if_pos hg] at runs
      refine ⟨_, runs, frame, fun c => ?_, ?_⟩
      · rw [hands.links c]
        rfl
      · rw [if_pos hg]
        exact handsOver_of (.of_still rfl rfl) (still.trans hands)
    · rw [if_neg hg] at runs
      refine ⟨_, runs, rfl, fun _ => rfl, ?_⟩
      rw [if_neg hg]
      exact handsOver_of (.of_still rfl rfl) still

/-! ## The count-in's end (R67, R70, R75, R175) -/

/-- The state that the clock leaves COUNTING for: VAMPING with a region set (R67), and PLAYING otherwise. -/
def songState (v : Option Vamp) : ClockState := if v.isSome then .vamping else .playing

/-- The state as the clock leaves COUNTING for its first song beat (R75). -/
def countLeft (s : State) : State :=
  { s with
    clock := { s.clock with countIn := none, state := songState s.clock.vamp }
    port := { s.port with flags := s.port.flags ||| EventFlag.clockChange.bit } }

theorem setClockState_songState (h : s.clock.state ≠ .playing) (h' : s.clock.state ≠ .vamping) (v : Option Vamp) :
    setClockState (songState v) s = flag .clockChange { s with clock := { s.clock with state := songState v } } := by
  unfold songState
  split
  · exact setClockState_runs (by decide) (by decide) h'
  · exact setClockState_runs (by decide) (by decide) h

theorem exec_countInEnd (hr : s.resetHeld = false) (hs : s.clock.state = .counting) (hb : s.clock.next = some b) :
    exec .countInEnd s = .next (if tickReached s.time.tick (tickOfSub b.sub) then
      settleBars (countInComplete (produceBeat b (countLeft s)).1, (produceBeat b (countLeft s)).2) else s) := by
  have left : setClockState (if s.clock.vamp.isSome then .vamping else .playing)
      { s with clock := { s.clock with countIn := none } } = countLeft s :=
    setClockState_songState (s := { s with clock := { s.clock with countIn := none } }) (by simp [hs]) (by simp [hs]) _
  refine (event_up hr _).trans ?_
  unfold countInEnd
  rw [hs, hb]
  dsimp only
  rw [left]
  rfl

theorem timesBeat_countLeft (h : s.timesBeat b tempo sub) : (countLeft s).timesBeat b tempo sub :=
  ⟨h.crossing, h.mapped, h.adjusted, h.interval⟩

/-- The stop is CLEAR and the count is off the card (R175). -/
def countOver (s : State) : State :=
  { s with
    stop := { s.stop with state := .clear }
    overlay := { s.overlay with countCard := none }
    port := { s.port with flags := s.port.flags ||| EventFlag.stopChange.bit } }

theorem countInComplete_eq (h : s.stop.state = .countIn) : countInComplete s = countOver s := by
  have clears : setStopState .clear s = flag .stopChange { s with stop := { s.stop with state := .clear } } :=
    if_neg (by rw [h]; simp)
  unfold countInComplete
  rw [clears]
  rfl

theorem hands_countOver (h : s.stop.state = .countIn) : Hands s (countOver s) [] :=
  .of_still ⟨rfl, rfl, by simp [countOver, h], rfl, rfl, fun _ => rfl⟩ rfl rfl

/-- A walk that ends with a region in force began with one (R68). -/
theorem Follows_isSome {book : Book} {pos : SongPos} {region : Option Vamp} (h : book.Follows pos region onward v)
    (hv : v.isSome = true) : region.isSome = true := by
  cases h with
  | within => exact hv
  | nextBar => exact hv
  | songEnd => exact hv
  | turn => rfl
  | leave => cases hv
  | leaveAtEnd => rfl

theorem leaves_songState {k : Clock} (h : v.isSome = true → k.vamp.isSome = true) :
    (if leaves k v then .playing else songState k.vamp) = songState v := by
  cases v with
  | some w => simp [leaves, songState, h rfl]
  | none => cases hk : k.vamp <;> simp [leaves, songState, hk]

theorem flags_again (f g : BitVec 10) (p : Prop) [Decidable p] : f ||| g ||| (if p then g else 0#10) = f ||| g := by
  split
  · rw [BitVec.or_assoc, BitVec.or_self]
  · rw [BitVec.or_zero]

theorem countInEnd_leads (hr : s.resetHeld = false) (hs : s.clock.state = .counting) (hb : s.clock.next = some b) :
    (tickReached s.time.tick (tickOfSub b.sub) = false → exec .countInEnd s = .next s) ∧
    ∀ (tempo : Nat) (sub : SubTick) (onward : Option SongPos) (v : Option Vamp),
      tickReached s.time.tick (tickOfSub b.sub) = true → s.cue.isOpen = true → s.stop.state = .countIn →
      s.timesBeat b tempo sub → s.book.Follows b.pos (s.producing b tempo).vamp onward v →
      (∀ (pos : SongPos) (d : Cue) (x : BarTrigger), s.clock.holdDue = false → onward = some pos →
        s.announces v pos (tickOfSub sub) d x → tickReached s.time.tick x.tick = false) →
      ∃ t : State, exec .countInEnd s = .next t ∧
        t = { s with
          clock := t.clock, due := t.due, links := t.links, stop := { s.stop with state := .clear }
          cue := { s.cue with triggers := t.cue.triggers }
          overlay := { s.overlay with
            position := some b.pos, beat := some { tick := tickOfSub b.sub, downbeat := decide (b.pos.beat = 1) }
            countCard := none }
          port := { s.port with
            flags := s.port.flags ||| EventFlag.clockChange.bit ||| EventFlag.stopChange.bit } } ∧
        (s.clock.holdDue = true →
          t.clock = { s.producing b tempo with
            state := .held, countIn := none, holdDue := false, tapOnset := none, taps := [] } ∧
          t.cue.triggers = s.cue.triggers ∧ t.due = s.due ∧ t.links = s.links) ∧
        (s.clock.holdDue = false →
          t.clock = { s.producing b tempo with
            state := if v.isSome then .vamping else .playing
            countIn := none, vamp := v, next := onward.map fun pos => { pos := pos, sub := sub }
            ending := if onward.isNone then some (tickOfSub sub) else s.clock.ending } ∧
          (∀ c : Chair, t.links[c] = { s.links[c] with clickQueue := t.links[c].clickQueue }) ∧
          s.handsOver t (fun _ => false) (s.book.clicksAfter b tempo sub onward) ∧
          ∀ x : BarTrigger, x ∈ t.cue.triggers ↔
            x ∈ s.cue.triggers ∨
              ∃ (pos : SongPos) (d : Cue), onward = some pos ∧ s.announces v pos (tickOfSub sub) d x) := by
  have runs := exec_countInEnd hr hs hb
  refine ⟨fun early => by rw [runs, early]; rfl, fun tempo sub onward v reached ho hstop timed follows later => ?_⟩
  rw [if_pos reached] at runs
  have timed' := timesBeat_countLeft timed
  cases hold : s.clock.holdDue with
  | true =>
    have made := produceBeat_held timed' hold (by show songState _ ≠ _; unfold songState; split <;> simp)
    have flags : (countLeft s).port.flags ||| EventFlag.clockChange.bit = s.port.flags ||| EventFlag.clockChange.bit :=
      (BitVec.or_assoc ..).trans (congrArg _ BitVec.or_self)
    rw [made, flags] at runs
    dsimp only at runs
    rw [countInComplete_eq (by exact hstop), settleBars_nil] at runs
    exact ⟨_, runs, rfl, fun _ => ⟨rfl, rfl, rfl, rfl⟩, nofun⟩
  | false =>
    obtain ⟨l, announced, mem⟩ := announced_of_open (s := s) ho (fun pos d e hpos => later pos d e hold hpos)
    have announced' : Announced (countLeft s) v onward (tickOfSub sub) l := ⟨announced.announces, announced.silent⟩
    obtain ⟨due, links, made, hands⟩ := produceBeat_follows timed' hold follows announced'
    let y := beatProduced b tempo sub onward v l due links (countLeft s)
    have stop : y.stop.state = .countIn := hstop
    have flags : y.port.flags = s.port.flags ||| EventFlag.clockChange.bit := flags_again ..
    have region : v.isSome = true → s.clock.vamp.isSome = true := fun hv => by
      have before := Follows_isSome follows hv
      rwa [show (s.producing b tempo).vamp = s.clock.vamp.map _ from rfl, Option.isSome_map] at before
    have state : y.clock.state = songState v := leaves_songState (k := (countLeft s).clock) region
    have frame : countOver y = { s with
        clock := y.clock, due := due, links := links, stop := { s.stop with state := .clear }
        cue := { s.cue with triggers := l }
        overlay := { shownBeat b s.overlay with countCard := none }
        port := { s.port with flags := y.port.flags ||| EventFlag.stopChange.bit } } := rfl
    have clock : y.clock = { s.producing b tempo with
        state := y.clock.state, countIn := none, vamp := v, next := onward.map fun pos => { pos := pos, sub := sub }
        ending := if onward.isNone then some (tickOfSub sub) else s.clock.ending } := rfl
    have all : Hands s (countOver y) (s.book.clicksAfter b tempo sub onward) := by
      have still : Hands s (countLeft s) [] := .of_still ⟨rfl, rfl, Iff.rfl, rfl, rfl, fun _ => rfl⟩ rfl rfl
      have whole := (still.trans hands).trans (hands_countOver stop)
      rwa [List.nil_append, List.append_nil] at whole
    rw [flags] at frame
    rw [state] at clock
    refine ⟨countOver y, ?_, frame, nofun, fun _ => ⟨clock, fun c => ?_, handsOver_of (.of_still rfl rfl) all, mem⟩⟩
    · rw [runs, made]
      dsimp only
      rw [countInComplete_eq (s := y) stop, settleBars_nil]
    · rw [all.links c]

/-- Settles O33: a count-in beat is counted and gives the next, and the last leads into the song. -/
theorem countInLeadsIntoTheSong : Obligations.CountInLeadsIntoTheSong :=
  ⟨fun _ _ hr hs hk => countInBeat_counts hr hs hk, fun _ _ hr hs hb => countInEnd_leads hr hs hb⟩

end Sys2Proof.Proofs

/-! PROOFS. Leaving a song and parking the clock (R41, R42, R53, R57, R64, R65, R78, R87, R88, R146). -/

namespace Sys2Proof.Proofs

open Sys2Proof.Machine Sys2Proof.Laws

variable {s t u x : State} {n m : CueNumber} {c : Chair} {song : Nat}

/-! ## The beats abandoned (R41, R58, R78) -/

theorem withdrawAbandoned_eq (s : State) : withdrawAbandoned s = withdrawItems s.abandons s := by
  unfold withdrawAbandoned
  refine congrArg (withdrawItems · s) (funext fun k => ?_)
  unfold State.abandons
  cases s.clock.next with
  | none => rfl
  | some b => simp [State.now]

/-- The state as the clock leaves its song, before the song's cues pass (R41, R65, R78). -/
def leftBeats (s : State) : State :=
  { s with
    due := (withdrawItems s.abandons s).due
    links := (withdrawItems s.abandons s).links
    clock := { s.clock.dropFollow with next := none, ending := none, countIn := none, vamp := none, holdDue := false }
    cue := { s.cue with triggers := [] } }

theorem withdrawn_leftBeats (s : State) : Withdrawn s (leftBeats s) s.abandons :=
  ⟨(withdrawItems_withdrawn s.abandons s).due, (withdrawItems_withdrawn s.abandons s).links⟩

/-! ## The cues that a departure passes (R42) -/

/-- The PENDING BAR cues of a song. -/
def barsOf (song : Nat) (s : State) : List CueNumber :=
  (s.book.cues.filter fun c =>
    c.isBar && decide (c.song = some song) && decide (s.runState c.number = .pending)).map (·.number)

theorem mem_barsOf : m ∈ barsOf song s ↔
    ∃ d ∈ s.book.cues, d.isBar = true ∧ d.song = some song ∧ s.runState d.number = .pending ∧ d.number = m := by
  simp only [barsOf, List.mem_map, List.mem_filter, Bool.and_eq_true, decide_eq_true_eq]
  constructor
  · rintro ⟨d, ⟨hd, ⟨hb, hs⟩, hr⟩, rfl⟩
    exact ⟨d, hd, hb, hs, hr, rfl⟩
  · rintro ⟨d, hd, hb, hs, hr, rfl⟩
    exact ⟨d, ⟨hd, ⟨hb, hs⟩, hr⟩, rfl⟩

/-- The cues that pass as the clock leaves its song. -/
def leftBars (s : State) : List CueNumber :=
  match s.clock.pos with
  | some pos => barsOf pos.song s
  | none => []

theorem pending_of_mem_leftBars (h : m ∈ leftBars s) : s.runState m = .pending := by
  unfold leftBars at h
  split at h
  · obtain ⟨d, -, -, -, hr, rfl⟩ := mem_barsOf.1 h
    exact hr
  · cases h

theorem leaveSong_eq (s : State) : leaveSong s = (leftBars s).foldl (fun s m => passCue m s) (leftBeats s) := by
  have left : leaveSong s = match s.clock.pos.map (·.song) with
      | some n => passBarCues n (leftBeats s)
      | none => leftBeats s := by
    unfold leaveSong abandonBeats
    rw [withdrawAbandoned_eq]
    rfl
  rw [left]
  unfold leftBars
  cases s.clock.pos <;> rfl

theorem leaveSong_frame (s : State) : ∃ runs held timers standby, leaveSong s = { leftBeats s with
    cue := { s.cue with triggers := [], runs := runs, held := held, timers := timers }
    overlay := { s.overlay with standby := standby } } := by
  obtain ⟨k, o, h⟩ := frame_of_around (passCues_around (leftBars s) (leftBeats s))
  have standby := passCues_standby (leftBars s) (leftBeats s)
  refine ⟨k.runs, k.held, k.timers, o, ?_⟩
  rw [leaveSong_eq, h]
  rw [h] at standby
  have same : k.standby = s.cue.standby := standby
  rw [same]
  rfl

theorem leaveSong_entry (s : State) (k : CueNumber) : (leaveSong s).cue.entry? k =
    if k ∈ leftBars s then (s.cue.entry? k).map (newState .passed) else s.cue.entry? k := by
  rw [leaveSong_eq]
  exact entry?_passCues (leftBars s) (leftBeats s) k

/-! ## Basis and trim as the clock comes to rest (R87 to R89) -/

theorem settleClicks_clicks (s : State) (c : Chair) :
    (settleClicks s).clicks[c].trim = s.book.chairs[c].trim ∧
    (settleClicks s).clicks[c].basis = s.clicks[c].filtered.getD s.clicks[c].basis ∧
    (settleClicks s).clicks[c].advance = advanceOf (settleClicks s).clicks[c].basis (settleClicks s).clicks[c].trim ∧
    (settleClicks s).clicks[c].enable = s.clicks[c].enable ∧ (settleClicks s).clicks[c].filter = s.clicks[c].filter := by
  unfold settleClicks
  rw [show (tabulateChairs _ : Vector ClickChair 16)[c] = _ from tabulateChairs_getElem ..]
  exact ⟨rfl, rfl, rfl, rfl, rfl⟩

/-! ## The clock parks (R53, R57) -/

theorem parkClock_frame (h : s.clock.state ≠ .parked) : ∃ runs held timers standby, parkClock s = { s with
    due := (withdrawItems s.abandons s).due
    links := (withdrawItems s.abandons s).links
    clicks := (settleClicks s).clicks
    clock := { Cleared s.clock with state := .parked }
    cue := { s.cue with triggers := [], runs := runs, held := held, timers := timers }
    overlay := { s.overlay with standby := standby, position := none, beat := none }
    port := { s.port with flags := s.port.flags ||| EventFlag.clockChange.bit } } := by
  obtain ⟨runs, held, timers, standby, left⟩ := leaveSong_frame s
  refine ⟨runs, held, timers, standby, ?_⟩
  unfold parkClock
  rw [left]
  exact setClockState_parks h

theorem parkClock_entry (h : s.clock.state ≠ .parked) (k : CueNumber) : (parkClock s).cue.entry? k =
    if k ∈ leftBars s then (s.cue.entry? k).map (newState .passed) else s.cue.entry? k := by
  have parks : parkClock s = _ := setClockState_parks
    (s := { leaveSong s with clock := { (leaveSong s).clock with pos := none } }) (by
      obtain ⟨_, _, _, _, left⟩ := leaveSong_frame s
      rw [left]
      exact h)
  rw [parks, ← leaveSong_entry]
  rfl

theorem handsOver_none {gone : Click → Bool} (due : t.due = (withdrawItems gone s).due)
    (links : t.links = (withdrawItems gone s).links) : s.handsOver t gone [] :=
  handsOver_of (s := t) ⟨due, fun c => by rw [links]; exact withdrawItems_links gone s c⟩ (.refl t)

/-- Settles O32: the song's end is the clock's parking. -/
theorem songEndParksTheClock : Obligations.SongEndParksTheClock := by
  intro ending pos s hr he hp hs
  have runs : exec .songEnd s = .next (if tickReached s.time.tick ending then parkClock s else s) := by
    refine (event_up hr _).trans ?_
    unfold songEnd State.due?
    rw [he]
    rfl
  refine ⟨fun early => by rw [runs, early]; rfl, fun reached hpair hrun => ?_⟩
  obtain ⟨newRuns, held, timers, standby, frame⟩ := parkClock_frame hs
  have bars : leftBars s = barsOf pos.song s := by unfold leftBars; rw [hp]
  have run : ∀ d ∈ s.book.cues, (parkClock s).runState d.number =
      if d.isBar = true ∧ d.song = some pos.song ∧ s.runState d.number = .pending then .passed
      else s.runState d.number := by
    intro d hd
    obtain ⟨ho, hentry⟩ := hrun d hd
    obtain ⟨e, he⟩ := Option.isSome_iff_exists.1 hentry
    have member : d.number ∈ leftBars s ↔ d.isBar = true ∧ d.song = some pos.song ∧ s.runState d.number = .pending := by
      rw [bars, mem_barsOf]
      constructor
      · rintro ⟨d', hd', hb, hsong, hrun, hnum⟩
        cases List.inj_on_of_nodup_map (List.pairwise_map.2 hpair) hd' hd hnum
        exact ⟨hb, hsong, hrun⟩
      · rintro ⟨hb, hsong, hrun⟩
        exact ⟨d, hd, hb, hsong, hrun, rfl⟩
    have isOpen : (parkClock s).cue.isOpen = true := by rw [frame]; exact ho
    have entry := parkClock_entry hs d.number
    rw [he] at entry
    by_cases hm : d.number ∈ leftBars s
    · rw [if_pos hm] at entry
      rw [if_pos (member.1 hm), runState_of_entry isOpen entry]
      rfl
    · rw [if_neg hm] at entry
      rw [if_neg fun h => hm (member.2 h), runState_of_entry isOpen entry, runState_of_entry ho he]
  rw [if_pos reached] at runs
  refine ⟨_, runs, ?_, ?_, handsOver_none ?_ ?_, fun c => ?_, ?_, ?_, ?_, ?_, ?_, ?_, run, fun c => ?_⟩
  · rw [frame]
  · rw [frame]; rfl
  · rw [frame]
  · rw [frame]
  · rw [frame]
    show (withdrawItems s.abandons s).links[c] = { s.links[c] with clickQueue := (withdrawItems s.abandons s).links[c].clickQueue }
    rw [withdrawItems_links]
  all_goals rw [frame]
  exact settleClicks_clicks s c

end Sys2Proof.Proofs

/-! PROOFS. A fired cue's tempo and vamp actions (R34, R53, R60, R66, R67, R69, R70). -/

namespace Sys2Proof.Proofs

open Sys2Proof.Machine Sys2Proof.Laws

variable {s t u x y h : State} {n m : CueNumber} {c : Cue} {cause : FireCause} {i : Instr} {triggers : List BarTrigger}

/-! ## The state that the clock finds (R32, R34) -/

/-- From `s` to `h` the cue has begun its fire and completed, and the clock's turn has come: `triggers` are those held. -/
structure Readied (n : CueNumber) (triggers : List BarTrigger) (s h : State) : Prop where
  frame : h = { s with
    cue := h.cue, overlay := { s.overlay with standby := h.overlay.standby }, clicks := h.clicks, port := h.port }
  triggers : h.cue.triggers = triggers
  isOpen : h.cue.isOpen = true
  flags : h.port.flags = s.port.flags ||| EventFlag.cueDone.bit
  clicks : ∀ chair : Chair, h.clicks[chair] = { s.clicks[chair] with enable := h.clicks[chair].enable }
  entry : ∀ k : CueNumber, h.cue.entry? k = if k = n then (s.cue.entry? k).map completeEntry else s.cue.entry? k

theorem readied_handed (hx : Stands s x) (ht : x.cue.triggers = triggers) (hf : s.firesNoPatch n c) :
    Readied n triggers s (handed n c x) := by
  obtain ⟨k, hk⟩ := handed_frame n c x
  have clicks := handed_clicks (hx.firesNoPatch hf)
  have entry := handed_entry n c x
  have frame := hx.frame
  have runs : ∀ k : CueNumber, x.cue.entry? k = s.cue.entry? k := fun k => by rw [frame]; rfl
  refine ⟨?_, ?_, ?_, ?_, fun chair => ?_, fun k => ?_⟩
  · rw [hk, frame]; rfl
  · rw [hk]; exact ht
  · rw [hk]
    exact (hx.firesNoPatch hf).isOpen
  · rw [hk, frame]; rfl
  · rw [clicks, show x.clicks[chair] = s.clicks[chair] by rw [frame]]
  · rw [entry, runs]

theorem Readied.runState (hh : Readied n triggers s h) (ho : s.cue.isOpen = true) {k : CueNumber} (hk : k ≠ n) :
    h.runState k = s.runState k :=
  runState_congr (hh.isOpen.trans ho.symm) ((hh.entry k).trans (if_neg hk))

theorem Readied.runState_self (hh : Readied n triggers s h) (he : (s.cue.entry? n).isSome = true) :
    h.runState n = .complete := by
  obtain ⟨e, he⟩ := Option.isSome_iff_exists.1 he
  have entry := hh.entry n
  rw [if_pos rfl, he] at entry
  exact runState_of_entry hh.isOpen entry

/-! ## Steps of the clock in a fire -/

theorem ClockStep.of_clock (k : Clock) (p : Port) : ClockStep n h { h with clock := k, port := p } :=
  ⟨rfl, rfl, rfl, rfl, fun _ => rfl⟩

theorem ClockStep.trans (a : ClockStep n s t) (b : ClockStep n t u) : ClockStep n s u :=
  ⟨b.outside.trans a.outside, b.patch.trans a.patch, b.entry.trans a.entry, b.completion.trans a.completion,
    fun d => (b.enables d).trans (a.enables d)⟩

/-- From `u`, that the clock left, to `t` the fire has closed: what is shown of it, the standby's move and the guard. -/
structure Closed (n : CueNumber) (c : Cue) (u t : State) : Prop where
  frame : ∃ runs standby held timers guard shown owed, t = { u with
    cue := { u.cue with
      runs := runs, standby := standby, held := held, timers := timers, guard := guard, lastFired := some n }
    overlay := { u.overlay with lastCue := some (n, c.text), standby := shown }
    port := { u.port with flags := u.port.flags ||| EventFlag.cueFired.bit, owed := owed } }
  passed : ∀ k : CueNumber, u.runState k = .passed → t.runState k = .passed

theorem closed_firedFrom (cause : FireCause) (n : CueNumber) (c : Cue) (u : State) (owed : Option Answer) :
    Closed n c u { firedFrom cause n c u with port := { (firedFrom cause n c u).port with owed := owed } } := by
  obtain ⟨k, o, hk⟩ := closeFire_around cause n c u
  refine ⟨⟨k.runs, k.standby, k.held, k.timers, k.guard, o, owed, ?_⟩, fun m hm => ?_⟩
  · unfold firedFrom
    rw [hk]
    rfl
  · have notBy : m ∉ passedBy n u := fun h => by
      obtain ⟨-, -, -, -, -, hr⟩ := mem_passedBy.1 h
      rcases hr with hr | hr <;> rw [hm] at hr <;> cases hr
    have notNext : u.firstGoAfter (some n) ≠ some m := fun h => by
      have pending := firstGoAfter_mem h
      obtain ⟨d, hd, rfl⟩ := List.mem_map.1 pending
      have := (List.mem_filter.1 hd).2
      rw [Bool.and_eq_true, decide_eq_true_eq, hm] at this
      cases this.2
    have isOpen : (closeFire cause n c u).cue.isOpen = u.cue.isOpen := by rw [hk]
    exact (runState_congr isOpen (closeFire_entry cause c notBy notNext)).trans hm

/-- A command fires a cue that hands no patch and announces no beat that is reached: the clock takes its part in the state
that the fire has come to, and the fire closes (R32, R34). -/
theorem exec_fires (hr : s.resetHeld = false) (hi : s.firesBy i n c) (hf : s.firesNoPatch n c)
    (hnext : ∀ d : Cue, s.cueAfter n = some d → d.isFollow = false)
    (hstep : ∀ h : State, Readied n (s.otherTriggers i) s h →
      (clockPart c h).2 = [] ∧ ClockStep n h (clockPart c h).1) :
    ∃ h t : State, Readied n (s.otherTriggers i) s h ∧ exec i s = .next t ∧ s.fired t n c ∧
      Closed n c (clockPart c h).1 t := by
  obtain ⟨x, cause, owed, hx, htriggers, -, -, hexec⟩ := exec_firesBy hr hi hf
  have ready := readied_handed hx htriggers hf
  obtain ⟨none, step⟩ := hstep _ ready
  have next : ∀ d : Cue, x.cueAfter n = some d → d.isFollow = false := by
    rw [hx.frame]
    exact hnext
  have fires := fire_noPatch (hx.firesNoPatch hf) none next step cause
  rw [fires] at hexec
  exact ⟨_, _, ready, hexec, hx.fired (fired_of_step (hx.firesNoPatch hf) step cause) _, closed_firedFrom ..⟩

/-! ## The vamp action (R67, R69) -/

theorem vampApplies_iff {first last : Nat} : s.vampApplies first last = true ↔ s.clock.mayVamp s.book first last := by
  unfold State.vampApplies Clock.mayVamp
  rw [Bool.and_eq_true]
  refine and_congr ?_ ?_
  · cases s.clock.state <;> simp
  · cases s.clock.pos with
    | none => simp
    | some pos =>
      cases hr : s.book.song? pos.song with
      | none => simp [hr]
      | some r => cases s.clock.next <;> simp [hr, and_assoc]

/-- The flag of a change of the clock's state (R51). -/
def clockFlag (k k' : Clock) : BitVec 10 := if k'.state = k.state then 0#10 else EventFlag.clockChange.bit

/-- The region that a VAMP sets (R67). -/
def vampRegion (first last : Nat) (k : Clock) : Vamp :=
  { first := first, last := last, pass := 1, mark := k.pos.any fun p => decide (p.bar = last), exit := none }

/-- A step that writes the clock alone, and flags its change. -/
def ClockOnly (s t : State) : Prop :=
  t = { s with clock := t.clock, port := { s.port with flags := s.port.flags ||| clockFlag s.clock t.clock } }

theorem clockOnly_still {k : Clock} (h : k.state = s.clock.state) : ClockOnly s { s with clock := k } := by
  unfold ClockOnly clockFlag
  rw [if_pos h, BitVec.or_zero]

theorem vampAction_applies {first last : Nat} (h : s.clock.mayVamp s.book first last) :
    ClockOnly s (vampAction first last s) ∧ (vampAction first last s).clock = { s.clock with
      state := if s.clock.state = .playing then .vamping else s.clock.state
      vamp := some (vampRegion first last s.clock) } := by
  have acts : vampAction first last s = if s.clock.state = .playing then
      setClockState .vamping { s with clock := { s.clock with vamp := some (vampRegion first last s.clock) } }
      else { s with clock := { s.clock with vamp := some (vampRegion first last s.clock) } } :=
    if_pos (vampApplies_iff.2 h)
  by_cases hp : s.clock.state = .playing
  · rw [acts, if_pos hp, if_pos hp, setClockState_runs (by decide) (by decide) (by show s.clock.state ≠ _; rw [hp]; simp)]
    refine ⟨?_, rfl⟩
    unfold ClockOnly clockFlag
    rw [if_neg (by show ClockState.vamping ≠ _; rw [hp]; simp)]
    rfl
  · rw [acts, if_neg hp, if_neg hp]
    exact ⟨clockOnly_still rfl, rfl⟩

theorem vampAction_dropped {first last : Nat} (h : ¬s.clock.mayVamp s.book first last) : vampAction first last s = s :=
  if_neg fun ha => h (vampApplies_iff.1 ha)

theorem vampRelease_only (s : State) : ClockOnly s (vampRelease s) := by
  unfold vampRelease
  split
  · exact clockOnly_still rfl
  · exact clockOnly_still rfl

/-- The vamp action writes the clock, and flags its change (R67, R69). -/
theorem handVamp_only (c : Cue) (s : State) : ClockOnly s (handVamp c s) := by
  unfold handVamp
  split
  · exact clockOnly_still rfl
  next first last _ =>
    by_cases h : s.clock.mayVamp s.book first last
    · exact (vampAction_applies h).1
    · rw [vampAction_dropped h]
      exact clockOnly_still rfl
  · exact vampRelease_only s

theorem handVamp_takes (c : Cue) (s : State) : s.clock.takesVamp s.book c.vamp (handVamp c s).clock := by
  unfold handVamp
  refine ⟨fun h => by rw [h], fun first last h => ?_, fun h => ?_⟩
  · rw [h]
    exact ⟨fun may => (vampAction_applies may).2, fun not => congrArg State.clock (vampAction_dropped not)⟩
  · rw [h]
    refine ⟨fun w hs hw hx => ?_, fun not => ?_⟩
    · exact congrArg State.clock (vampRelease_sets hs hw hx)
    · have dropped : vampRelease s = s := if_neg fun ha => by
        obtain ⟨hs, w, hw, hx⟩ := releasable_iff.1 ha
        rcases not with ⟨h1, h2⟩ | hn
        · exact hs.elim h1 h2
        · exact hn w hw hx
      exact congrArg State.clock dropped

/-! ## The tempo actions that write the clock alone (R60, R66, R70) -/

/-- The clock after HOLD (R70). -/
def holdSet (k : Clock) : Clock :=
  { k with holdDue :=
      k.holdDue || decide (k.state = .playing) || decide (k.state = .vamping) || decide (k.state = .counting) }

theorem holdAction_eq (s : State) : holdAction s = { s with clock := holdSet s.clock } := by
  have still : (s.clock.state = .parked ∨ s.clock.state = .held ∨ s.clock.state = .frozen) → holdSet s.clock = s.clock := by
    intro h
    have due : (s.clock.holdDue || decide (s.clock.state = .playing) || decide (s.clock.state = .vamping) ||
        decide (s.clock.state = .counting)) = s.clock.holdDue := by rcases h with h | h | h <;> simp [h]
    unfold holdSet
    rw [due]
  have sets : (s.clock.state = .playing ∨ s.clock.state = .vamping ∨ s.clock.state = .counting) →
      holdSet s.clock = { s.clock with holdDue := true } := by
    intro h
    have due : (s.clock.holdDue || decide (s.clock.state = .playing) || decide (s.clock.state = .vamping) ||
        decide (s.clock.state = .counting)) = true := by rcases h with h | h | h <;> simp [h]
    unfold holdSet
    rw [due]
  unfold holdAction
  split
  next h => rw [sets (.inl h)]
  next h => rw [sets (.inr (.inl h))]
  next h => rw [sets (.inr (.inr h))]
  next h => rw [still (.inl h)]
  next h => rw [still (.inr (.inl h))]
  next h => rw [still (.inr (.inr h))]

/-- The clock after SET TEMPO (R60). -/
def tempoSet (value : Nat) (k : Clock) : Clock :=
  if k.state = .parked ∨ k.state = .frozen then k
  else { k with override := some (clampNat 2000 30000 value), adjust := none, tapOnset := none, taps := [] }

theorem setTempoAction_eq (value : Nat) (s : State) :
    setTempoAction value s = { s with clock := tempoSet value s.clock } := by
  unfold setTempoAction tempoSet
  split
  next h => rw [if_neg (by simp [h])]; rfl
  next h => rw [if_neg (by simp [h])]; rfl
  next h => rw [if_neg (by simp [h])]; rfl
  next h => rw [if_neg (by simp [h])]; rfl
  next h => rw [if_pos (.inl h)]
  next h => rw [if_pos (.inr h)]

theorem parkAction_idle (h : s.clock.state = .parked ∨ s.clock.state = .frozen ∨ s.clock.state = .counting) :
    parkAction s = s := by
  unfold parkAction
  rcases h with h | h | h <;> rw [h]

theorem parkAction_parks (h : s.clock.state = .playing ∨ s.clock.state = .vamping ∨ s.clock.state = .held) :
    parkAction s = parkClock s := by
  unfold parkAction
  rcases h with h | h | h <;> rw [h]

/-- The clock parks in a fire (R42, R53): the cue that fires is COMPLETE and is not passed. -/
theorem clockStep_park (hn : s.runState n = .complete) (h : s.clock.state ≠ .parked) : ClockStep n s (parkClock s) := by
  obtain ⟨runs, held, timers, standby, frame⟩ := parkClock_frame h
  refine ⟨?_, ?_, ?_, ?_, fun d => ?_⟩
  · rw [frame]; rfl
  · rw [frame]
  · rw [parkClock_entry h, if_neg fun hm => ?_]
    rw [pending_of_mem_leftBars hm] at hn
    cases hn
  · rw [frame]
  · rw [frame]
    exact (settleClicks_clicks s d).2.2.2.1

/-! ## A fire that acts on the clock -/

theorem Readied.clock (hh : Readied n triggers s h) : h.clock = s.clock := by rw [hh.frame]
theorem Readied.book (hh : Readied n triggers s h) : h.book = s.book := by rw [hh.frame]

/-- The clock as the tempo action of a cue leaves it, where it does not park it. -/
def tempoClock (c : Cue) (k : Clock) : Clock :=
  match c.tempo with
  | some .hold => holdSet k
  | some (.setTempo v) => tempoSet v k
  | _ => k

theorem tempoClock_state (c : Cue) (k : Clock) : (tempoClock c k).state = k.state := by
  unfold tempoClock tempoSet
  split
  · rfl
  · split <;> rfl
  · rfl

/-- A HOLD, a SET TEMPO, a PARK that is dropped, or no tempo action writes the clock alone. -/
theorem handTempo_writes (ht : c.tempo = none ∨ c.tempo = some .hold ∨ (∃ v : Nat, c.tempo = some (.setTempo v)) ∨
      c.tempo = some .park)
    (hp : c.tempo ≠ some .park ∨ s.clock.state = .parked ∨ s.clock.state = .frozen ∨ s.clock.state = .counting) :
    handTempo c s = ({ s with clock := tempoClock c s.clock }, []) := by
  unfold handTempo tempoClock
  rcases ht with ht | ht | ⟨v, ht⟩ | ht
  · rw [ht]
  · rw [ht, holdAction_eq]
  · rw [ht]
    exact congrArg (·, []) (setTempoAction_eq v s)
  · rw [ht]
    rcases hp with hp | hp
    · exact absurd ht hp
    · rw [parkAction_idle hp]

theorem handTempo_parks (ht : c.tempo = some .park)
    (hp : s.clock.state = .playing ∨ s.clock.state = .vamping ∨ s.clock.state = .held) :
    handTempo c s = (parkClock s, []) := by
  unfold handTempo
  rw [ht, parkAction_parks hp]

theorem clockPart_writes {k : Clock} (written : handTempo c s = ({ s with clock := k }, []))
    (hk : k.state = s.clock.state) : ClockOnly s (clockPart c s).1 ∧ (clockPart c s).2 = [] ∧
      k.takesVamp s.book c.vamp (clockPart c s).1.clock := by
  have only := handVamp_only c { s with clock := k }
  have takes := handVamp_takes c { s with clock := k }
  unfold clockPart
  rw [written]
  refine ⟨?_, rfl, takes⟩
  unfold ClockOnly clockFlag at only ⊢
  rw [← hk]
  exact only

theorem Closed.flags (hc : Closed n c u t) : t.port.flags = u.port.flags ||| EventFlag.cueFired.bit := by
  obtain ⟨_, _, _, _, _, _, _, h⟩ := hc.frame
  rw [h]

theorem Closed.clock (hc : Closed n c u t) : t.clock = u.clock := by
  obtain ⟨_, _, _, _, _, _, _, h⟩ := hc.frame
  rw [h]

theorem Closed.heldTriggers (hc : Closed n c u t) : t.cue.triggers = u.cue.triggers := by
  obtain ⟨_, _, _, _, _, _, _, h⟩ := hc.frame
  rw [h]

theorem Closed.due (hc : Closed n c u t) : t.due = u.due := by
  obtain ⟨_, _, _, _, _, _, _, h⟩ := hc.frame
  rw [h]

theorem Closed.links (hc : Closed n c u t) : t.links = u.links := by
  obtain ⟨_, _, _, _, _, _, _, h⟩ := hc.frame
  rw [h]

theorem Closed.clicks (hc : Closed n c u t) : t.clicks = u.clicks := by
  obtain ⟨_, _, _, _, _, _, _, h⟩ := hc.frame
  rw [h]

theorem Closed.shown (hc : Closed n c u t) : t.overlay.position = u.overlay.position ∧ t.overlay.beat = u.overlay.beat := by
  obtain ⟨_, _, _, _, _, _, _, h⟩ := hc.frame
  rw [h]
  exact ⟨rfl, rfl⟩

/-- The flags of a fire, its clock's change after the completion and before the fire. -/
theorem fired_flags (f g : BitVec 10) : f ||| EventFlag.cueDone.bit ||| g ||| EventFlag.cueFired.bit =
    f ||| EventFlag.cueDone.bit ||| EventFlag.cueFired.bit ||| g := by
  ac_rfl

theorem clockPart_parks (ht : c.tempo = some .park)
    (hp : s.clock.state = .playing ∨ s.clock.state = .vamping ∨ s.clock.state = .held) :
    clockPart c s = (handVamp c (parkClock s), []) := by
  unfold clockPart
  rw [handTempo_parks ht hp]

/-- A VAMP or VAMP EXIT is dropped by a clock that is PARKED (R67, R69). -/
theorem handVamp_parked (hs : s.clock.state = .parked) : handVamp c s = s := by
  have notMay : ∀ first last : Nat, ¬s.clock.mayVamp s.book first last := fun first last may => by
    rcases may.1 with h | h | h | h <;> rw [hs] at h <;> cases h
  unfold handVamp
  split
  · rfl
  · exact vampAction_dropped (notMay _ _)
  · exact if_neg fun ha => by
      rcases (releasable_iff.1 ha).1 with h | h <;> rw [hs] at h <;> cases h

theorem takesVamp_parked {k : Clock} {b : Book} (hs : k.state = .parked) : k.takesVamp b c.vamp k := by
  refine ⟨fun _ => rfl, fun first last _ => ⟨fun may => ?_, fun _ => rfl⟩, fun _ => ⟨fun w h => ?_, fun _ => rfl⟩⟩
  · rcases may.1 with h | h | h | h <;> rw [hs] at h <;> cases h
  · rcases h with h | h <;> rw [hs] at h <;> cases h

/-- A fire whose tempo action is dropped or writes the clock alone. -/
theorem fires_writes {k : Clock} (hr : s.resetHeld = false) (hi : s.firesBy i n c) (hf : s.firesNoPatch n c)
    (hnext : ∀ d : Cue, s.cueAfter n = some d → d.isFollow = false)
    (written : ∀ h : State, Readied n (s.otherTriggers i) s h → handTempo c h = ({ h with clock := k }, []))
    (hk : k.state = s.clock.state) :
    ∃ t : State, exec i s = .next t ∧ s.fired t n c ∧ k.takesVamp s.book c.vamp t.clock ∧
      t.due = s.due ∧ t.links = s.links ∧ t.cue.triggers = s.otherTriggers i ∧
      (∀ chair : Chair, t.clicks[chair] = { s.clicks[chair] with enable := t.clicks[chair].enable }) ∧
      t.port.flags = s.port.flags ||| EventFlag.cueDone.bit ||| EventFlag.cueFired.bit ||| clockFlag s.clock t.clock := by
  have part := fun (h : State) (ready : Readied n (s.otherTriggers i) s h) =>
    clockPart_writes (written h ready) (hk.trans (congrArg Clock.state ready.clock).symm)
  obtain ⟨h, t, ready, hexec, fired, closed⟩ := exec_fires hr hi hf hnext fun h ready => by
    obtain ⟨only, none, -⟩ := part h ready
    refine ⟨none, ?_⟩
    rw [only]
    exact .of_clock ..
  obtain ⟨only, -, takes⟩ := part h ready
  rw [ready.book, ← closed.clock] at takes
  have flags : (clockPart c h).1.port.flags = h.port.flags ||| clockFlag h.clock (clockPart c h).1.clock :=
    congrArg (fun x : State => x.port.flags) only
  refine ⟨t, hexec, fired, takes, ?_, ?_, ?_, fun chair => ?_, ?_⟩
  · rw [closed.due, only, ready.frame]
  · rw [closed.links, only, ready.frame]
  · rw [closed.heldTriggers, only]
    exact ready.triggers
  · rw [closed.clicks, only]
    exact ready.clicks chair
  · rw [closed.flags, flags, ready.flags, fired_flags, ← closed.clock, ready.clock]

/-- A fire whose PARK parks the clock (R42, R53, R66). -/
theorem fires_parks (hr : s.resetHeld = false) (hi : s.firesBy i n c) (hf : s.firesNoPatch n c)
    (hnext : ∀ d : Cue, s.cueAfter n = some d → d.isFollow = false) (ht : c.tempo = some .park)
    (hp : s.clock.state = .playing ∨ s.clock.state = .vamping ∨ s.clock.state = .held) :
    ∃ t : State, exec i s = .next t ∧ s.fired t n c ∧ t.clock = { Cleared s.clock with state := .parked } ∧
      s.handsOver t s.abandons [] ∧ t.cue.triggers = [] ∧ t.overlay.position = none ∧ t.overlay.beat = none ∧
      t.port.flags = s.port.flags ||| EventFlag.cueDone.bit ||| EventFlag.cueFired.bit ||| EventFlag.clockChange.bit ∧
      (∀ chair : Chair, t.clicks[chair].trim = s.book.chairs[chair].trim ∧
        t.clicks[chair].basis = s.clicks[chair].filtered.getD s.clicks[chair].basis) ∧
      ∀ pos : SongPos, s.clock.pos = some pos → ∀ d ∈ s.book.cues, d.isBar = true → d.song = some pos.song → d.number ≠ n →
        (s.cue.entry? d.number).isSome = true → s.runState d.number = .pending → t.runState d.number = .passed := by
  have part : ∀ h : State, Readied n (s.otherTriggers i) s h → h.clock.state ≠ .parked ∧ clockPart c h = (parkClock h, []) := by
    intro h ready
    have moving : h.clock.state = .playing ∨ h.clock.state = .vamping ∨ h.clock.state = .held := by rw [ready.clock]; exact hp
    have notParked : h.clock.state ≠ .parked := by rcases moving with hm | hm | hm <;> rw [hm] <;> simp
    obtain ⟨_, _, _, _, frame⟩ := parkClock_frame notParked
    rw [clockPart_parks ht moving, handVamp_parked (by rw [frame])]
    exact ⟨notParked, rfl⟩
  obtain ⟨h, t, ready, hexec, fired, closed⟩ := exec_fires hr hi hf hnext fun h ready => by
    obtain ⟨notParked, parks⟩ := part h ready
    rw [parks]
    exact ⟨rfl, clockStep_park (ready.runState_self hf.entry) notParked⟩
  obtain ⟨notParked, parks⟩ := part h ready
  rw [parks] at closed
  obtain ⟨runs, held, timers, standby, frame⟩ := parkClock_frame notParked
  refine ⟨t, hexec, fired, ?_, handsOver_none ?_ ?_, ?_, ?_, ?_, ?_, fun chair => ?_, fun pos hpos d hd hbar hsong hne he hrun => ?_⟩
  · rw [closed.clock, frame, ← ready.clock]
  · rw [closed.due, frame, ready.frame]; rfl
  · rw [closed.links, frame, ready.frame]; rfl
  · rw [closed.heldTriggers, frame]
  · rw [closed.shown.1, frame]
  · rw [closed.shown.2, frame]
  · rw [closed.flags, frame, ready.flags, fired_flags]
  · obtain ⟨trim, basis, -⟩ := settleClicks_clicks h chair
    rw [closed.clicks, frame]
    refine ⟨trim.trans (by rw [ready.book]), basis.trans ?_⟩
    rw [ready.clicks chair]
    rfl
  · obtain ⟨e, he⟩ := Option.isSome_iff_exists.1 he
    have bars : leftBars h = barsOf pos.song h := by unfold leftBars; rw [ready.clock, hpos]
    have member : d.number ∈ leftBars h := by
      rw [bars, mem_barsOf]
      exact ⟨d, by rw [ready.book]; exact hd, hbar, hsong, (ready.runState hf.isOpen hne).trans hrun, rfl⟩
    have entry := parkClock_entry notParked d.number
    rw [if_pos member, ready.entry, if_neg hne, he] at entry
    exact closed.passed d.number (runState_of_entry (by rw [frame]; exact ready.isOpen) entry)

/-- Settles O30: the tempo action is dropped, writes the clock or parks it, and the vamp action follows. -/
theorem firedCueActsOnTheClock : Obligations.FiredCueActsOnTheClock := by
  intro i n c s hr hi hf hnext ht
  by_cases hp : c.tempo ≠ some .park ∨ s.clock.state = .parked ∨ s.clock.state = .frozen ∨ s.clock.state = .counting
  · obtain ⟨t, hexec, fired, takes, due, links, triggers, clicks, flags⟩ :=
      fires_writes (k := tempoClock c s.clock) hr hi hf hnext (fun h ready => by
        rw [← ready.clock]
        exact handTempo_writes ht (by rw [ready.clock]; exact hp)) (tempoClock_state ..)
    refine ⟨t, tempoClock c s.clock, hexec, fired, takes, fun h => ?_, fun h => ?_, fun v h => ?_,
      fun _ => ⟨fun h => ?_, due, links, triggers, clicks, flags⟩, fun h hmoving => ?_⟩
    · simp [tempoClock, h]
    · simp [tempoClock, h, holdSet]
    · simp [tempoClock, h, tempoSet]
    · simp [tempoClock, h]
    · rcases hp with hp | hp
      · exact absurd h hp
      · rcases hp with hp | hp | hp <;> rw [hp] at hmoving <;> simp at hmoving
  · obtain ⟨hpark, hstate⟩ := not_or.1 hp
    have ht : c.tempo = some .park := not_not.1 hpark
    have moving : s.clock.state = .playing ∨ s.clock.state = .vamping ∨ s.clock.state = .held := by
      cases hs : s.clock.state <;> simp [hs] at hstate ⊢
    obtain ⟨t, hexec, fired, clock, hands, triggers, position, beat, flags, clicks, passed⟩ :=
      fires_parks hr hi hf hnext ht moving
    refine ⟨t, { Cleared s.clock with state := .parked }, hexec, fired, ?_, fun h => ?_, fun h => ?_, fun v h => ?_,
      fun h => absurd h hp, fun _ _ => ⟨rfl, hands, triggers, position, beat, flags, clicks, passed⟩⟩
    · rw [clock]
      exact takesVamp_parked rfl
    · rw [ht] at h; cases h
    · rw [ht] at h; cases h
    · rw [ht] at h; cases h

end Sys2Proof.Proofs

/-! PROOFS. A fired cue's START and RELEASE (R34, R40, R42, R65, R71, R77, R78). -/

namespace Sys2Proof.Proofs

open Sys2Proof.Machine Sys2Proof.Laws

variable {tempo : Nat} {s t u x y h : State} {n m : CueNumber} {c d : Cue} {i : Instr} {triggers : List BarTrigger} {song bar : Nat}
  {sub : SubTick} {tick : Tick} {pos first : SongPos} {v : Option Vamp} {onward : Option SongPos} {e : BarTrigger}

/-! ## A fire whose tempo action fixes a beat -/

theorem clockFlag_absorbed (f : BitVec 10) (k k' : Clock) :
    f ||| EventFlag.clockChange.bit ||| clockFlag k k' = f ||| EventFlag.clockChange.bit := by
  unfold clockFlag
  split
  · exact BitVec.or_zero
  · rw [BitVec.or_assoc, BitVec.or_self]

theorem Closed.still (hc : Closed n c u t) : Hands u t [] := by
  obtain ⟨_, _, _, _, _, _, _, h⟩ := hc.frame
  rw [h]
  exact .of_still ⟨rfl, rfl, Iff.rfl, rfl, rfl, fun _ => rfl⟩ rfl rfl

/-- From `y`, that the tempo action left, to `t` the vamp action is taken and the fire closes. -/
structure Finished (n : CueNumber) (c : Cue) (y t : State) : Prop where
  vamp : y.clock.takesVamp y.book c.vamp t.clock
  triggers : t.cue.triggers = y.cue.triggers
  flags : t.port.flags = y.port.flags ||| clockFlag y.clock t.clock ||| EventFlag.cueFired.bit
  passed : ∀ k : CueNumber, y.runState k = .passed → t.runState k = .passed
  hands : Hands y t []

/-- A command fires a cue whose tempo action leaves `y` and no trigger to fire at once. -/
theorem exec_finishes {after : State → State} (hr : s.resetHeld = false) (hi : s.firesBy i n c) (hf : s.firesNoPatch n c)
    (hnext : ∀ d : Cue, s.cueAfter n = some d → d.isFollow = false)
    (acts : ∀ h : State, Readied n (s.otherTriggers i) s h → handTempo c h = (after h, []) ∧ ClockStep n h (after h)) :
    ∃ h t : State, Readied n (s.otherTriggers i) s h ∧ exec i s = .next t ∧ s.fired t n c ∧ Finished n c (after h) t := by
  have part : ∀ h : State, Readied n (s.otherTriggers i) s h → clockPart c h = (handVamp c (after h), []) := by
    intro h ready
    unfold clockPart
    rw [(acts h ready).1]
  obtain ⟨h, t, ready, hexec, fired, closed⟩ := exec_fires hr hi hf hnext fun h ready => by
    rw [part h ready]
    refine ⟨rfl, (acts h ready).2.trans ?_⟩
    rw [handVamp_only c (after h)]
    exact .of_clock ..
  rw [part h ready] at closed
  have only := handVamp_only c (after h)
  have flags : (handVamp c (after h)).port.flags = (after h).port.flags ||| clockFlag (after h).clock (handVamp c (after h)).clock :=
    congrArg (fun x : State => x.port.flags) only
  have still : Hands (after h) (handVamp c (after h)) [] := by
    rw [only]
    exact .of_still ⟨rfl, rfl, Iff.rfl, rfl, rfl, fun _ => rfl⟩ rfl rfl
  refine ⟨h, t, ready, hexec, fired, ?_, ?_, ?_, fun k hk => ?_, still.trans closed.still⟩
  · rw [closed.clock]
    exact handVamp_takes c (after h)
  · rw [closed.heldTriggers, only]
  · rw [closed.flags, flags, closed.clock]
  · refine closed.passed k ?_
    rw [only]
    exact hk

/-! ## Sub-ticks and ticks (R49) -/

theorem tickOfSub_subOfTick (t : Tick) : tickOfSub (subOfTick t) = t := by
  refine BitVec.eq_of_toNat_eq ?_
  have small := t.isLt
  simp only [tickOfSub, subOfTick, BitVec.toNat_setWidth, BitVec.toNat_ushiftRight, BitVec.toNat_shiftLeft,
    Nat.shiftLeft_eq, Nat.shiftRight_eq_div_pow]
  omega

/-! ## What is announced after a departure (R40, R42) -/

/-- The state as START finds it: a song under way is left (R65). -/
def departed (s : State) : State := if s.clock.state = .parked then s else leaveSong s

/-- The cues that a START passes (R42). -/
def departedBars (s : State) : List CueNumber := if s.clock.state = .parked then [] else leftBars s

theorem mem_departedBars : m ∈ departedBars s ↔ ∃ left : Nat, s.currentSong = some left ∧ m ∈ barsOf left s := by
  unfold departedBars State.currentSong leftBars
  split
  · simp
  · cases s.clock.pos <;> simp

theorem departed_entry (s : State) (k : CueNumber) : (departed s).cue.entry? k =
    if k ∈ departedBars s then (s.cue.entry? k).map (newState .passed) else s.cue.entry? k := by
  unfold departed departedBars
  split
  · simp
  · exact leaveSong_entry s k

/-- Whose clicks a START withdraws (R65, R78). -/
def departing (s : State) (k : Click) : Bool := decide (s.clock.state ≠ .parked) && s.abandons k

theorem departed_withdrawn (s : State) : Withdrawn s (departed s) (departing s) := by
  unfold departed
  by_cases h : s.clock.state = .parked
  · have none : departing s = fun _ => false := funext fun k => by simp [departing, h]
    rw [if_pos h, none]
    exact .of_still rfl rfl
  · have all : departing s = s.abandons := funext fun k => by simp [departing, h]
    obtain ⟨_, _, _, _, frame⟩ := leaveSong_frame s
    rw [if_neg h, all, frame]
    exact ⟨(withdrawn_leftBeats s).due, (withdrawn_leftBeats s).links⟩

/-- The clock as START sets it, before its first beat is fixed (R65). -/
def startClock (first : SongPos) (sub : SubTick) (tempo : Nat) (k : Clock) : Clock :=
  { k.dropFollow with
    state := .playing, pos := some first, p := sub, tempo := tempo, vamp := none, holdDue := false, ending := none
    countIn := none }

theorem departed_frame (s : State) : ∃ runs held timers standby, departed s = { s with
    due := (departed s).due
    links := (departed s).links
    clock := (departed s).clock
    cue := { s.cue with
      triggers := if s.clock.state = .parked then s.cue.triggers else [], runs := runs, held := held, timers := timers }
    overlay := { s.overlay with standby := standby } } := by
  unfold departed
  by_cases h : s.clock.state = .parked
  · refine ⟨s.cue.runs, s.cue.held, s.cue.timers, s.overlay.standby, ?_⟩
    rw [if_pos h, if_pos h]
  · obtain ⟨runs, held, timers, standby, frame⟩ := leaveSong_frame s
    refine ⟨runs, held, timers, standby, ?_⟩
    rw [if_neg h, if_neg h, frame]
    rfl

theorem startClock_departed (s : State) (first : SongPos) (sub : SubTick) (tempo : Nat) (next : Option NextBeat) :
    { startClock first sub tempo (departed s).clock with next := next } =
      { startClock first sub tempo s.clock with next := next } := by
  unfold departed
  split
  · rfl
  · obtain ⟨_, _, _, _, frame⟩ := leaveSong_frame s
    rw [frame]
    rfl

/-- The song as it starts, before its first beat is fixed (R65). -/
def begun (first : SongPos) (sub : SubTick) (tempo : Nat) (s : State) : State :=
  { departed s with
    clock := startClock first sub tempo (departed s).clock
    port := { (departed s).port with flags := (departed s).port.flags ||| EventFlag.clockChange.bit } }

theorem flag_playing (s : State) : flag .clockChange (setClockState .playing s) = { s with
    clock := { s.clock with state := .playing }
    port := { s.port with flags := s.port.flags ||| EventFlag.clockChange.bit } } := by
  by_cases h : s.clock.state = .playing
  · rw [show setClockState .playing s = s from if_pos h, ← h]
    rfl
  · rw [setClockState_runs (by decide) (by decide) h]
    unfold flag
    dsimp only
    rw [BitVec.or_assoc, BitVec.or_self]

/-- A START fixes the first beat, and with a lead produces it (R65). -/
theorem startSong_starts (song bar lead : Nat) (hf : s.clock.state ≠ .frozen) (hc : s.clock.state ≠ .counting)
    (hfirst : first = { song := song, bar := bar, beat := 1 }) (htempo : tempo = s.book.mappedTempo none first)
    (hsub : sub = subOfTick (if lead = 0 then s.time.tick + 480#32 else s.time.tick)) :
    startSong song bar lead s =
      let fixed := fixNext first sub tempo (begun first sub tempo s)
      if lead = 0 then fixed
      else ((produceBeat { pos := first, sub := sub } fixed.1).1,
        fixed.2 ++ (produceBeat { pos := first, sub := sub } fixed.1).2) := by
  obtain ⟨_, _, _, _, frame⟩ := departed_frame s
  have moves : startSong song bar lead s =
      let s := departed s
      let pos : SongPos := { song := song, bar := bar, beat := 1 }
      let sub := subOfTick (if lead = 0 then s.now + 480#32 else s.now)
      let tempo := s.book.mappedTempo none pos
      let fixed := fixNext pos sub tempo (flag .clockChange (setClockState .playing { s with clock := { s.clock.dropFollow with
        pos := some pos, p := sub, tempo := tempo, vamp := none, holdDue := false, ending := none, countIn := none } }))
      if lead = 0 then fixed
      else ((produceBeat { pos := pos, sub := sub } fixed.1).1, fixed.2 ++ (produceBeat { pos := pos, sub := sub } fixed.1).2) := by
    unfold startSong departed
    split
    next h => exact absurd h hf
    next h => exact absurd h hc
    all_goals rfl
  have now : (departed s).now = s.time.tick := by rw [frame]; rfl
  have mapped : (departed s).book.mappedTempo none first = tempo := by rw [htempo, frame]
  rw [moves]
  dsimp only
  rw [now, ← hfirst, ← hsub, mapped, flag_playing]
  rfl

theorem departed_runState (ho : s.cue.isOpen = true) (hp : s.book.cues.Pairwise fun x y => x.number ≠ y.number)
    (hd : d ∈ s.book.cues) (he : (s.cue.entry? d.number).isSome = true) : (departed s).runState d.number =
      if d.isBar = true ∧ (∃ left : Nat, s.currentSong = some left ∧ d.song = some left) ∧ s.runState d.number = .pending then
        .passed else s.runState d.number := by
  obtain ⟨e, he⟩ := Option.isSome_iff_exists.1 he
  obtain ⟨_, _, _, _, frame⟩ := departed_frame s
  have isOpen : (departed s).cue.isOpen = true := by rw [frame]; exact ho
  have member : d.number ∈ departedBars s ↔
      d.isBar = true ∧ (∃ left : Nat, s.currentSong = some left ∧ d.song = some left) ∧ s.runState d.number = .pending := by
    rw [mem_departedBars]
    constructor
    · rintro ⟨left, hleft, hm⟩
      obtain ⟨d', hd', hb, hsong, hrun, hnum⟩ := mem_barsOf.1 hm
      cases List.inj_on_of_nodup_map (List.pairwise_map.2 hp) hd' hd hnum
      exact ⟨hb, ⟨left, hleft, hsong⟩, hrun⟩
    · rintro ⟨hb, ⟨left, hleft, hsong⟩, hrun⟩
      exact ⟨left, hleft, mem_barsOf.2 ⟨d, hd, hb, hsong, hrun, rfl⟩⟩
  have entry := departed_entry s d.number
  rw [he] at entry
  by_cases hm : d.number ∈ departedBars s
  · rw [if_pos hm] at entry
    rw [if_pos (member.1 hm)]
    exact runState_of_entry isOpen entry
  · rw [if_neg hm] at entry
    rw [if_neg fun h => hm (member.2 h), runState_of_entry isOpen entry, runState_of_entry ho he]

/-- From `h` to `y` a START has taken its course (R65): the clock is `k`, `l` the clicks handed over as the new song began, and
`new` holds of the triggers made. -/
structure Started (n : CueNumber) (h y : State) (k : Clock) (l : List Click) (new : BarTrigger → Prop) : Prop where
  step : ClockStep n h y
  clock : y.clock = k
  flags : y.port.flags = h.port.flags ||| EventFlag.clockChange.bit
  hands : Hands (departed h) y l
  triggers : ∀ e : BarTrigger, e ∈ y.cue.triggers ↔ e ∈ (departed h).cue.triggers ∨ new e
  runs : ∀ m : CueNumber, y.runState m = (departed h).runState m

theorem clockStep_begun (hn : s.runState n = .complete) (first : SongPos) (sub : SubTick) (tempo : Nat)
    (next : Option NextBeat) (l : List BarTrigger) (due : List DueItem) (links : Vector Link 16) :
    ClockStep n s { begun first sub tempo s with
      clock := { (begun first sub tempo s).clock with next := next }
      cue := { (begun first sub tempo s).cue with triggers := l }, due := due, links := links } := by
  have still : (departed s).cue.entry? n = s.cue.entry? n := by
    rw [departed_entry, if_neg fun hm => ?_]
    obtain ⟨left, -, hm⟩ := mem_departedBars.1 hm
    obtain ⟨d, -, -, -, hr, hd⟩ := mem_barsOf.1 hm
    rw [hd, hn] at hr
    cases hr
  obtain ⟨_, _, _, _, frame⟩ := departed_frame s
  refine ⟨?_, ?_, ?_, ?_, fun d => ?_⟩
  · unfold begun
    rw [frame]; rfl
  · unfold begun
    rw [frame]
  · exact still
  · unfold begun
    rw [frame]
  · unfold begun
    rw [frame]

theorem startSong_ahead (song bar : Nat) (hf : s.clock.state ≠ .frozen) (hc : s.clock.state ≠ .counting)
    (hn : s.runState n = .complete) (ho : s.cue.isOpen = true)
    (hfirst : first = { song := song, bar := bar, beat := 1 }) (htempo : tempo = s.book.mappedTempo none first)
    (hsub : sub = subOfTick (s.time.tick + 480#32))
    (later : ∀ (d : Cue) (e : BarTrigger), (departed s).announces none first (tickOfSub sub) d e →
      tickReached s.time.tick e.tick = false) :
    ∃ y : State, startSong song bar 0 s = (y, []) ∧
      Started n s y { startClock first sub tempo s.clock with next := some { pos := first, sub := sub } }
        [songBeatClick first (tickOfSub sub) tempo]
        (fun e => ∃ d : Cue, (departed s).announces none first (tickOfSub sub) d e) := by
  obtain ⟨_, _, _, _, frame⟩ := departed_frame s
  have isOpen : (departed s).cue.isOpen = true := by rw [frame]; exact ho
  have now : (departed s).time = s.time := by rw [frame]
  obtain ⟨l, announced, mem⟩ := announced_of_open (s := departed s) (v := none) (tick := tickOfSub sub) (onward := some first)
    isOpen (fun pos d e hpos ha => by cases hpos; rw [now]; exact later d e ha)
  obtain ⟨due, links, fixed, hands⟩ := fixNext_announced (x := begun first sub tempo s) announced rfl rfl rfl rfl tempo
  have begins : Hands (departed s) (begun first sub tempo s) [] :=
    .of_still ⟨rfl, rfl, Iff.rfl, rfl, rfl, fun _ => rfl⟩ rfl rfl
  refine ⟨_, (startSong_starts song bar 0 hf hc hfirst htempo hsub).trans fixed, clockStep_begun hn .., ?_, ?_,
    begins.trans hands, fun e => ?_, fun m => rfl⟩
  · exact startClock_departed ..
  · show (departed s).port.flags ||| _ = _
    rw [frame]
  · exact (mem e).trans (by simp)

theorem announces_congr (hb : t.book = s.book) (hr : ∀ m : CueNumber, t.runState m = s.runState m) :
    t.announces v pos tick d e ↔ s.announces v pos tick d e := by
  constructor
  · rintro ⟨present, pending, firstPass, falls⟩
    rw [hb] at present falls
    exact ⟨present, (hr _).symm.trans pending, firstPass, falls⟩
  · rintro ⟨present, pending, firstPass, falls⟩
    rw [← hb] at present falls
    exact ⟨present, (hr _).trans pending, firstPass, falls⟩

theorem producing_again {b : NextBeat} (hp : x.clock.pos = some b.pos) (hv : x.clock.vamp = none) (tempo : Nat) :
    x.producing b tempo = { x.clock with pos := some b.pos, p := b.sub, next := none, tempo := tempo, vamp := none } := by
  unfold State.producing
  rw [hp, hv]
  simp

theorem timesBeat_again {b : NextBeat} (hp : x.clock.pos = some b.pos) (ha : x.clock.adjust = none)
    (htempo : tempo = x.book.mappedTempo x.clock.override b.pos)
    (hnext : sub = b.sub + BitVec.ofNat 40 ((73728000000 + tempo / 2) / tempo)) : x.timesBeat b tempo sub where
  crossing old hold hne := by
    rw [hp] at hold
    cases hold
    exact absurd rfl hne
  mapped _ _ := htempo
  adjusted _ f m span hf := by
    rw [ha] at hf
    cases hf
  interval := hnext

theorem startSong_leads {next : SubTick} (song bar : Nat) {lead : Nat} (hlead : lead ≠ 0) (hf : s.clock.state ≠ .frozen)
    (hc : s.clock.state ≠ .counting) (hn : s.runState n = .complete) (ho : s.cue.isOpen = true)
    (hfirst : first = { song := song, bar := bar, beat := 1 }) (htempo : tempo = s.book.mappedTempo none first)
    (hsub : sub = subOfTick s.time.tick) (hnext : next = sub + BitVec.ofNat 40 ((73728000000 + tempo / 2) / tempo))
    (follows : s.book.Follows first none onward none)
    (silent : ∀ (d : Cue) (e : BarTrigger), ¬(departed s).announces none first s.time.tick d e)
    (later : ∀ (pos : SongPos) (d : Cue) (e : BarTrigger), onward = some pos →
      (departed s).announces none pos (tickOfSub next) d e → tickReached s.time.tick e.tick = false) :
    ∃ y : State, startSong song bar lead s = (y, []) ∧
      Started n s y { startClock first sub tempo s.clock with
          next := onward.map fun pos => { pos := pos, sub := next }
          ending := if onward.isNone then some (tickOfSub next) else none }
        (songBeatClick first s.time.tick tempo :: s.book.clicksAfter { pos := first, sub := sub } tempo next onward)
        (fun e => ∃ (pos : SongPos) (d : Cue), onward = some pos ∧ (departed s).announces none pos (tickOfSub next) d e) := by
  obtain ⟨_, _, _, _, frame⟩ := departed_frame s
  have isOpen : (departed s).cue.isOpen = true := by rw [frame]; exact ho
  have now : (departed s).time = s.time := by rw [frame]
  have book : (departed s).book = s.book := by rw [frame]
  have tick : tickOfSub sub = s.time.tick := by rw [hsub, tickOfSub_subOfTick]
  obtain ⟨l, announced, mem⟩ := announced_of_open (s := departed s) (v := none) (tick := tickOfSub sub) (onward := some first)
    isOpen (fun pos d e hpos ha => by cases hpos; rw [tick] at ha; exact absurd ha (silent d e))
  obtain ⟨due, links, fixed, hands⟩ := fixNext_announced (x := begun first sub tempo s) announced rfl rfl rfl rfl tempo
  generalize hx : ({ begun first sub tempo s with
    clock := { (begun first sub tempo s).clock with next := some { pos := first, sub := sub } }
    cue := { (begun first sub tempo s).cue with triggers := l }, due := due, links := links } : State) = x at fixed hands
  have xbook : x.book = s.book := by rw [← hx]; exact book
  have xtime : x.time = s.time := by rw [← hx]; exact now
  have xruns : ∀ m : CueNumber, x.runState m = (departed s).runState m := fun m => by rw [← hx]; rfl
  have timed : x.timesBeat { pos := first, sub := sub } tempo next := by
    refine timesBeat_again ?_ ?_ ?_ hnext
    · rw [← hx]; rfl
    · rw [← hx]; rfl
    · rw [xbook, htempo, ← hx]; rfl
  have vamp : x.clock.vamp = none := by rw [← hx]; rfl
  have producing := producing_again (x := x) (b := { pos := first, sub := sub }) (by rw [← hx]; rfl) vamp tempo
  obtain ⟨l', announced', mem'⟩ := announced_of_open (s := x) (v := none) (tick := tickOfSub next) (onward := onward)
    (by rw [← hx]; exact isOpen) (fun pos d e hpos ha => by
      rw [xtime]
      exact later pos d e hpos ((announces_congr (xbook.trans book.symm) xruns).1 ha))
  obtain ⟨due', links', made, hands'⟩ := produceBeat_follows timed (by rw [← hx]; rfl)
    (by rw [producing, xbook]; exact follows) announced'
  have begins : Hands (departed s) (begun first sub tempo s) [] :=
    .of_still ⟨rfl, rfl, Iff.rfl, rfl, rfl, fun _ => rfl⟩ rfl rfl
  have starts := startSong_starts song bar lead hf hc hfirst htempo
    (show sub = subOfTick (if lead = 0 then s.time.tick + 480#32 else s.time.tick) by rw [if_neg hlead]; exact hsub)
  rw [fixed] at starts
  dsimp only at starts
  rw [if_neg hlead, made] at starts
  have stays : leaves x.clock none = false := by simp [leaves, vamp]
  refine ⟨_, starts, ?_, ?_, ?_, ?_, fun e => ?_, fun m => ?_⟩
  · refine ClockStep.trans (t := x) ?_ ⟨rfl, rfl, rfl, rfl, fun _ => rfl⟩
    rw [← hx]
    exact clockStep_begun hn ..
  · refine Eq.trans ?_ (congrArg (fun k : Clock => { k with ending := if onward.isNone then some (tickOfSub next) else none })
      (startClock_departed s first sub tempo (onward.map fun pos => { pos := pos, sub := next })))
    unfold beatProduced
    rw [producing, stays, ← hx]
    rfl
  · unfold beatProduced
    rw [stays, ← hx]
    show (departed s).port.flags ||| _ ||| _ = _
    rw [frame]
    simp
  · rw [← tick, ← xbook]
    exact (begins.trans hands).trans hands'
  · refine (mem' e).trans (or_congr ?_ (exists_congr fun pos => exists_congr fun d => and_congr_right fun _ =>
      announces_congr (xbook.trans book.symm) xruns))
    rw [← hx]
    refine (mem e).trans (or_iff_left ?_)
    rintro ⟨pos, d, hpos, ha⟩
    cases hpos
    rw [tick] at ha
    exact silent d e ha
  · exact xruns m

/-! ## A fire that starts a song (R34, R65) -/

theorem Readied.currentSong (hh : Readied n triggers s h) : h.currentSong = s.currentSong := by rw [hh.frame]; rfl

theorem Readied.withdrawn (hh : Readied n triggers s h) : Withdrawn s (departed h) (departing s) := by
  have gone : departing h = departing s := by rw [hh.frame]; rfl
  have due : h.due = s.due := by rw [hh.frame]
  have links : h.links = s.links := by rw [hh.frame]
  have left := departed_withdrawn h
  rw [gone] at left
  exact ⟨left.due.trans (by rw [due]), fun c => (left.links c).trans (by rw [links, due])⟩

/-- The run state of a cue as a START departs, in a fire of another cue or of itself (R42). -/
theorem Readied.departed_runState (hh : Readied n triggers s h) (hf : s.firesNoPatch n c)
    (hp : s.book.cues.Pairwise fun x y => x.number ≠ y.number)
    (he : ∀ d ∈ s.book.cues, (s.cue.entry? d.number).isSome = true) (hd : d ∈ s.book.cues) (hne : d.number ≠ n) :
    (departed h).runState d.number =
      if d.isBar = true ∧ (∃ left : Nat, s.currentSong = some left ∧ d.song = some left) ∧ s.runState d.number = .pending then
        .passed else s.runState d.number := by
  have entry : (h.cue.entry? d.number).isSome = true := by
    rw [hh.entry, if_neg hne]
    exact he d hd
  rw [Proofs.departed_runState hh.isOpen (by rw [hh.book]; exact hp) (by rw [hh.book]; exact hd) entry,
    hh.runState hf.isOpen hne, hh.currentSong]

theorem Readied.departed_self (hh : Readied n triggers s h) (hf : s.firesNoPatch n c) : (departed h).runState n = .complete := by
  have complete := hh.runState_self hf.entry
  obtain ⟨_, _, _, _, frame⟩ := departed_frame h
  refine (runState_congr (by rw [frame]) ?_).trans complete
  rw [departed_entry, if_neg fun hm => ?_]
  obtain ⟨left, -, hm⟩ := mem_departedBars.1 hm
  obtain ⟨d, -, -, -, hr, hd⟩ := mem_barsOf.1 hm
  rw [hd, complete] at hr
  cases hr

/-- What the new song announces is what the state before the fire would, but for the cue fired and for a song left by the
START itself, whose cues have passed (R40, R42). -/
theorem Readied.departed_announces (hh : Readied n triggers s h) (hf : s.firesNoPatch n c)
    (hp : s.book.cues.Pairwise fun x y => x.number ≠ y.number)
    (he : ∀ d ∈ s.book.cues, (s.cue.entry? d.number).isSome = true) (hsong : pos.song = song) :
    (departed h).announces none pos tick d e ↔
      d.number ≠ n ∧ s.currentSong ≠ some song ∧ s.announces none pos tick d e := by
  obtain ⟨_, _, _, _, frame⟩ := departed_frame h
  have book : (departed h).book = s.book := by rw [frame]; exact hh.book
  constructor
  · rintro ⟨present, pending, firstPass, falls⟩
    rw [book] at present falls
    have hne : d.number ≠ n := fun hn => by
      rw [hn, hh.departed_self hf] at pending
      cases pending
    rw [hh.departed_runState hf hp he present hne] at pending
    obtain ⟨beat, lead, trigger, song', -⟩ := id falls
    have bar : d.isBar = true := by simp [Cue.isBar, trigger]
    split at pending
    · cases pending
    next kept =>
      refine ⟨hne, fun hcur => kept ⟨bar, ⟨song, hcur, ?_⟩, pending⟩, present, pending, firstPass, falls⟩
      rw [song', hsong]
  · rintro ⟨hne, hcur, present, pending, firstPass, falls⟩
    refine ⟨by rw [book]; exact present, ?_, firstPass, by rw [book]; exact falls⟩
    rw [hh.departed_runState hf hp he present hne, if_neg ?_]
    · exact pending
    · rintro ⟨-, ⟨left, hleft, hd⟩, -⟩
      obtain ⟨beat, lead, trigger, song', -⟩ := falls
      rw [song', hsong] at hd
      exact hcur (hleft.trans hd.symm)

/-- A fire whose START starts a song. -/
theorem fires_starts {k : Clock} {l : List Click} {new : BarTrigger → Prop} (hr : s.resetHeld = false)
    (hi : s.firesBy i n c) (hf : s.firesNoPatch n c) (hnext : ∀ d : Cue, s.cueAfter n = some d → d.isFollow = false)
    (hp : s.book.cues.Pairwise fun x y => x.number ≠ y.number)
    (he : ∀ d ∈ s.book.cues, (s.cue.entry? d.number).isSome = true) (ht : c.tempo = some (.start song bar))
    (hcan : (s.book.songCut song || !s.book.startable song) = false)
    (starts : ∀ h : State, Readied n (s.otherTriggers i) s h →
      ∃ y : State, startSong song bar c.lead h = (y, []) ∧ Started n h y k l new) :
    ∃ t : State, exec i s = .next t ∧ s.fired t n c ∧ k.takesVamp s.book c.vamp t.clock ∧
      t.port.flags = s.port.flags ||| EventFlag.cueDone.bit ||| EventFlag.cueFired.bit ||| EventFlag.clockChange.bit ∧
      (∀ chair : Chair, t.links[chair] = { s.links[chair] with clickQueue := t.links[chair].clickQueue }) ∧
      s.handsOver t (departing s) l ∧
      (∀ e : BarTrigger, e ∈ t.cue.triggers ↔ (s.clock.state = .parked ∧ e ∈ s.otherTriggers i) ∨ new e) ∧
      ∀ left : Nat, s.currentSong = some left → ∀ d ∈ s.book.cues, d.isBar = true → d.song = some left → d.number ≠ n →
        s.runState d.number = .pending → t.runState d.number = .passed := by
  have hands : ∀ h : State, Readied n (s.otherTriggers i) s h → handTempo c h = startSong song bar c.lead h := by
    intro h ready
    unfold handTempo
    rw [ht]
    dsimp only
    rw [ready.book, hcan, if_neg (by simp)]
  obtain ⟨h, t, ready, hexec, fired, finished⟩ := exec_finishes (after := fun h => (startSong song bar c.lead h).1)
    hr hi hf hnext fun h ready => by
      obtain ⟨y, starts, started⟩ := starts h ready
      rw [hands h ready, starts]
      exact ⟨rfl, started.step⟩
  obtain ⟨y, starts, started⟩ := starts h ready
  rw [starts] at finished
  obtain ⟨_, _, _, _, frame⟩ := departed_frame h
  have ybook : y.book = s.book := (congrArg State.book started.step.outside :).trans ready.book
  have withdrawn := handsOver_of ready.withdrawn (by
    have := started.hands.trans finished.hands
    rwa [List.append_nil] at this)
  refine ⟨t, hexec, fired, ?_, ?_, fun chair => ?_, withdrawn, fun e => ?_, fun left hleft d hd hbar hsong hne hrun => ?_⟩
  · have takes := finished.vamp
    rwa [started.clock, ybook] at takes
  · rw [finished.flags, started.flags, ready.flags, clockFlag_absorbed]
    ac_rfl
  · rw [(started.hands.trans finished.hands).links chair, ready.withdrawn.links chair]
  · rw [finished.triggers, started.triggers e, frame]
    refine or_congr_left ?_
    show e ∈ (if h.clock.state = .parked then h.cue.triggers else []) ↔ _
    rw [ready.clock, ready.triggers]
    split
    next parked => simp [parked]
    next running => simp [running]
  · refine finished.passed _ ((started.runs _).trans ?_)
    rw [ready.departed_runState hf hp he hd hne, if_pos ⟨hbar, ⟨left, hleft, hsong⟩, hrun⟩]

/-! ## RELEASE (R71) -/

theorem setClockState_walked (hs : s.clock.state = .held) (v : Option Vamp) :
    setClockState (songState v) (walked v s) = { s with
      clock := { s.clock with vamp := v, state := songState v }
      port := { s.port with flags := s.port.flags ||| EventFlag.clockChange.bit } } := by
  by_cases hl : leaves s.clock v = true
  · have none : v = none := by
      unfold leaves at hl
      rw [Bool.and_eq_true] at hl
      exact Option.isNone_iff_eq_none.1 hl.2
    unfold walked
    rw [hl, if_pos rfl, if_pos ⟨rfl, by rw [hs]; simp⟩, none]
    exact if_pos rfl
  · rw [walked_stays (by simpa using hl), setClockState_songState (by simp [hs]) (by simp [hs])]
    rfl

theorem releaseAction_dropped (h : s.clock.state ≠ .held ∨ s.clock.pos = none) : releaseAction s = (s, []) := by
  unfold releaseAction
  split
  next hs hp =>
    rcases h with h | h
    · exact absurd hs h
    · rw [h] at hp
      cases hp
  · rfl

theorem region_of_songEnd {b : Book} {region : Option Vamp} (h : b.Follows pos region none v) : v = region := by
  cases h with
  | songEnd => rfl
  | leaveAtEnd => rfl

/-- With no beat to follow, RELEASE sets the song's end (R71). -/
theorem releaseAction_ends {held : SongPos} {next : SubTick} (hs : s.clock.state = .held) (hp : s.clock.pos = some held)
    (hnext : next = subOfTick (s.time.tick + 480#32)) (follows : s.book.Follows held s.clock.vamp none v) :
    releaseAction s = ({ s with clock := { s.clock with p := next, ending := some (s.time.tick + 480#32) } }, []) := by
  obtain rfl := region_of_songEnd follows
  have found := nextPosition_follows (s := { s with clock := { s.clock with p := next } }) rfl follows
  have self : walked s.clock.vamp { s with clock := { s.clock with p := next } } =
      { s with clock := { s.clock with p := next } } := walked_self (s := { s with clock := { s.clock with p := next } })
  unfold releaseAction
  rw [hs, hp]
  dsimp only
  rw [State.now, ← hnext, found, self]

/-- With a beat to follow, RELEASE fixes it and plays on (R71). -/
theorem releaseAction_goesOn {held : SongPos} {next : SubTick} {l : List BarTrigger} (hs : s.clock.state = .held)
    (hp : s.clock.pos = some held) (hnext : next = subOfTick (s.time.tick + 480#32))
    (follows : s.book.Follows held s.clock.vamp (some pos) v) (announced : Announced s v (some pos) (tickOfSub next) l)
    (htempo : tempo = s.book.mappedTempo s.clock.override pos) :
    ∃ y : State, releaseAction s = (y, []) ∧ ClockStep n s y ∧ y.clock = { s.clock with
        state := songState v, p := next, vamp := v, tempo := tempo, next := some { pos := pos, sub := next } } ∧
      y.port.flags = s.port.flags ||| EventFlag.clockChange.bit ∧ y.cue.triggers = l ∧
      Hands s y [songBeatClick pos (tickOfSub next) tempo] := by
  have found := nextPosition_follows (s := { s with clock := { s.clock with p := next } }) rfl follows
  have sets := setClockState_walked (s := { s with clock := { s.clock with p := next } }) hs v
  let x : State := { s with
    clock := { s.clock with p := next, vamp := v, state := songState v, tempo := tempo }
    port := { s.port with flags := s.port.flags ||| EventFlag.clockChange.bit } }
  obtain ⟨due, links, fixed, hands⟩ := fixNext_announced (x := x) announced rfl rfl rfl rfl tempo
  have runs : releaseAction s = fixNext pos next tempo x := by
    have walkedVamp : (walked v { s with clock := { s.clock with p := next } }).clock.vamp = v := rfl
    unfold releaseAction
    rw [hs, hp]
    dsimp only
    rw [State.now, ← hnext, found]
    dsimp only
    rw [walkedVamp, show (if v.isSome = true then ClockState.vamping else .playing) = songState v from rfl, sets]
    dsimp only
    rw [← htempo]
  have still : Hands s x [] := .of_still ⟨rfl, rfl, Iff.rfl, rfl, rfl, fun _ => rfl⟩ rfl rfl
  exact ⟨_, runs.trans fixed, ⟨rfl, rfl, rfl, rfl, fun _ => rfl⟩, rfl, rfl, rfl, still.trans hands⟩

theorem Readied.announces (hh : Readied n triggers s h) (hf : s.firesNoPatch n c) :
    h.announces v pos tick d e ↔ d.number ≠ n ∧ s.announces v pos tick d e := by
  constructor
  · rintro ⟨present, pending, firstPass, falls⟩
    rw [hh.book] at present falls
    have hne : d.number ≠ n := fun hn => by
      rw [hn, hh.runState_self hf.entry] at pending
      cases pending
    exact ⟨hne, present, (hh.runState hf.isOpen hne).symm.trans pending, firstPass, falls⟩
  · rintro ⟨hne, present, pending, firstPass, falls⟩
    rw [← hh.book] at present falls
    exact ⟨present, (hh.runState hf.isOpen hne).trans pending, firstPass, falls⟩

theorem handTempo_release (ht : c.tempo = some .release) (s : State) : handTempo c s = releaseAction s := by
  unfold handTempo
  rw [ht]

/-- A fire whose RELEASE plays on (R71). -/
theorem fires_goesOn {held : SongPos} {next : SubTick} (hr : s.resetHeld = false)
    (hi : s.firesBy i n c) (hf : s.firesNoPatch n c) (hnextCue : ∀ d : Cue, s.cueAfter n = some d → d.isFollow = false)
    (ht : c.tempo = some .release) (hs : s.clock.state = .held) (hp : s.clock.pos = some held)
    (hnext : next = subOfTick (s.time.tick + 480#32)) (follows : s.book.Follows held s.clock.vamp (some pos) v)
    (later : ∀ (d : Cue) (e : BarTrigger), d.number ≠ n → s.announces v pos (tickOfSub next) d e →
      tickReached s.time.tick e.tick = false) (htempo : tempo = s.book.mappedTempo s.clock.override pos) :
    ∃ (t : State) (k : Clock), exec i s = .next t ∧ s.fired t n c ∧ k.takesVamp s.book c.vamp t.clock ∧
      k = { s.clock with
        state := songState v, p := next, vamp := v, tempo := tempo, next := some { pos := pos, sub := next } } ∧
      t.port.flags = s.port.flags ||| EventFlag.cueDone.bit ||| EventFlag.cueFired.bit ||| EventFlag.clockChange.bit ∧
      (∀ chair : Chair, t.links[chair] = { s.links[chair] with clickQueue := t.links[chair].clickQueue }) ∧
      s.handsOver t (fun _ => false) [songBeatClick pos (tickOfSub next) tempo] ∧
      ∀ e : BarTrigger, e ∈ t.cue.triggers ↔
        e ∈ s.otherTriggers i ∨ ∃ d : Cue, d.number ≠ n ∧ s.announces v pos (tickOfSub next) d e := by
  have acts : ∀ h : State, Readied n (s.otherTriggers i) s h → ∃ l, (∀ e, e ∈ l ↔
      e ∈ s.otherTriggers i ∨ ∃ d : Cue, d.number ≠ n ∧ s.announces v pos (tickOfSub next) d e) ∧
      ∃ y : State, handTempo c h = (y, []) ∧ ClockStep n h y ∧ y.clock = { h.clock with
          state := songState v, p := next, vamp := v, tempo := tempo, next := some { pos := pos, sub := next } } ∧
        y.port.flags = h.port.flags ||| EventFlag.clockChange.bit ∧ y.cue.triggers = l ∧
        Hands h y [songBeatClick pos (tickOfSub next) tempo] := by
    intro h ready
    have time : h.time = s.time := by rw [ready.frame]
    obtain ⟨l, announced, mem⟩ := announced_of_open (s := h) (v := v) (tick := tickOfSub next) (onward := some pos) ready.isOpen
      (fun p d e hpos ha => by
        cases hpos
        obtain ⟨hne, ha⟩ := (ready.announces hf).1 ha
        rw [time]
        exact later d e hne ha)
    refine ⟨l, fun e => (mem e).trans ?_, ?_⟩
    · rw [ready.triggers]
      refine or_congr_right ⟨?_, ?_⟩
      · rintro ⟨p, d, hpos, ha⟩
        cases hpos
        exact ⟨d, (ready.announces hf).1 ha⟩
      · rintro ⟨d, ha⟩
        exact ⟨pos, d, rfl, (ready.announces hf).2 ha⟩
    · rw [handTempo_release ht]
      exact releaseAction_goesOn (by rw [ready.clock]; exact hs) (by rw [ready.clock]; exact hp) (by rw [time]; exact hnext)
        (by rw [ready.clock, ready.book]; exact follows) announced (by rw [ready.clock, ready.book]; exact htempo)
  obtain ⟨h, t, ready, hexec, fired, finished⟩ := exec_finishes (after := fun h => (handTempo c h).1)
    hr hi hf hnextCue fun h ready => by
      obtain ⟨l, -, y, hands, step, -⟩ := acts h ready
      rw [hands]
      exact ⟨rfl, step⟩
  obtain ⟨l, mem, y, hands, step, clock, flags, triggers, handed⟩ := acts h ready
  rw [hands] at finished
  have ybook : y.book = s.book := (congrArg State.book step.outside :).trans ready.book
  have taken := handed.trans finished.hands
  rw [List.append_nil] at taken
  have links : h.links = s.links := by rw [ready.frame]
  refine ⟨t, y.clock, hexec, fired, ?_, by rw [clock, ready.clock], ?_, fun chair => ?_,
    handsOver_of (.of_still (by rw [ready.frame]) links) taken, fun e => ?_⟩
  · rw [← ybook]
    exact finished.vamp
  · rw [finished.flags, flags, ready.flags, clockFlag_absorbed]
    ac_rfl
  · rw [taken.links chair, links]
  · rw [finished.triggers, triggers, mem]

/-! ## What is dropped (R34, R65, R71) -/

/-- The song cannot be started. -/
def unstartable (b : Book) (song : Nat) : Bool := b.songCut song || !b.startable song

theorem unstartable_iff {b : Book} : unstartable b song = true ↔
    ∀ r : Song, b.song? song = some r → r.running = .cut ∨ b.segment? song r.firstBar = none := by
  unfold unstartable Book.songCut Book.startable
  cases b.song? song <;> simp

theorem startSong_dropped (h : s.clock.state = .frozen ∨ s.clock.state = .counting) (song bar lead : Nat) :
    startSong song bar lead s = (s, []) := by
  unfold startSong
  rcases h with h | h <;> rw [h]

theorem handTempo_dropped (ht : c.tempo = some (.start song bar))
    (h : s.clock.state = .frozen ∨ s.clock.state = .counting ∨ unstartable s.book song = true) : handTempo c s = (s, []) := by
  unfold handTempo
  rw [ht]
  dsimp only
  split
  · rfl
  next can => exact startSong_dropped (h.imp_right fun h => h.resolve_right can) ..

/-- A vamp action leaves the state of a clock that is not PLAYING. -/
theorem takesVamp_state {k k' : Clock} {b : Book} {w : Option VampAction} (h : k.takesVamp b w k') (hk : k.state ≠ .playing) :
    k'.state = k.state := by
  obtain ⟨none, vamp, exit⟩ := h
  match w with
  | .none => rw [none rfl]
  | some (.vamp first last) =>
    obtain ⟨may, not⟩ := vamp first last rfl
    by_cases hm : k.mayVamp b first last
    · rw [may hm]
      exact if_neg hk
    · rw [not hm]
  | some .exit =>
    obtain ⟨sets, drops⟩ := exit rfl
    by_cases hs : (k.state = .vamping ∨ k.state = .held) ∧ ∃ w : Vamp, k.vamp = some w ∧ w.exit = .none
    · obtain ⟨hs, w, hw, hx⟩ := hs
      rw [sets w hs hw hx]
    · rw [drops]
      by_cases hv : k.state = .vamping ∨ k.state = .held
      · exact .inr fun w hw hx => hs ⟨hv, w, hw, hx⟩
      · exact .inl (not_or.1 hv)

theorem onward_ne_first (h : s.book.Follows first none onward v) : onward ≠ some first := by
  cases h with
  | within => intro h; injection h with h; have := congrArg SongPos.beat h; simp at this
  | nextBar => intro h; injection h with h; have := congrArg SongPos.bar h; simp at this
  | songEnd => simp

theorem Follows_song {b : Book} {region : Option Vamp} (h : b.Follows first region onward v) (ho : onward = some pos) :
    pos.song = first.song := by
  cases h with
  | songEnd => cases ho
  | leaveAtEnd => cases ho
  | within => cases ho; rfl
  | nextBar => cases ho; rfl
  | turn => cases ho; rfl
  | leave => cases ho; rfl

theorem lead_of_bar {bar beat lead : Nat} (h : c.trigger = .bar bar beat lead) : c.lead = lead := by simp [Cue.lead, h]

theorem bar_of_lead (h : c.lead ≠ 0) : ∃ bar beat : Nat, c.trigger = .bar bar beat c.lead := by
  unfold Cue.lead at h ⊢
  split at h
  next bar beat lead ht => exact ⟨bar, beat, ht⟩
  · exact absurd rfl h

/-- A START or RELEASE that is dropped leaves the clock to the vamp action. -/
theorem fires_drops (hr : s.resetHeld = false) (hi : s.firesBy i n c) (hf : s.firesNoPatch n c)
    (hnext : ∀ d : Cue, s.cueAfter n = some d → d.isFollow = false)
    (drops : ∀ h : State, Readied n (s.otherTriggers i) s h → handTempo c h = (h, [])) :
    ∃ t : State, exec i s = .next t ∧ s.fired t n c ∧ s.clock.takesVamp s.book c.vamp t.clock ∧
      t.due = s.due ∧ t.links = s.links ∧ t.cue.triggers = s.otherTriggers i := by
  obtain ⟨t, hexec, fired, takes, due, links, triggers, -, -⟩ :=
    fires_writes (k := s.clock) hr hi hf hnext (fun h ready => by rw [drops h ready, ← ready.clock]) rfl
  exact ⟨t, hexec, fired, takes, due, links, triggers⟩

/-- The trigger that the new song's announcement of the beat at `onward` makes. -/
def StartAnnounces (s : State) (n : CueNumber) (song : Nat) (next : SubTick) (onward : Option SongPos) (e : BarTrigger) : Prop :=
  ∃ (pos : SongPos) (d : Cue), onward = some pos ∧ d.number ≠ n ∧ s.currentSong ≠ some song ∧
    s.announces none pos (tickOfSub next) d e

theorem Started.congr {k k' : Clock} {l : List Click} {new new' : BarTrigger → Prop} (h : Started n s y k l new) (hk : k = k')
    (hnew : ∀ e : BarTrigger, new e ↔ new' e) : Started n s y k' l new' :=
  ⟨h.step, h.clock.trans hk, h.flags, h.hands, fun e => (h.triggers e).trans (or_congr_right (hnew e)), h.runs⟩

section Start

variable (hfrozen : s.clock.state ≠ .frozen) (hcounting : s.clock.state ≠ .counting) (hf : s.firesNoPatch n c)
  (hp : s.book.cues.Pairwise fun x y => x.number ≠ y.number)
  (he : ∀ d ∈ s.book.cues, (s.cue.entry? d.number).isSome = true) (hfirst : first = { song := song, bar := bar, beat := 1 })

include hfrozen hcounting hf hp he hfirst

theorem Readied.starts_ahead {next : SubTick} (ready : Readied n triggers s h) (hnext : next = subOfTick (s.time.tick + 480#32))
    (later : ∀ e : BarTrigger, StartAnnounces s n song next (some first) e → tickReached s.time.tick e.tick = false) :
    ∃ y : State, startSong song bar 0 h = (y, []) ∧
      Started n h y { startClock first next (s.book.mappedTempo none first) s.clock with
          next := some { pos := first, sub := next } }
        [songBeatClick first (tickOfSub next) (s.book.mappedTempo none first)] (StartAnnounces s n song next (some first)) := by
  have time : h.time = s.time := by rw [ready.frame]
  have song_first : first.song = song := by rw [hfirst]
  have announces := fun d e => ready.departed_announces (d := d) (e := e) (tick := tickOfSub next) hf hp he song_first
  obtain ⟨y, starts, started⟩ := startSong_ahead (sub := next) (tempo := s.book.mappedTempo none first) song bar (by rw [ready.clock]; exact hfrozen)
    (by rw [ready.clock]; exact hcounting) (ready.runState_self hf.entry) ready.isOpen hfirst (by rw [ready.book])
    (by rw [time]; exact hnext) (fun d e ha => by
      rw [time]
      exact later e ⟨first, d, rfl, (announces d e).1 ha⟩)
  refine ⟨y, starts, started.congr (by rw [ready.clock]) fun e => ?_⟩
  unfold StartAnnounces
  simp only [announces, Option.some.injEq, exists_and_left, exists_eq_left']

theorem Readied.starts_leads {now next : SubTick} {lead : Nat} (ready : Readied n triggers s h) (hlead : lead ≠ 0)
    (hnow : now = subOfTick s.time.tick) (hnext : next = now + BitVec.ofNat 40
      ((73728000000 + s.book.mappedTempo none first / 2) / s.book.mappedTempo none first))
    (follows : s.book.Follows first none onward none)
    (silent : ∀ (d : Cue) (e : BarTrigger), d.number ≠ n → s.currentSong ≠ some song →
      ¬s.announces none first s.time.tick d e)
    (later : ∀ e : BarTrigger, StartAnnounces s n song next onward e → tickReached s.time.tick e.tick = false) :
    ∃ y : State, startSong song bar lead h = (y, []) ∧
      Started n h y { startClock first now (s.book.mappedTempo none first) s.clock with
          next := onward.map fun pos => { pos := pos, sub := next }
          ending := if onward.isNone then some (tickOfSub next) else none }
        (songBeatClick first s.time.tick (s.book.mappedTempo none first) ::
          s.book.clicksAfter { pos := first, sub := now } (s.book.mappedTempo none first) next onward)
        (StartAnnounces s n song next onward) := by
  have time : h.time = s.time := by rw [ready.frame]
  have song_first : first.song = song := by rw [hfirst]
  have announces := fun (tick : Tick) (pos : SongPos) (hsong : pos.song = song) d e =>
    ready.departed_announces (d := d) (e := e) (tick := tick) hf hp he hsong
  have song_onward : ∀ pos : SongPos, onward = some pos → pos.song = song := fun pos hpos =>
    (Follows_song follows hpos).trans song_first
  obtain ⟨y, starts, started⟩ := startSong_leads (sub := now) (next := next)
    (tempo := s.book.mappedTempo none first) song bar hlead (by rw [ready.clock]; exact hfrozen)
    (by rw [ready.clock]; exact hcounting) (ready.runState_self hf.entry) ready.isOpen hfirst (by rw [ready.book])
    (by rw [time]; exact hnow) hnext (by rw [ready.book]; exact follows)
    (fun d e ha => by
      rw [time] at ha
      obtain ⟨hne, hcur, ha⟩ := (announces _ _ song_first d e).1 ha
      exact silent d e hne hcur ha)
    (fun pos d e hpos ha => by
      rw [time]
      exact later e ⟨pos, d, hpos, (announces _ _ (song_onward pos hpos) d e).1 ha⟩)
  rw [ready.book, time] at started
  refine ⟨y, starts, started.congr (by rw [ready.clock]) fun e => ?_⟩
  exact exists_congr fun pos => exists_congr fun d => and_congr_right fun hpos => announces _ _ (song_onward pos hpos) d e

end Start

/-- Settles O31: a START or RELEASE is dropped, or fixes the beat that follows and hands its clicks over. -/
theorem startAndReleaseFixTheFirstBeat : Obligations.StartAndReleaseFixTheFirstBeat := by
  intro i n c s hr hi hf hnext hp he
  refine ⟨fun song bar ht => ⟨fun h => ?_, fun r first hfrozen hcounting hsong hcut hseg hfirst now next onward hnow hahead hlead later => ?_⟩,
    fun ht => ⟨fun h => ?_, fun held next onward v hs hpos hnextTick follows later => ?_⟩⟩
  · refine fires_drops hr hi hf hnext fun h' ready => handTempo_dropped ht ?_
    rw [ready.clock, ready.book, unstartable_iff]
    exact h
  · have can : unstartable s.book song = false := by
      rw [Bool.eq_false_iff, ne_eq, unstartable_iff]
      exact fun h => (h r hsong).elim hcut hseg
    have later : ∀ e : BarTrigger, StartAnnounces s n song next onward e → tickReached s.time.tick e.tick = false := by
      rintro e ⟨pos, d, hpos, hne, hcur, ha⟩
      exact later pos d e hpos hne hcur ha
    by_cases hl : c.lead = 0
    · obtain ⟨hnext', rfl⟩ := hahead fun bar beat lead h => (lead_of_bar h).symm.trans hl
      obtain ⟨t, hexec, fired, takes, flags, links, withdrawn, triggers, passed⟩ :=
        fires_starts hr hi hf hnext hp he ht can fun h ready => by
          rw [hl]
          exact ready.starts_ahead hfrozen hcounting hf hp he hfirst hnext' later
      refine ⟨t, _, hexec, fired, takes, ?_, flags, links, ?_, triggers, passed⟩
      · rw [if_pos rfl]
        rfl
      · rw [if_pos rfl]
        exact withdrawn
    · obtain ⟨bar', beat', trigger⟩ := bar_of_lead hl
      obtain ⟨silent, follows, hnext'⟩ := hlead _ _ _ trigger hl
      have onward_ne := onward_ne_first follows
      obtain ⟨t, hexec, fired, takes, flags, links, withdrawn, triggers, passed⟩ :=
        fires_starts hr hi hf hnext hp he ht can fun h ready =>
          ready.starts_leads hfrozen hcounting hf hp he hfirst hl hnow hnext' follows silent later
      refine ⟨t, _, hexec, fired, takes, ?_, flags, links, ?_, triggers, passed⟩
      · rw [if_neg onward_ne]
        rfl
      · rw [if_neg onward_ne]
        exact withdrawn
  · refine fires_drops hr hi hf hnext fun h' ready => ?_
    rw [handTempo_release ht]
    exact releaseAction_dropped (by rw [ready.clock]; exact h)
  · cases onward with
    | some pos =>
      obtain ⟨t, k, hexec, fired, takes, hk, flags, links, handed, triggers⟩ :=
        fires_goesOn hr hi hf hnext ht hs hpos hnextTick follows (fun d e => later pos d e rfl) rfl
      refine ⟨t, k, hexec, fired, takes, fun p hp => ?_, nofun, links, handed, fun e => (triggers e).trans ?_⟩
      · cases hp
        exact ⟨hk, flags⟩
      · simp
    | none =>
      obtain ⟨t, hexec, fired, takes, due, links, triggers, -, flags⟩ :=
        fires_writes (k := { s.clock with p := next, ending := some (s.time.tick + 480#32) }) hr hi hf hnext (fun h ready => by
          have time : h.time = s.time := by rw [ready.frame]
          rw [handTempo_release ht, releaseAction_ends (next := next) (by rw [ready.clock]; exact hs) (by rw [ready.clock]; exact hpos)
            (by rw [time]; exact hnextTick) (by rw [ready.clock, ready.book]; exact follows), ready.clock, time]) rfl
      have state : t.clock.state = s.clock.state :=
        (takesVamp_state takes (by show s.clock.state ≠ _; simp [hs]) :)
      have same : clockFlag s.clock t.clock = 0#10 := if_pos state
      rw [same, BitVec.or_zero] at flags
      refine ⟨t, _, hexec, fired, takes, nofun, fun _ => ⟨rfl, flags⟩, fun chair => ?_, ?_, fun e => ?_⟩
      · rw [links]
      · exact handsOver_of (.of_still due links) (.refl t)
      · rw [triggers]
        simp

end Sys2Proof.Proofs

/-! PROOFS. The run states as a RESUME at a BAR cue rewrites them (R47, R170). -/

namespace Sys2Proof.Proofs

open Sys2Proof.Machine Sys2Proof.Laws

variable {s t u x : State} {n m : CueNumber} {c d : Cue} {chair k : Chair}

theorem cue?_of_once (hp : s.book.cues.Pairwise fun x y => x.number ≠ y.number) (hd : d ∈ s.book.cues) :
    s.book.cue? d.number = some d := by
  have one : AtMostOne (fun k : Cue => decide (k.number = d.number)) s.book.cues :=
    AtMostOne.of_keys hp fun y z hyz hy => by
      simp only [decide_eq_true_eq, decide_eq_false_iff_not] at *
      exact fun hz => hyz (hy.trans hz.symm)
  exact one.find? hd (by simp)

/-! ## The run states rewritten, before the standby is placed -/

/-- The Cue Engine rewritten about the resume cue, with no standby and no held cue yet (R47). -/
def resumeRuns (n : CueNumber) (s : State) : State :=
  { s with
    cue := { s.cue with
      runs := s.cue.runs.map (rewriteEntry s.book n)
      timers := [], guard := none, triggers := [], standby := none, held := none, holdCandidate := none
      lastFired := (s.cueBefore n).map (·.number) }
    overlay := { s.overlay with lastCue := (s.cueBefore n).map fun c => (c.number, c.text) } }

theorem entry?_resumeRuns (n : CueNumber) (s : State) (k : CueNumber) :
    (resumeRuns n s).cue.entry? k = (s.cue.entry? k).map (rewriteEntry s.book n) := entry?_rewritten n s k

/-- The run state that the rewrite gives a cue (R47). -/
def rewrittenState (s : State) (n : CueNumber) (d : Cue) : RunState :=
  if s.runState d.number = .firing then .firing
  else if s.book.cueCut d then .passed
  else if d.number.before n then (if s.runState d.number = .complete then .complete else .passed)
  else .pending

theorem rewrittenState_pending : rewrittenState s n d = .pending ↔
    s.runState d.number ≠ .firing ∧ s.book.cueCut d = false ∧ d.number.before n = false := by
  unfold rewrittenState
  split
  next h => simp [h]
  next h =>
    split
    next hc => simp [hc]
    next hc =>
      split
      next hb =>
        split
        · simp [hb]
        · simp [hb]
      next hb => simp [h, hc, hb]

section Resume

variable (ho : s.cue.isOpen = true) (hp : s.book.cues.Pairwise fun x y => x.number ≠ y.number)
include ho hp

theorem rewriteEntry_eq (hd : d ∈ s.book.cues) {e : RunEntry} (hentry : s.cue.entry? d.number = some e) :
    rewriteEntry s.book n e = if e.state = .firing then
        { e with
          mark := some (if s.book.cueCut d then .passed else if d.number.before n then .complete else .pending) }
      else { e with mark := none, state := rewrittenState s n d } := by
  have key : e.cue = d.number := by simpa using List.find?_some hentry
  have state := runState_of_entry ho hentry
  unfold rewriteEntry rewrittenState
  rw [key, cue?_of_once hp hd, state]
  dsimp only
  split
  · rfl
  · rfl

variable (he : ∀ d ∈ s.book.cues, (s.cue.entry? d.number).isSome = true)
include he

theorem resumeRuns_runState (hd : d ∈ s.book.cues) : (resumeRuns n s).runState d.number = rewrittenState s n d := by
  obtain ⟨e, hentry⟩ := Option.isSome_iff_exists.1 (he d hd)
  have entry : (resumeRuns n s).cue.entry? d.number = some (rewriteEntry s.book n e) := by
    rw [entry?_resumeRuns, hentry]
    rfl
  rw [runState_of_entry (s := resumeRuns n s) ho entry, rewriteEntry_eq ho hp hd hentry]
  split
  next firing => rw [firing, rewrittenState, if_pos ((runState_of_entry ho hentry).trans firing)]
  · rfl

/-- The standby that a RESUME finds (R47). -/
theorem resumeRuns_standby : ((resumeRuns n s).pendingGo.find? fun m => !m.before n) =
    ((s.book.cues.filter fun d => decide (d.trigger = .go) && !d.number.before n && !s.book.cueCut d &&
      decide (s.runState d.number ≠ .firing)).map (·.number)).head? := by
  unfold State.pendingGo
  rw [← List.head?_filter, List.filter_map, List.filter_filter]
  refine congrArg (fun l : List Cue => (l.map (·.number)).head?) (List.filter_congr fun d hd => ?_)
  rw [resumeRuns_runState ho hp he hd, Bool.eq_iff_iff]
  simp only [Function.comp_apply, Bool.and_eq_true, decide_eq_true_eq, Bool.not_eq_true', isGo_iff,
    rewrittenState_pending]
  tauto

/-! ## The run states rewritten for a resume cue that is no FOLLOW cue -/

variable (hc : s.book.cue? n = some c) (hf : c.isFollow = false)
include hc hf

omit ho hp he in
theorem rewriteRuns_placed :
    rewriteRuns n s = placeStandby ((resumeRuns n s).pendingGo.find? fun m => !m.before n) (resumeRuns n s) := by
  have book : (placeStandby ((resumeRuns n s).pendingGo.find? fun m => !m.before n) (resumeRuns n s)).book = s.book :=
    outside_book (placeStandby_outside ..)
  unfold rewriteRuns
  dsimp only
  split
  next c' hc' =>
    have found : some c = some c' := hc.symm.trans (by rw [← book]; exact hc')
    cases found
    rw [hf]
    rfl
  · rfl

omit ho hp he in
theorem rewriteRuns_frame : ∃ runs standby, rewriteRuns n s = { s with
    cue := { s.cue with
      runs := runs, standby := standby, timers := [], guard := none, triggers := [], held := none, holdCandidate := none
      lastFired := (s.cueBefore n).map (·.number) }
    overlay := { s.overlay with
      lastCue := (s.cueBefore n).map fun c => (c.number, c.text), standby := standby } } := by
  obtain ⟨runs, h⟩ := placeStandby_frame (s := resumeRuns n s) ((resumeRuns n s).pendingGo.find? fun m => !m.before n) rfl
  exact ⟨runs, _, (rewriteRuns_placed hc hf).trans h⟩

omit ho hp he in
theorem rewriteRuns_standby :
    (rewriteRuns n s).cue.standby = (resumeRuns n s).pendingGo.find? fun m => !m.before n := by
  obtain ⟨runs, h⟩ := placeStandby_frame (s := resumeRuns n s) ((resumeRuns n s).pendingGo.find? fun m => !m.before n) rfl
  rw [rewriteRuns_placed hc hf, h]

/-- The standby is a cue that the rewrite has made PENDING. -/
theorem pending_of_standby (hd : d ∈ s.book.cues) (h : (rewriteRuns n s).cue.standby = some d.number) :
    rewrittenState s n d = .pending := by
  rw [rewriteRuns_standby hc hf] at h
  obtain ⟨-, -, -, -, pending⟩ := mem_pendingGo (List.mem_of_find?_eq_some h)
  rw [resumeRuns_runState ho hp he hd] at pending
  exact pending

theorem rewriteRuns_runState (hd : d ∈ s.book.cues) : (rewriteRuns n s).runState d.number =
    if (rewriteRuns n s).cue.standby = some d.number then .standby else rewrittenState s n d := by
  have entry : ((resumeRuns n s).cue.entry? d.number).isSome = true := by
    rw [entry?_resumeRuns, Option.isSome_map]
    exact he d hd
  rw [rewriteRuns_standby hc hf, rewriteRuns_placed hc hf, placeStandby_runState (s := resumeRuns n s) _ ho entry,
    resumeRuns_runState ho hp he hd]

theorem rewriteRuns_entry (hd : d ∈ s.book.cues) (h : rewrittenState s n d ≠ .pending) :
    (rewriteRuns n s).cue.entry? d.number = (s.cue.entry? d.number).map (rewriteEntry s.book n) := by
  have other : ((resumeRuns n s).pendingGo.find? fun m => !m.before n) ≠ some d.number := fun hs =>
    h (pending_of_standby ho hp he hc hf hd ((rewriteRuns_standby hc hf).trans hs))
  rw [rewriteRuns_placed hc hf, placeStandby_entry_kept other, entry?_resumeRuns]

/-- The rewrite as a resume at a BAR cue leaves it in the end: the triggers alone of the Cue Engine change after it. -/
theorem rewritten_of_rewriteRuns (ht : t.cue = { (rewriteRuns n s).cue with triggers := t.cue.triggers })
    (enables : ∀ chair : Chair, t.clicks[chair].enable =
      if s.book.chairs[chair].enabled then
        (((s.book.cues.filter fun d => d.number.before n && !s.book.cueCut d).filterMap
          (·.clickFor chair)).getLast?).getD true
      else s.clicks[chair].enable) : s.rewritten t n := by
  obtain ⟨runs, standby, frame⟩ := rewriteRuns_frame (s := s) hc hf
  have standbyAs : t.cue.standby = (rewriteRuns n s).cue.standby := by rw [ht]
  have isOpen : t.cue.isOpen = (rewriteRuns n s).cue.isOpen := by rw [ht]
  have entry : ∀ k : CueNumber, t.cue.entry? k = (rewriteRuns n s).cue.entry? k := fun k => by rw [ht]; rfl
  refine ⟨?_, ?_, ?_, ?_, fun d hd => ?_, fun d hd e hentry firing => ?_, enables⟩
  · rw [ht, frame]; rfl
  · rw [ht, frame]
  · rw [ht, frame]
  · rw [standbyAs, rewriteRuns_standby hc hf, resumeRuns_standby ho hp he]
  · rw [runState_congr isOpen (entry _), rewriteRuns_runState ho hp he hc hf hd, standbyAs]
    by_cases hs : (rewriteRuns n s).cue.standby = some d.number
    · obtain ⟨hnf, hcut, hbefore⟩ := rewrittenState_pending.1 (pending_of_standby ho hp he hc hf hd hs)
      simp [hs, hnf, hcut, hbefore]
    · rw [if_neg hs, if_neg hs]
      rfl
  · have rewrites := rewriteEntry_eq (n := n) ho hp hd hentry
    have still : rewrittenState s n d ≠ .pending := fun h =>
      (rewrittenState_pending.1 h).1 ((runState_of_entry ho hentry).trans firing)
    rw [entry, rewriteRuns_entry ho hp he hc hf hd still, hentry, Option.map_some, rewrites, if_pos firing]

end Resume

end Sys2Proof.Proofs

/-! PROOFS. The chairs as a RESUME reconstructs them: patches and click enables (R93 to R95, R171, R172). -/

namespace Sys2Proof.Proofs

open Sys2Proof.Machine Sys2Proof.Laws

variable {s t u x : State} {n m : CueNumber} {c d : Chair} {e : Cue} {sel : PatchSel} {r : PatchReq} {p : Nat}

/-! ## A RESTORE taken (R93 to R95) -/

/-- A RESTORE has set the target (R94). -/
def targeted (c : Chair) (sel : PatchSel) (s : State) : State := onDispatch c (fun d => { d with target := some sel }) s

theorem targeted_slot (c : Chair) (sel : PatchSel) (s : State) :
    (targeted c sel s).patch[c] = { s.patch[c] with target := some sel } := onDispatch_self c _ s

/-- How a RESTORE is taken that does not find its patch held (R93). -/
theorem takeRequest_restore (h : s.patch[c].confirmed ≠ .patch sel ∨ s.patch[c].flight.isSome ∨ s.patch[c].waiting.isSome) :
    takeRequest c (.restore sel) [] s =
      if s.patch[c].flight = none ∧ s.patch[c].waiting = none ∧ s.links[c].state = .locked then
        send c (.restore sel) (targeted c sel s)
      else enqueue c (.restore sel) [] (targeted c sel s) := by
  have taken : takeRequest c (.restore sel) [] s =
      if (targeted c sel s).patch[c].flight.isNone ∧ (targeted c sel s).patch[c].waiting.isNone then
        if decide ((targeted c sel s).patch[c].confirmed = .patch sel) = true then
          onDispatch c (fun d => { d with last := some (.restore, .ok) }) (targeted c sel s)
        else if s.links[c].state = .locked then
          send c (.restore sel) (onDispatch c (fun d => { d with adhoc := d.adhoc }) (targeted c sel s))
        else enqueue c (.restore sel) [] (targeted c sel s)
      else enqueue c (.restore sel) [] (targeted c sel s) := rfl
  have same : onDispatch c (fun d => { d with adhoc := d.adhoc }) (targeted c sel s) = targeted c sel s := onDispatch_eq_self rfl
  rw [taken, same, targeted_slot]
  dsimp only
  cases hf : s.patch[c].flight with
  | some f => rfl
  | none =>
    cases hw : s.patch[c].waiting with
    | some q => rfl
    | none =>
      have hk : s.patch[c].confirmed ≠ .patch sel := h.resolve_right (by rw [hf, hw]; simp)
      rw [if_pos ⟨rfl, rfl⟩, if_neg (by rw [decide_eq_true_eq]; exact hk)]
      exact if_congr (by simp) rfl rfl

theorem enqueue_restore_empty (hw : s.patch[c].waiting = none) : enqueue c (.restore sel) [] s =
    onDispatch c (fun d => { d with waiting := some (.restore sel) }) s := by
  unfold enqueue
  rw [hw]
  rfl

/-- A RESTORE waits in the pending slot, where none waits yet. -/
theorem takeRequest_waits (hw : s.patch[c].waiting = none)
    (h : s.patch[c].flight ≠ none ∨ (s.patch[c].confirmed ≠ .patch sel ∧ s.links[c].state ≠ .locked)) :
    takeRequest c (.restore sel) [] s =
      onDispatch c (fun d => { d with target := some sel, waiting := some (.restore sel) }) s := by
  have waiting : (targeted c sel s).patch[c].waiting = none := (congrArg Dispatch.waiting (targeted_slot c sel s)).trans hw
  rw [takeRequest_restore (h.symm.imp And.left fun h => .inl (Option.isSome_iff_ne_none.2 h)), if_neg, enqueue_restore_empty waiting]
  · exact onDispatch_twice ..
  · rintro ⟨hf, -, hl⟩
    exact h.elim (fun h => h hf) fun h => h.2 hl

/-- A RESTORE supersedes a request that waits and is of no cue. -/
theorem takeRequest_supersedes {q : PatchReq} (hw : s.patch[c].waiting = some q) (hq : ∀ n : CueNumber, q.isOf n = false) :
    takeRequest c (.restore sel) [] s =
      onDispatch c (fun d => Resolved q .superseded { d with
        target := some sel, waiting := some (.restore sel), adhoc := if q = .adHoc then [] else d.adhoc }) s := by
  have waiting : (targeted c sel s).patch[c].waiting = some q := (congrArg Dispatch.waiting (targeted_slot c sel s)).trans hw
  rw [takeRequest_restore (.inr (.inr (by rw [hw]; rfl))), if_neg (by rw [hw]; simp)]
  unfold enqueue
  dsimp only
  rw [waiting]
  dsimp only
  rw [resolve_quiet hq, onDispatch_twice]
  unfold targeted
  rw [onDispatch_twice]
  refine onDispatch_congr ?_
  simp [PatchReq.kind]

/-- A RESTORE of a patch that the book does not hold is REJECTED at once on an idle LOCKED chair. -/
theorem takeRequest_rejects (hf : s.patch[c].flight = none) (hw : s.patch[c].waiting = none)
    (hk : s.patch[c].confirmed ≠ .patch sel) (hl : s.links[c].state = .locked)
    (hc : s.book.patch? c sel.number = none) :
    takeRequest c (.restore sel) [] s =
      onDispatch c (fun d => Resolved (.restore sel) .rejected { d with target := some sel }) s := by
  have absent : (targeted c sel s).contents c (.restore sel) = none := by
    show ((s.book.patch? c sel.number).map fun p => p.list sel.variant) = none
    rw [hc]
    rfl
  rw [takeRequest_restore (.inl hk), if_pos ⟨hf, hw, hl⟩, send_absent absent, resolve_quiet fun _ => rfl]
  exact onDispatch_twice ..

/-! ## One chair's patch (R171) -/

/-- The chair's slots and its waiting PATCH message written. -/
def withSlot (c : Chair) (slot : Dispatch) (msg : Option PatchMsg) (s : State) : State :=
  onLink c (fun l => { l with patchMsg := msg }) (onDispatch c (fun _ => slot) s)

theorem withSlot_dispatch (f : Dispatch → Dispatch) (s : State) :
    onDispatch c f s = withSlot c (f s.patch[c]) s.links[c].patchMsg s := by
  have still : onLink c (fun l => { l with patchMsg := s.links[c].patchMsg }) (onDispatch c f s) = onDispatch c f s := by
    refine (onLink_congr (g := id) rfl).trans ?_
    unfold onLink
    rw [show modifyAt (onDispatch c f s).links c id = (onDispatch c f s).links from vector_ext_fin fun d => by
      rw [modifyAt_getElem]; exact ite_self _]
  unfold withSlot
  rw [onDispatch_congr (f := fun _ => f s.patch[c]) (g := f) rfl, still]

theorem withSlot_link (f : Dispatch → Dispatch) (msg : Option PatchMsg) (s : State) :
    onLink c (fun l => { l with patchMsg := msg }) (onDispatch c f s) = withSlot c (f s.patch[c]) msg s := by
  unfold withSlot
  rw [onDispatch_congr (f := fun _ => f s.patch[c]) (g := f) rfl]

/-- The chair's part of a reconstruction that is its patch's. -/
def rebuildPatch (n : CueNumber) (s : State) (c : Chair) : State :=
  match s.reconstruction n c with
  | none => s
  | some sel =>
    if s.patch[c].confirmed ≠ .patch sel ∨ s.patch[c].flight.isSome ∨ s.patch[c].waiting.isSome then
      takeRequest c (.restore sel) [] s
    else s

theorem reconstruction_of_reconstructs (h : s.reconstructs n c e p) :
    s.reconstruction n c = some { number := p, variant := s.variantFor e c p } := by
  obtain ⟨last, patch⟩ := h
  have found : ((s.cuesBefore n).filter fun c' => (c'.patchFor c).isSome).getLast? = some e := by
    rw [← last]
    unfold State.cuesBefore
    rw [List.filter_filter]
    exact congrArg List.getLast? (List.filter_congr fun d _ => Bool.and_comm ..)
  unfold State.reconstruction
  rw [found]
  dsimp only
  rw [patch]
  rfl

theorem reconstruction_none (h : ∀ d ∈ s.book.cues, d.number.before n = true → ¬s.book.ofCutSong d → d.patchFor c = none) :
    s.reconstruction n c = none := by
  have empty : ((s.cuesBefore n).filter fun d => (d.patchFor c).isSome) = [] := by
    refine List.filter_eq_nil_iff.2 fun d hd => ?_
    obtain ⟨hd, both⟩ := List.mem_filter.1 hd
    simp only [Bool.and_eq_true, Bool.not_eq_true', cueCut_eq_false] at both
    rw [h d hd both.1 both.2]
    simp
  unfold State.reconstruction
  rw [empty]
  rfl

/-- What the reconstruction asks of a chair's slots and PATCH message, with the chair enabled (R93, R95, R171). -/
structure SlotRestored (s : State) (c : Chair) (sel : PatchSel) (slot : Dispatch) (msg : Option PatchMsg) : Prop where
  held : s.patch[c].flight = none → s.patch[c].waiting = none → s.patch[c].confirmed = .patch sel →
    slot = s.patch[c] ∧ msg = s.links[c].patchMsg
  sent : s.patch[c].flight = none → s.patch[c].waiting = none → s.patch[c].confirmed ≠ .patch sel →
    s.links[c].state = .locked → ∀ q : Patch, s.book.patch? c sel.number = some q →
      slot = Sent (.restore sel) s.time.tick { s.patch[c] with target := some sel } ∧
      msg = some { tag := s.patch[c].tag + 1#8, entries := q.list sel.variant }
  waits : s.patch[c].waiting = none →
    s.patch[c].flight ≠ none ∨ (s.patch[c].confirmed ≠ .patch sel ∧ s.links[c].state ≠ .locked) →
    slot = { s.patch[c] with target := some sel, waiting := some (.restore sel) } ∧ msg = s.links[c].patchMsg
  supersedes : ∀ q : PatchReq, s.patch[c].waiting = some q →
    slot = Resolved q .superseded { s.patch[c] with
      target := some sel, waiting := some (.restore sel), adhoc := if q = .adHoc then [] else s.patch[c].adhoc } ∧
    msg = s.links[c].patchMsg

/-- A chair's patch rebuilt: its slots and PATCH message alone change (R171). -/
theorem rebuildPatch_slot (hr : s.reconstruction n c = some sel)
    (hq : ∀ (m : CueNumber) (sel : PatchSel), s.patch[c].waiting ≠ some (.cue m false sel)) :
    ∃ slot msg, rebuildPatch n s c = withSlot c slot msg s ∧ SlotRestored s c sel slot msg := by
  have rebuilds : rebuildPatch n s c =
      if s.patch[c].confirmed ≠ .patch sel ∨ s.patch[c].flight.isSome ∨ s.patch[c].waiting.isSome then
        takeRequest c (.restore sel) [] s else s := by
    unfold rebuildPatch
    rw [hr]
  cases hw : s.patch[c].waiting with
  | some q =>
    have quiet : ∀ m : CueNumber, q.isOf m = false := fun m => by
      rw [Bool.eq_false_iff, Ne, isOf_iff]
      rintro ⟨sel, rfl⟩
      exact hq m sel hw
    rw [rebuilds, if_pos (.inr (.inr (by rw [hw]; rfl))), takeRequest_supersedes hw quiet, withSlot_dispatch]
    refine ⟨_, _, rfl, fun _ h => ?_, fun _ h => ?_, fun h => ?_, fun q' h => ?_⟩
    · rw [hw] at h; cases h
    · rw [hw] at h; cases h
    · rw [hw] at h; cases h
    · cases hw.symm.trans h
      exact ⟨rfl, rfl⟩
  | none =>
    by_cases hwaits : s.patch[c].flight ≠ none ∨ (s.patch[c].confirmed ≠ .patch sel ∧ s.links[c].state ≠ .locked)
    · rw [rebuilds, if_pos (hwaits.symm.imp And.left fun h => .inl (Option.isSome_iff_ne_none.2 h)), takeRequest_waits hw hwaits,
        withSlot_dispatch]
      refine ⟨_, _, rfl, fun hf _ hk => ?_, fun hf _ _ hl => ?_, fun _ _ => ⟨rfl, rfl⟩, fun q h => ?_⟩
      · exact (hwaits.elim (fun h => h hf) fun h => h.1 hk).elim
      · exact (hwaits.elim (fun h => h hf) fun h => h.2 hl).elim
      · rw [hw] at h; cases h
    · obtain ⟨hf, hl⟩ := not_or.1 hwaits
      rw [not_not] at hf
      by_cases hk : s.patch[c].confirmed = .patch sel
      · rw [rebuilds, if_neg (by rw [hf, hw]; exact not_or.2 ⟨fun h => h hk, by simp⟩)]
        refine ⟨_, _, ?_, fun _ _ _ => ⟨rfl, rfl⟩, fun _ _ h => absurd hk h, fun _ h => absurd h hwaits, fun q h => ?_⟩
        · rw [← withSlot_dispatch (fun d => d)]
          exact (onDispatch_eq_self rfl).symm
        · rw [hw] at h; cases h
      · have locked : s.links[c].state = .locked := not_not.1 fun h => hl ⟨hk, h⟩
        cases hc : s.book.patch? c sel.number with
        | none =>
          rw [rebuilds, if_pos (.inl hk), takeRequest_rejects hf hw hk locked hc, withSlot_dispatch]
          refine ⟨_, _, rfl, fun _ _ h => absurd h hk, fun _ _ _ _ q h => ?_, fun _ h => absurd h hwaits, fun q h => ?_⟩
          · rw [hc] at h; cases h
          · rw [hw] at h; cases h
        | some q =>
          have contents : s.contents c (.restore sel) = some (q.list sel.variant) := by
            show ((s.book.patch? c sel.number).map fun p => p.list sel.variant) = _
            rw [hc]
            rfl
          rw [rebuilds, if_pos (.inl hk), takeRequest_sends rfl hf hw hk locked contents, withSlot_link]
          refine ⟨_, _, rfl, fun _ _ h => absurd h hk, fun _ _ _ _ q' h => ?_, fun _ h => absurd h hwaits, fun q h => ?_⟩
          · cases hc.symm.trans h
            exact ⟨rfl, rfl⟩
          · rw [hw] at h; cases h

theorem restored_of_slot (hn : s.reconstruction n c = some sel) {slot : Dispatch} {msg : Option PatchMsg}
    (h : SlotRestored s c sel slot msg) (he : s.book.chairs[c].enabled = true) (hp : t.patch[c] = slot)
    (hm : t.links[c].patchMsg = msg) : s.restored t n c where
  kept hk := by
    rcases hk with hk | hk
    · rw [he] at hk; cases hk
    · rw [reconstruction_none hk] at hn; cases hn
  variant e p role r i q _ hsong hrole hi hpatch := by
    obtain ⟨song, hsong, hr⟩ := Option.bind_eq_some_iff.1 hsong
    exact variantFor_of_role hpatch hsong hr hrole hi
  base e p _ hsong := variantFor_base (by rw [hsong]; rfl)
  request _ e p sel' hr hsel := by
    have same : sel = sel' := Option.some.inj (hn.symm.trans ((reconstruction_of_reconstructs hr).trans (by rw [hsel])))
    subst same
    have number : sel.number = p := by rw [hsel]
    rw [hp, hm]
    exact ⟨fun hf hw => ⟨h.held hf hw, fun hk hl q hq => h.sent hf hw hk hl q (by rw [number]; exact hq)⟩, h.waits,
      h.supersedes⟩

theorem restored_of_kept (hk : s.book.chairs[c].enabled = false ∨ s.reconstruction n c = none)
    (hp : t.patch[c] = s.patch[c]) (hm : t.links[c].patchMsg = s.links[c].patchMsg) : s.restored t n c where
  kept _ := ⟨hp, hm⟩
  variant e p role r i q _ hsong hrole hi hpatch := by
    obtain ⟨song, hsong, hr⟩ := Option.bind_eq_some_iff.1 hsong
    exact variantFor_of_role hpatch hsong hr hrole hi
  base e p _ hsong := variantFor_base (by rw [hsong]; rfl)
  request he e p sel hr := by
    rcases hk with hk | hk
    · rw [he] at hk; cases hk
    · rw [reconstruction_of_reconstructs hr] at hk; cases hk

/-! ## The chairs one after another (R171, R172) -/

/-- The click enable that the cues before the resume cue give a chair (R172). -/
def rebuiltEnable (n : CueNumber) (s : State) (c : Chair) : Bool :=
  (((s.book.cues.filter fun d => d.number.before n && !s.book.cueCut d).filterMap (·.clickFor c)).getLast?).getD true

theorem getLast?_filterMap {α β : Type} (f : α → Option β) (l : List α) :
    (l.filter fun a => (f a).isSome).getLast?.bind f = (l.filterMap f).getLast? := by
  induction l using List.reverseRecOn with
  | nil => rfl
  | append_singleton l a ih =>
    rw [List.filter_append, List.filterMap_append]
    cases h : f a with
    | none => simpa [h] using ih
    | some b => simp [h]

theorem reconstructChair_eq (n : CueNumber) (s : State) (c : Chair) (hb : (rebuildPatch n s c).book = s.book) :
    reconstructChair n s c = if s.book.chairs[c].enabled then
      onClicks c (fun k => { k with enable := rebuiltEnable n s c }) (rebuildPatch n s c) else s := by
  have enable : rebuiltEnable n s c = (((((rebuildPatch n s c).cuesBefore n).filter fun k => (k.clickFor c).isSome).getLast?).bind
      (·.clickFor c)).getD true := by
    rw [getLast?_filterMap]
    unfold rebuiltEnable State.cuesBefore
    rw [hb]
  rw [enable]
  rfl

/-- From `s` to `t` the chairs of a list have been reconstructed for a resume at `n`, and no other. -/
structure Rebuilt (n : CueNumber) (s t : State) (l : List Chair) : Prop where
  frame : t = { s with patch := t.patch, links := t.links, clicks := t.clicks }
  away : ∀ c ∉ l, t.patch[c] = s.patch[c] ∧ t.links[c] = s.links[c] ∧ t.clicks[c] = s.clicks[c]
  link : ∀ c : Chair, t.links[c] = { s.links[c] with patchMsg := t.links[c].patchMsg }
  click : ∀ c ∈ l, t.clicks[c].enable = if s.book.chairs[c].enabled then rebuiltEnable n s c else s.clicks[c].enable
  restored : ∀ c ∈ l, ∀ u : State, u.patch[c] = t.patch[c] → u.links[c].patchMsg = t.links[c].patchMsg → s.restored u n c

theorem reconstructChair_off (he : s.book.chairs[c].enabled = false) : reconstructChair n s c = s :=
  if_neg (by rw [show (s.chairRec c).enabled = false from he]; simp)

/-- A chair reconstructed: its slots, its PATCH message and its click enable are written (R171, R172). -/
theorem reconstructChair_on (he : s.book.chairs[c].enabled = true)
    (hq : ∀ (m : CueNumber) (sel : PatchSel), s.patch[c].waiting ≠ some (.cue m false sel)) :
    ∃ slot msg, reconstructChair n s c =
        onClicks c (fun k => { k with enable := rebuiltEnable n s c }) (withSlot c slot msg s) ∧
      ∀ u : State, u.patch[c] = slot → u.links[c].patchMsg = msg → s.restored u n c := by
  have on := fun hb => (reconstructChair_eq n s c hb).trans (if_pos he)
  cases hr : s.reconstruction n c with
  | none =>
    have still : rebuildPatch n s c = s := by
      unfold rebuildPatch
      rw [hr]
    refine ⟨s.patch[c], s.links[c].patchMsg, ?_, fun u => restored_of_kept (.inr hr)⟩
    rw [on (by rw [still]), still, ← withSlot_dispatch fun d => d, onDispatch_eq_self rfl]
  | some sel =>
    obtain ⟨slot, msg, h, slotted⟩ := rebuildPatch_slot hr hq
    refine ⟨slot, msg, ?_, fun u => restored_of_slot hr slotted he⟩
    rw [on (by rw [h]; rfl), h]

theorem reconstructChair_rebuilds (hq : ∀ (m : CueNumber) (sel : PatchSel), s.patch[c].waiting ≠ some (.cue m false sel)) :
    Rebuilt n s (reconstructChair n s c) [c] := by
  cases he : s.book.chairs[c].enabled with
  | false =>
    rw [reconstructChair_off he]
    refine ⟨rfl, fun _ _ => ⟨rfl, rfl, rfl⟩, fun _ => rfl, fun d hd => ?_, fun d hd u => ?_⟩
    · cases List.mem_singleton.1 hd
      rw [he]
      rfl
    · cases List.mem_singleton.1 hd
      exact restored_of_kept (.inl he)
  | true =>
    obtain ⟨slot, msg, h, restored⟩ := reconstructChair_on (n := n) he hq
    have patch : ∀ d : Chair, (reconstructChair n s c).patch[d] = if d = c then slot else s.patch[d] := fun d => by
      rw [h]
      exact modifyAt_getElem ..
    have links : ∀ d : Chair, (reconstructChair n s c).links[d] =
        if d = c then { s.links[d] with patchMsg := msg } else s.links[d] := fun d => by
      rw [h]
      exact modifyAt_getElem ..
    have clicks : ∀ d : Chair, (reconstructChair n s c).clicks[d] =
        if d = c then { s.clicks[d] with enable := rebuiltEnable n s c } else s.clicks[d] := fun d => by
      rw [h]
      exact modifyAt_getElem ..
    refine ⟨by rw [h]; rfl, fun d hd => ?_, fun d => ?_, fun d hd => ?_, fun d hd u => ?_⟩
    · have other : d ≠ c := fun h => hd (List.mem_singleton.2 h)
      rw [patch, links, clicks, if_neg other, if_neg other, if_neg other]
      exact ⟨rfl, rfl, rfl⟩
    · rw [links]
      split
      · rfl
      · rfl
    · cases List.mem_singleton.1 hd
      rw [clicks, if_pos rfl, he]
      rfl
    · cases List.mem_singleton.1 hd
      rw [patch, links, if_pos rfl, if_pos rfl]
      exact restored u

theorem Rebuilt.nil (n : CueNumber) (s : State) : Rebuilt n s s [] :=
  ⟨rfl, fun _ _ => ⟨rfl, rfl, rfl⟩, fun _ => rfl, fun _ h => absurd h (by simp), fun _ h => absurd h (by simp)⟩

/-- What a reconstruction asks of a chair reads its own slots and link, the book and the time. -/
theorem restored_congr {patch : Vector Dispatch 16} {links : Vector Link 16} {clicks : Vector ClickChair 16}
    (hp : patch[c] = s.patch[c]) (hl : links[c] = s.links[c])
    (h : ({ s with patch := patch, links := links, clicks := clicks } : State).restored u n c) : s.restored u n c := by
  obtain ⟨kept, variant, base, request⟩ := h
  dsimp only at kept request
  rw [hp, hl] at kept request
  exact ⟨kept, variant, base, request⟩

theorem Rebuilt.cons {l : List Chair} (h : Rebuilt n s x [c]) (rest : Rebuilt n x t l) (hc : c ∉ l) : Rebuilt n s t (c :: l) := by
  have self := rest.away c hc
  have before : ∀ d ∈ l, x.patch[d] = s.patch[d] ∧ x.links[d] = s.links[d] ∧ x.clicks[d] = s.clicks[d] := fun d hd =>
    h.away d fun hm => hc (List.mem_singleton.1 hm ▸ hd)
  have frame := h.frame
  refine ⟨?_, fun d hd => ?_, fun d => ?_, fun d hd => ?_, fun d hd u hp hm => ?_⟩
  · rw [rest.frame, frame]
  · obtain ⟨hdc, hdl⟩ := not_or.1 (mt List.mem_cons.2 hd)
    obtain ⟨p1, l1, k1⟩ := rest.away d hdl
    obtain ⟨p2, l2, k2⟩ := h.away d fun hm => hdc (List.mem_singleton.1 hm)
    exact ⟨p1.trans p2, l1.trans l2, k1.trans k2⟩
  · rw [rest.link d, h.link d]
  · rcases List.mem_cons.1 hd with rfl | hd
    · rw [self.2.2]
      exact h.click d (by simp)
    · rw [rest.click d hd, (before d hd).2.2, frame]
      rfl
  · rcases List.mem_cons.1 hd with rfl | hd
    · exact h.restored d (by simp) u (hp.trans self.1) (hm.trans (congrArg Link.patchMsg self.2.1))
    · obtain ⟨patch, links, -⟩ := before d hd
      have restored := rest.restored d hd u hp hm
      rw [frame] at restored
      exact restored_congr patch links restored

theorem reconstructChairs_rebuild {l : List Chair} (hl : l.Nodup)
    (hq : ∀ c ∈ l, ∀ (m : CueNumber) (sel : PatchSel), s.patch[c].waiting ≠ some (.cue m false sel)) :
    Rebuilt n s (l.foldl (reconstructChair n) s) l := by
  induction l generalizing s with
  | nil => exact .nil n s
  | cons c l ih =>
    obtain ⟨hc, hl⟩ := List.nodup_cons.1 hl
    have first := reconstructChair_rebuilds (n := n) (hq c (by simp))
    refine first.cons (ih hl fun d hd => ?_) hc
    have other : d ∉ [c] := fun hm => hc (List.mem_singleton.1 hm ▸ hd)
    rw [(first.away d other).1]
    exact hq d (List.mem_cons_of_mem c hd)

end Sys2Proof.Proofs

/-! PROOFS. A RESUME at a BAR cue counts in (R74, R77, R80, R170, R174). -/

namespace Sys2Proof.Proofs

open Sys2Proof.Machine Sys2Proof.Laws

variable {s t u x y : State} {n m : CueNumber} {c : Chair} {e : Cue} {first : SongPos} {tempo : Nat} {sub : SubTick}
  {l : List Click} {song bar bars : Nat} {g : Segment}

/-! ## Hand-offs between steps that write the links otherwise -/

/-- Clicks handed over from `y` to `u`, where `y` has the due list and the queues of `s`, and `t` those of `u`. -/
theorem handsOver_between (hd : y.due = s.due) (hq : ∀ c : Chair, y.links[c].clickQueue = s.links[c].clickQueue)
    (h : Hands y u l) (same : SameClicks u t) (td : t.due = u.due)
    (tq : ∀ c : Chair, t.links[c].clickQueue = u.links[c].clickQueue) : s.handsOver t (fun _ => false) l := by
  obtain ⟨-, order, queues⟩ : y.handsOver u (fun _ => false) l := handsOver_of (.of_still rfl rfl) h
  refine ⟨⟨madeItem t, fun k _ => makesItem_madeItem t k, ?_⟩, ?_, fun c => ?_⟩
  · rw [td, h.due, funext (madeItem_congr (h.same.trans same)), ← hd]
    simp only [any_unfinished]
    simpa using withItems_perm l y.due
  · rw [td, same.tick, ← hd]
    exact order
  · rw [tq, queues c, hq, hd]
    refine congrArg _ (List.filter_congr fun k _ => ?_)
    rw [Bool.eq_iff_iff, decide_eq_true_eq, decide_eq_true_eq, late_congr same, receives_congr same]

theorem handsOver_congr (hd : x.due = s.due) (hq : ∀ c : Chair, x.links[c].clickQueue = s.links[c].clickQueue)
    {gone : Click → Bool} (h : x.handsOver t gone l) : s.handsOver t gone l := by
  obtain ⟨items, order, queues⟩ := h
  rw [hd] at items order
  refine ⟨items, order, fun c => ?_⟩
  rw [queues c, hq, hd]

theorem handsOver_owing {gone : Click → Bool} (h : s.handsOver t gone l) (a : Answer) : s.handsOver (owing a t) gone l :=
  ⟨h.items, h.order, h.queues⟩

theorem link_of_marks {a b : Link} {msg : Option PatchMsg} {queue : List Click} {mark : Option Bool}
    (h : a = { b with patchMsg := msg, clickQueue := queue, stopMark := mark }) :
    a = { b with patchMsg := a.patchMsg, clickQueue := a.clickQueue, stopMark := mark } := by
  rw [h]

/-! ## The count-in command (R74) -/

/-- The clock as it begins to count in, before the first song beat is fixed. -/
def counting (k : CountIn) (first : SongPos) (tempo : Nat) (s : State) : State :=
  { s with
    clock := { s.clock.dropFollow with
      state := .counting, vamp := none, holdDue := false, pos := some first, tempo := tempo, ending := none
      countIn := some k }
    port := { s.port with flags := s.port.flags |||
      (if s.clock.state = .counting then 0#10 else EventFlag.clockChange.bit) } }

theorem setClockState_counting (k : CountIn) (first : SongPos) (tempo : Nat) (s : State) :
    setClockState .counting { s with clock := { s.clock.dropFollow with
      vamp := none, holdDue := false, pos := some first, tempo := tempo, ending := none, countIn := some k } } =
    counting k first tempo s := by
  unfold counting
  by_cases h : s.clock.state = .counting
  · rw [if_pos h, BitVec.or_zero, ← h]
    exact if_pos rfl
  · rw [if_neg h, setClockState_runs (by decide) (by decide) (by exact h)]
    rfl

/-- The count-in's first click, where the count has one (R74). -/
def firstClicks (k : CountIn) (tempo : Nat) : List Click := if k.total = 0 then [] else [k.click tempo 0]

theorem countInCommand_counts {k : CountIn} (hg : s.book.governing? song bar = some g)
    (hfirst : first = { song := song, bar := bar, beat := 1 }) (htempo : tempo = s.book.mappedTempo none first)
    (hk : k = { total := bars * g.beatsPerBar, given := if bars * g.beatsPerBar = 0 then 0 else 1, reached := 0
                interval := beatInterval tempo, first := subOfTick (s.time.tick + 480#32), perBar := g.beatsPerBar }) :
    countInCommand song bar bars s = fixNext first (subAfter k.first (k.total * k.interval)) tempo
      ((firstClicks k tempo).foldl (fun s k => handOffClick k s) (counting k first tempo s)) := by
  have sets := setClockState_counting k first tempo s
  unfold countInCommand
  rw [hg]
  dsimp only
  rw [State.now, ← hfirst, ← htempo, ← hk]
  rw [sets, hk]
  unfold firstClicks
  split
  · rfl
  · rfl

/-- The count-in hands its first click over, announces the first song beat and hands its click over (R74, R77). -/
theorem countInCommand_announced {k : CountIn} {next : SubTick} {held : List BarTrigger}
    (hg : s.book.governing? song bar = some g) (hfirst : first = { song := song, bar := bar, beat := 1 })
    (htempo : tempo = s.book.mappedTempo none first)
    (hk : k = { total := bars * g.beatsPerBar, given := if bars * g.beatsPerBar = 0 then 0 else 1, reached := 0
                interval := beatInterval tempo, first := subOfTick (s.time.tick + 480#32), perBar := g.beatsPerBar })
    (hnext : next = subAfter k.first (k.total * k.interval))
    (announced : Announced s none (some first) (tickOfSub next) held) :
    ∃ t : State, countInCommand song bar bars s = (t, []) ∧
      t = { counting k first tempo s with
        clock := { (counting k first tempo s).clock with next := some { pos := first, sub := next } }
        cue := { s.cue with triggers := held }, due := t.due, links := t.links } ∧
      Hands s t (firstClicks k tempo ++ [songBeatClick first (tickOfSub next) tempo]) := by
  obtain ⟨due, links, hl, hands⟩ := handOffClicks (firstClicks k tempo) (counting k first tempo s)
  obtain ⟨due', links', fixed, hands'⟩ := fixNext_announced (sub := next)
    (x := { counting k first tempo s with due := due, links := links }) announced rfl rfl rfl rfl tempo
  have still : Hands s (counting k first tempo s) [] := .of_still ⟨rfl, rfl, Iff.rfl, rfl, rfl, fun _ => rfl⟩ rfl rfl
  refine ⟨_, ?_, rfl, (still.trans hands).trans hands'⟩
  rw [countInCommand_counts hg hfirst htempo hk, hl, ← hnext]
  exact fixed

/-! ## The Stop Controller's part (R174) -/

theorem handStopMarks_link (on : Bool) (s : State) (c : Chair) : (handStopMarks on s).links[c] =
    { s.links[c] with stopMark := if s.links[c].state = .locked then some on else s.links[c].stopMark } := by
  unfold handStopMarks
  rw [show (tabulateChairs _ : Vector Link 16)[c] = _ from tabulateChairs_getElem ..]
  split
  · rfl
  · rfl

/-- The state from which the clock counts in: the stop state is COUNT_IN (R174; log 33). -/
def stopCounting (s : State) : State := flag .stopChange { s with stop := { s.stop with state := .countIn } }

theorem resumeCounting_counts {k : CountIn} {next : SubTick} (hs : s.stop.state = .stopped) (ho : s.cue.isOpen = true)
    (hnone : s.cue.triggers = []) (hg : s.book.governing? song bar = some g)
    (hfirst : first = { song := song, bar := bar, beat := 1 }) (htempo : tempo = s.book.mappedTempo none first)
    (hk : k = { total := bars * g.beatsPerBar, given := if bars * g.beatsPerBar = 0 then 0 else 1, reached := 0
                interval := beatInterval tempo, first := subOfTick (s.time.tick + 480#32), perBar := g.beatsPerBar })
    (hnext : next = subAfter k.first (k.total * k.interval))
    (later : ∀ (d : Cue) (e : BarTrigger), s.announces none first (tickOfSub next) d e →
      tickReached s.time.tick e.tick = false) :
    ∃ t : State, resumeCounting song bar bars s = (t, []) ∧
      t = { s with
        clock := { (counting k first tempo s).clock with next := some { pos := first, sub := next } }
        cue := { s.cue with triggers := t.cue.triggers }, due := t.due, links := t.links
        stop := { s.stop with state := .countIn }
        overlay := { s.overlay with stopCard := none, countCard := some none }
        port := { s.port with flags := s.port.flags ||| EventFlag.stopChange.bit |||
          (if s.clock.state = .counting then 0#10 else EventFlag.clockChange.bit) } } ∧
      (∀ e : BarTrigger, e ∈ t.cue.triggers ↔ ∃ d : Cue, s.announces none first (tickOfSub next) d e) ∧
      (∀ chair : Chair, t.links[chair] = { s.links[chair] with
        clickQueue := t.links[chair].clickQueue
        stopMark := if s.links[chair].state = .locked then some false else s.links[chair].stopMark }) ∧
      s.handsOver t (fun _ => false) (firstClicks k tempo ++ [songBeatClick first (tickOfSub next) tempo]) := by
  have stops : setStopState .countIn s = stopCounting s := if_neg (by rw [hs]; simp)
  have same : ∀ (d : Cue) (e : BarTrigger),
      (stopCounting s).announces none first (tickOfSub next) d e ↔ s.announces none first (tickOfSub next) d e := fun d e =>
    announces_congr (t := stopCounting s) rfl fun _ => rfl
  obtain ⟨held, announced, mem⟩ := announced_of_open (s := stopCounting s) (v := none) (tick := tickOfSub next)
    (onward := some first) ho (fun pos d e hpos ha => by
      cases hpos
      exact later d e ((same d e).1 ha))
  obtain ⟨u, counts, frame, hands⟩ := countInCommand_announced (s := stopCounting s) (bars := bars) hg hfirst htempo hk hnext
    announced
  have queue : ∀ c : Chair, u.links[c] = { s.links[c] with clickQueue := u.links[c].clickQueue } := fun c => by
    rw [hands.links c]
    rfl
  refine ⟨{ handStopMarks false u with overlay := { u.overlay with stopCard := none, countCard := some none } }, ?_, ?_,
    fun e => ?_, fun c => ?_, handsOver_between (y := stopCounting s) rfl (fun _ => rfl) hands ?_ rfl fun c => ?_⟩
  · unfold resumeCounting
    rw [stops, counts]
    rfl
  · rw [frame]
    rfl
  · have held_eq : u.cue.triggers = held := by rw [frame]
    show e ∈ u.cue.triggers ↔ _
    rw [held_eq, mem e, show (stopCounting s).cue.triggers = [] from hnone]
    simp [same]
  · show (handStopMarks false u).links[c] = { s.links[c] with
      clickQueue := (handStopMarks false u).links[c].clickQueue
      stopMark := if s.links[c].state = .locked then some false else s.links[c].stopMark }
    rw [handStopMarks_link, queue c]
  · refine ⟨rfl, rfl, Iff.rfl, rfl, rfl, fun c => ?_⟩
    exact (congrArg Link.state (handStopMarks_link false u c) :)
  · exact (congrArg Link.clickQueue (handStopMarks_link false u c) :)

/-! ## The resume -/

theorem restored_of_cues {cue : CueEngine} {overlay : Overlay} {stop : StopController} {port : Port}
    (h : ({ s with cue := cue, overlay := overlay, stop := stop, port := port } : State).restored u n c) : s.restored u n c :=
  ⟨h.kept, h.variant, h.base, h.request⟩

theorem rewritten_of_port {stop : StopController} {port : Port}
    (h : ({ s with stop := stop, port := port } : State).rewritten t n) : s.rewritten t n :=
  ⟨h.lastFired, h.timers, h.guard, h.standby, h.runs, h.marks, h.enables⟩

theorem resumeCheck_passes {beat lead : Nat} (h : s.resumes n e bars) (ht : e.trigger = .bar bar beat lead)
    (hsong : e.song = some song) (hg : s.book.governing? song bar = some g) : s.resumeCheck n bars = .ok e := by
  have few : ¬4 < bars := by have := h.bars; omega
  have kept : s.book.cueCut e = false := (cueCut_eq_false ..).2 h.notCut
  unfold State.resumeCheck
  rw [h.range, h.isOpen, h.stopped, h.line, h.fault, h.record]
  simp [few, kept, ht, hsong, hg]

theorem sources_released {x : SourceSet} (hl : x.line = false) (hf : x.fault = false) :
    { x with host := false, pad := false } = SourceSet.empty := by
  cases x
  cases hl
  cases hf
  rfl

/-- The HOST and PAD sources released by a RESUME (R170). -/
def released (s : State) : State :=
  { s.taking with stop := { s.stop with held := { s.stop.held with host := false, pad := false } } }

/-- The state that a RESUME reconstructs its chairs in, its run states rewritten (R47, R170). -/
def resumed (n : CueNumber) (s : State) : State := rewriteRuns n (released s)

theorem exec_resume {beat lead : Nat} (h : s.resumes n e bars) (ht : e.trigger = .bar bar beat lead)
    (hsong : e.song = some song) (hg : s.book.governing? song bar = some g) :
    exec (.resume n.major n.minor bars) s = .next (owing (plain .ok)
      (settleBars (resumeCounting song bar bars (allChairs.foldl (reconstructChair n) (resumed n s))))) := by
  have number : e.number = n := (cue?_key h.record).2
  have check : s.taking.resumeCheck n bars = .ok e := by
    refine Eq.trans ?_ (resumeCheck_passes h ht hsong hg)
    rfl
  refine (request_decided h.taken (t := resumeAt e bars s.taking) (a := plain .ok) ?_).trans ?_
  · unfold decideResume
    rw [show ({ major := n.major, minor := n.minor } : CueNumber) = n from rfl, check]
  · unfold resumeAt
    dsimp only
    rw [ht, hsong, number]
    rfl

/-- The state as a RESUME has rewritten the run states and reconstructed every chair (R47, R170 to R172). -/
structure Reconstructed (n : CueNumber) (s r : State) : Prop where
  frame : r = { s with
    cue := r.cue, clicks := r.clicks, patch := r.patch, links := r.links, overlay := r.overlay
    stop := { s.stop with held := SourceSet.empty }, port := s.taking.port }
  rewritten : ∀ t : State, t.cue = { r.cue with triggers := t.cue.triggers } → t.clicks = r.clicks → s.rewritten t n
  restored : ∀ t : State, t.patch = r.patch → (∀ c : Chair, t.links[c].patchMsg = r.links[c].patchMsg) →
    ∀ c : Chair, s.restored t n c
  links : ∀ c : Chair, r.links[c] = { s.links[c] with patchMsg := r.links[c].patchMsg }
  triggers : r.cue.triggers = []
  held : r.cue.held = none
  holdCandidate : r.cue.holdCandidate = none
  isOpen : r.cue.isOpen = true
  standby : r.overlay.standby = r.cue.standby

theorem reconstructed (h : s.resumes n e bars) (hf : e.isFollow = false) :
    Reconstructed n s (allChairs.foldl (reconstructChair n) (resumed n s)) := by
  obtain ⟨runs, standby, frame⟩ := rewriteRuns_frame (s := released s) h.record hf
  have rebuilt : Rebuilt n (resumed n s) (allChairs.foldl (reconstructChair n) (resumed n s)) allChairs :=
    reconstructChairs_rebuild (by decide) fun c _ m sel => by
      unfold resumed
      rw [frame]
      exact h.noCueWaits c m sel
  have every : ∀ c : Chair, c ∈ allChairs := by decide
  generalize allChairs.foldl (reconstructChair n) (resumed n s) = r at rebuilt ⊢
  have whole := rebuilt.frame
  have as : resumed n s = _ := frame
  have cue : r.cue = (resumed n s).cue := by rw [whole]
  refine ⟨?_, fun t htc htk => ?_, fun t htp htm c => ?_, fun c => ?_, ?_, ?_, ?_, ?_, ?_⟩
  · have stop : (released s).stop = { s.stop with held := SourceSet.empty } :=
      congrArg (fun x => ({ s.stop with held := x } : StopController)) (sources_released h.line h.fault)
    rw [whole, as, stop]
    rfl
  · have rewritten : (released s).rewritten t n :=
      rewritten_of_rewriteRuns h.isOpen h.once h.entries h.record hf (htc.trans (by rw [cue]; rfl)) fun c => by
        rw [htk, rebuilt.click c (every c), as]
        rfl
    exact rewritten_of_port rewritten
  · have restored := rebuilt.restored c (every c) t (by rw [htp]) (htm c)
    rw [as] at restored
    exact restored_of_cues restored
  · rw [rebuilt.link c, as]
    rfl
  · rw [cue, as]
  · rw [cue, as]
  · rw [cue, as]
  · rw [cue, as]
    exact h.isOpen
  · rw [whole, as]

/-- A cue that the reconstruction leaves PENDING is no cue before the resume cue, and does not fire. -/
theorem Reconstructed.pending {r : State} (h : Reconstructed n s r) {d : Cue} (hd : d ∈ s.book.cues)
    (hp : r.runState d.number = .pending) : s.runState d.number ≠ .firing ∧ d.number.before n = false := by
  have run := (h.rewritten r rfl rfl).runs d hd
  rw [hp] at run
  split at run
  · cases run
  next firing =>
    refine ⟨firing, ?_⟩
    split at run
    · cases run
    · split at run
      · split at run
        · cases run
        · cases run
      next before => simpa using before

/-- Settles O37: the run states and the chairs are rebuilt, and the count-in command is given from there. -/
theorem resumeAtABarCueCountsIn : Obligations.ResumeAtABarCueCountsIn := by
  intro n c bars bar beat lead song tempo total interval g first start next s hres ht hsong hg hfirst htempo htotal hinterval
    hstart hnext later
  have notFollow : c.isFollow = false := by simp [Cue.isFollow, ht]
  have made := reconstructed hres notFollow
  have runs := exec_resume hres ht hsong hg
  generalize allChairs.foldl (reconstructChair n) (resumed n s) = r at made runs
  have book : r.book = s.book := by rw [made.frame]
  have time : r.time = s.time := by rw [made.frame]
  let k : CountIn := { total := total, given := if total = 0 then 0 else 1, reached := 0, interval := interval
                       first := start, perBar := g.beatsPerBar }
  have count : k = { total := bars * g.beatsPerBar, given := if bars * g.beatsPerBar = 0 then 0 else 1, reached := 0
                     interval := beatInterval tempo, first := subOfTick (r.time.tick + 480#32), perBar := g.beatsPerBar } := by
    rw [time, ← htotal, ← hstart]
    exact congrArg (fun i => ({ k with interval := i } : CountIn)) hinterval
  have beats : s.book.beatsIn song bar = g.beatsPerBar := by
    unfold Book.beatsIn
    rw [hg]
  obtain ⟨u, counts, frame, triggers, links, handed⟩ := resumeCounting_counts (s := r) (bars := bars) (next := next)
    (by rw [made.frame]; exact hres.stopped) made.isOpen made.triggers (by rw [book]; exact hg) hfirst
    (by rw [book]; exact htempo) count hnext (fun d e ha => by
      obtain ⟨present, pending, -, beat', lead', trigger, song', on, rfl⟩ := ha
      rw [book] at present on
      subst hfirst
      dsimp only at trigger song' on
      rw [beats] at on
      obtain ⟨firing, before⟩ := made.pending present pending
      rw [time]
      exact later d present beat' lead' trigger song' before firing (on.imp_right And.left))
  rw [counts, settleBars_nil] at runs
  have fixed : ∀ (d : Cue) (e : BarTrigger),
      (owing (plain .ok) u).announces none first (tickOfSub next) d e ↔ r.announces none first (tickOfSub next) d e :=
    fun d e => announces_congr (by rw [frame]; rfl) fun m => by rw [frame]; rfl
  have clock : r.clock = s.clock := by rw [made.frame]
  have due : r.due = s.due := by rw [made.frame]
  refine ⟨_, runs, rfl, made.rewritten _ (by rw [frame]; rfl) (by rw [frame]; rfl),
    made.restored _ (by rw [frame]; rfl) fun chair => (congrArg Link.patchMsg (links chair) :), ?_, ?_, ?_, ?_, ?_, fun e => ?_,
    ?_, ?_, ?_, ?_, fun chair => ?_, ?_⟩
  · rw [frame, made.frame]
    rfl
  · rw [frame, made.frame]
    rfl
  · rw [frame]
    show { (counting k first tempo r).clock with next := some { pos := first, sub := next } } = _
    unfold counting
    rw [clock]
    rfl
  · rw [frame]
    exact made.held
  · rw [frame]
    exact made.holdCandidate
  · refine (triggers e).trans (exists_congr fun d => (fixed d e).symm)
  · rw [frame]
    rfl
  · rw [frame]
    rfl
  · rw [frame]
    exact made.standby
  · rw [frame, made.frame]
    rfl
  · show u.links[chair] = _
    exact link_of_marks ((links chair).trans (by rw [made.links chair]))
  · have countIn : (owing (plain .ok) u).clock.countIn = some k := by rw [frame]; rfl
    have clicks : firstClicks k tempo =
        if total = 0 then [] else (owing (plain .ok) u).clock.countIn.toList.map fun k => k.click tempo 0 := by
      rw [countIn]
      rfl
    rw [← clicks]
    exact handsOver_owing (handsOver_congr due (fun c => (congrArg Link.clickQueue (made.links c) :)) handed) _

end Sys2Proof.Proofs

/-! PROOFS. One sample's evaluation of the electrodes (R125 to R127, R133). -/

namespace Sys2Proof.Proofs

open Sys2Proof.Machine Sys2Proof.Laws

variable {e : Electrode} {set : Settings} {tick : Tick} {blocked : Bool} {count : Nat} {p q : Pad} {y z : Zone}
  {counts : Vector Nat 5}

/-! ## Levels (R126) -/

theorem threshold_le (e : Electrode) (fraction count : Nat) :
    threshold e.baseline fraction ≤ (count : Int) - e.baseline ↔ e.reaches fraction count := by
  unfold threshold Electrode.reaches Electrode.baseline
  omega

/-- The level of a touch as it begins (R126). -/
def touchLevel (set : Settings) (e : Electrode) (count : Nat) : Level :=
  if threshold e.baseline set.deep ≤ (count : Int) - e.baseline then .deep else .touch

theorem touchLevel_deep (h : e.reaches set.deep count) : touchLevel set e count = .deep := if_pos ((threshold_le ..).2 h)

theorem touchLevel_touch (h : ¬e.reaches set.deep count) : touchLevel set e count = .touch := if_neg (mt (threshold_le ..).1 h)

theorem touchLevel_ne_idle : touchLevel set e count ≠ .idle := by
  unfold touchLevel
  split <;> simp

theorem nextLevel_begins (h : e.begins set count) : nextLevel set e count = touchLevel set e count := by
  obtain ⟨idle, reached⟩ := h
  unfold nextLevel
  rw [idle]
  exact if_pos ((threshold_le ..).2 reached)

theorem nextLevel_rests (h : e.rests set count) : nextLevel set e count = .idle := by
  obtain ⟨idle, below⟩ := h
  unfold nextLevel
  rw [idle]
  exact if_neg (mt (threshold_le ..).1 below)

theorem nextLevel_touched (h : e.level ≠ .idle) :
    nextLevel set e count = .idle ↔ ¬e.reaches (set.touch - set.hysteresis) count := by
  rw [← threshold_le, not_le]
  unfold nextLevel
  cases hl : e.level with
  | idle => exact absurd hl h
  | touch =>
    dsimp only
    split
    next hr => simp [hr]
    next hr => split <;> simp [hr]
  | deep =>
    dsimp only
    split
    next hr => simp [hr]
    next hr => split <;> simp [hr]

/-! ## What an evaluation finds (R125 to R127, R133) -/

theorem isStuck_iff : e.isStuck tick = true ↔ e.overstays tick := by
  unfold Electrode.isStuck Electrode.overstays Electrode.touched ticksFrom
  cases e.onset <;> simp

theorem isStuck_idle (h : e.level = .idle) : e.isStuck tick = false := by
  rw [Bool.eq_false_iff, Ne, isStuck_iff]
  exact fun hs => hs.1 h

/-- An electrode with no touch on it, after a sample that leaves it idle. -/
def Released (blocked : Bool) (count : Nat) (e : Electrode) : Electrode :=
  { b16 := if blocked = false then moveBaseline e.b16 count else e.b16, level := .idle, onset := none, void := false }

theorem evaluate_released (hs : e.isStuck tick = false) (h : nextLevel set e count = .idle) :
    evaluate set tick blocked count e = { electrode := Released blocked count e, began := false, stuck := false } := by
  unfold evaluate
  rw [hs, h]
  simp [Released]

theorem evaluate_rests (h : e.rests set count ∨ e.lifts set tick count) :
    evaluate set tick blocked count e = { electrode := Released blocked count e, began := false, stuck := false } := by
  rcases h with ⟨idle, below⟩ | ⟨touched, brief, below⟩
  · exact evaluate_released (isStuck_idle idle) (nextLevel_rests ⟨idle, below⟩)
  · exact evaluate_released (by rwa [Bool.eq_false_iff, Ne, isStuck_iff]) ((nextLevel_touched touched).2 below)

theorem evaluate_begins (h : e.begins set count) : evaluate set tick blocked count e = {
    electrode := { e with level := touchLevel set e count, onset := some tick, void := blocked }
    began := true, stuck := false } := by
  unfold evaluate
  rw [isStuck_idle h.1, nextLevel_begins h, h.1]
  simp [touchLevel_ne_idle]

/-- A touch that goes on keeps its onset, its void mark and the baseline under it. -/
theorem evaluate_lasts (h : e.lasts set tick count) : ∃ level : Level, level ≠ .idle ∧
    evaluate set tick blocked count e = { electrode := { e with level := level }, began := false, stuck := false } := by
  obtain ⟨touched, brief, reached⟩ := h
  have stays : nextLevel set e count ≠ .idle := fun hn => (nextLevel_touched touched).1 hn reached
  have brief : e.isStuck tick = false := by rwa [Bool.eq_false_iff, Ne, isStuck_iff]
  refine ⟨nextLevel set e count, stays, ?_⟩
  unfold evaluate
  rw [brief]
  simp [stays, touched]

theorem evaluate_overstays (h : e.overstays tick) : evaluate set tick blocked count e = {
    electrode := { b16 := 16 * count, level := .idle, onset := none, void := false }, began := false, stuck := true } := by
  unfold evaluate
  rw [isStuck_iff.2 h]
  rfl

/-- An electrode that is not reseeded keeps its baseline while its pad is blocked, and a touch on it is void where it was
void or begins then (R125, R127). -/
theorem evaluate_blocked (h : ¬e.overstays tick) (hv : e.level ≠ .idle → e.void = true) :
    (evaluate set tick true count e).stuck = false ∧ (evaluate set tick true count e).electrode.b16 = e.b16 ∧
      ((evaluate set tick true count e).electrode.level ≠ .idle → (evaluate set tick true count e).electrode.void = true) := by
  have brief : e.isStuck tick = false := by rwa [Bool.eq_false_iff, Ne, isStuck_iff]
  unfold evaluate
  rw [brief]
  refine ⟨rfl, by simp, fun hl => ?_⟩
  have hl : nextLevel set e count ≠ .idle := hl
  by_cases idle : e.level = .idle
  · simp [hl, idle]
  · simp [hl, idle, hv idle]

/-! ## The row (R125, step 4) -/

/-- What a sample finds on an electrode of the pad. -/
def found (set : Settings) (tick : Tick) (counts : Vector Nat 5) (p : Pad) (z : Zone) : Evaluation :=
  evaluate set tick p.blocking counts[z] p.electrodes[z]

/-- A touch begins there that is counted. -/
def joins (set : Settings) (tick : Tick) (counts : Vector Nat 5) (p : Pad) (z : Zone) : Bool :=
  (found set tick counts p z).began && (found set tick counts p z).electrode.counted

/-- The pad with one electrode as the sample leaves it. -/
def withElectrode (set : Settings) (tick : Tick) (counts : Vector Nat 5) (z : Zone) (p : Pad) : Pad :=
  { p with electrodes := modifyAt p.electrodes z fun _ => (found set tick counts p z).electrode }

theorem evaluateRow_brief (h : (found set tick counts p z).stuck = false) (l : List Zone) :
    Pad.evaluateRow set tick counts (p, l) z =
      (withElectrode set tick counts z p, if joins set tick counts p z then l ++ [z] else l) := if_neg (by
  rw [show (evaluate set tick p.blocking counts[z] p.electrodes[z]).stuck = false from h]
  simp)

theorem found_other (h : y ≠ z) : found set tick counts (withElectrode set tick counts z p) y = found set tick counts p y := by
  unfold found withElectrode
  rw [modifyAt_getElem, if_neg h]

/-- The row where no touch is reseeded. -/
theorem evaluateRows_brief {zs : List Zone} (hz : zs.Nodup) (hs : ∀ z ∈ zs, (found set tick counts p z).stuck = false)
    (l : List Zone) : ∃ es, zs.foldl (Pad.evaluateRow set tick counts) (p, l) =
        ({ p with electrodes := es }, l ++ zs.filter (joins set tick counts p)) ∧
      ∀ y : Zone, es[y] = if y ∈ zs then (found set tick counts p y).electrode else p.electrodes[y] := by
  induction zs generalizing p l with
  | nil => exact ⟨p.electrodes, by simp, fun y => by simp⟩
  | cons z zs ih =>
    obtain ⟨hnot, hz⟩ := List.nodup_cons.1 hz
    have other : ∀ y ∈ zs, found set tick counts (withElectrode set tick counts z p) y = found set tick counts p y :=
      fun y hy => found_other fun h => hnot (h ▸ hy)
    obtain ⟨es, rows, each⟩ := ih (p := withElectrode set tick counts z p) hz
      (fun y hy => by rw [other y hy]; exact hs y (List.mem_cons_of_mem z hy))
      (if joins set tick counts p z then l ++ [z] else l)
    refine ⟨es, ?_, fun y => ?_⟩
    · rw [List.foldl_cons, evaluateRow_brief (hs z (by simp)), rows]
      have filters : zs.filter (joins set tick counts (withElectrode set tick counts z p)) =
          zs.filter (joins set tick counts p) := List.filter_congr fun y hy => by
        unfold joins
        rw [other y hy]
      rw [filters]
      refine Prod.ext rfl ?_
      by_cases h : joins set tick counts p z = true
      · simp [h]
      · simp [h]
    · rw [each y]
      by_cases hy : y ∈ zs
      · rw [if_pos hy, other y hy, if_pos (List.mem_cons_of_mem z hy)]
      · rw [if_neg hy]
        by_cases hyz : y = z
        · subst hyz
          rw [if_pos (by simp)]
          exact (modifyAt_getElem ..).trans (if_pos rfl)
        · rw [if_neg (by simp [hy, hyz])]
          exact (modifyAt_getElem ..).trans (if_neg hyz)

theorem mem_rowZones : z ∈ rowZones ↔ z ≠ 0 := by
  revert z
  decide

/-! ## Void marks (R127, R128) -/

/-- A touch that takes a void mark. -/
def Voided (e : Electrode) : Electrode := if e.touched then { e with void := true } else e

theorem foldl_modifyAt {α : Type} {m : Nat} (f : α → α) {zs : List (Fin m)} (hz : zs.Nodup) (v : Vector α m) (y : Fin m) :
    (zs.foldl (fun v z => modifyAt v z f) v)[y] = if y ∈ zs then f v[y] else v[y] := by
  induction zs generalizing v with
  | nil => simp
  | cons z zs ih =>
    obtain ⟨hnot, hz⟩ := List.nodup_cons.1 hz
    rw [List.foldl_cons, ih hz, modifyAt_getElem]
    by_cases hy : y = z
    · subst hy
      rw [if_neg hnot, if_pos rfl, if_pos (by simp)]
    · simp [hy]

theorem voidRow_getElem (es : Vector Electrode 5) (hy : y ≠ 0) : (voidRow es)[y] = Voided es[y] :=
  (foldl_modifyAt Voided (by decide) es y).trans (if_pos (mem_rowZones.2 hy))

theorem cancel_none (h : p.contact = none) : p.cancel tick = p := by
  unfold Pad.cancel
  rw [h]

theorem cancel_some {k : Contact} (h : p.contact = some k) : p.cancel tick = { p with
    contact := none, last := some (k.cancelledAt tick), holdPoint := none, stopPoint := none
    electrodes := voidRow p.electrodes, counts := { p.counts with cancelled := bump p.counts.cancelled } } := by
  unfold Pad.cancel
  rw [h]
  rfl

/-! ## The sample in its steps (R125) -/

/-- The pad as a sample arrives (step 1). -/
def stamped (tick : Tick) (counts : Vector Nat 5) (p : Pad) : Pad :=
  { p with lastTick := some tick, lastCounts := some counts, watch := some (tick + ticks 1920) }

/-- The pad as a sample's ring has been evaluated (step 2). -/
def ringed (set : Settings) (tick : Tick) (counts : Vector Nat 5) (p : Pad) : Pad :=
  let f := evaluate set tick false counts[0] p.electrodes[(0 : Zone)]
  { p with
    electrodes := modifyAt p.electrodes 0 fun _ => f.electrode
    counts := if f.stuck then { p.counts with stuckReseeds := bump p.counts.stuckReseeds } else p.counts }

/-- Blocking as the ring sets it (step 3, R127). -/
def blockedBy (touched : Bool) (tick : Tick) (p : Pad) : Pad :=
  { (if touched && !p.blocking then { p.cancel tick with electrodes := voidRow (p.cancel tick).electrodes } else p) with
    blocking := touched }

/-- The contact at the end of a sample (step 5, R128). -/
def contactStep (tick : Tick) (r : Pad × List Zone) : Pad × Option Contact :=
  (((r.1.joinTouches tick (r.2.filter fun z => r.1.electrodes[z].counted)).deepen).markStopPoint tick).endContact tick

theorem takeSample_eq (set : Settings) (tick : Tick) (counts : Vector Nat 5) (p : Pad) : p.takeSample set tick counts =
    contactStep tick (rowZones.foldl (Pad.evaluateRow set tick counts)
      (blockedBy (evaluate set tick false counts[0] p.electrodes[(0 : Zone)]).electrode.touched tick
        (ringed set tick counts (stamped tick counts p)), [])) := by
  unfold Pad.takeSample contactStep blockedBy ringed stamped
  dsimp only

end Sys2Proof.Proofs

/-! PROOFS. The contact at a sample: its touches, its points and its end (R127 to R133). -/

namespace Sys2Proof.Proofs

open Sys2Proof.Machine Sys2Proof.Laws

variable {e : Electrode} {set : Settings} {tick : Tick} {p q : Pad} {y z : Zone} {counts : Vector Nat 5} {k : Contact}
  {l : List Zone} {o : ContactOutcome}

/-! ## The contact's step (R128) -/

theorem deepen_none (h : q.contact = none) : q.deepen = q := by
  obtain ⟨_, _, _, _, _, contact⟩ := q
  cases h
  exact ite_self _

theorem markStopPoint_none (h : q.contact = none) : q.markStopPoint tick = q := by
  unfold Pad.markStopPoint
  rw [h]

theorem endContact_none (h : q.contact = none) : q.endContact tick = (q, none) := by
  unfold Pad.endContact
  rw [h]

theorem joinTouches_nil : q.joinTouches tick [] = q := rfl

/-- With no contact in progress and no counted touch that begins, the sample gives none. -/
theorem contactStep_none (h : q.contact = none) (hl : ∀ z ∈ l, q.electrodes[z].counted = false) :
    contactStep tick (q, l) = (q, none) := by
  have joined : l.filter (fun z => q.electrodes[z].counted) = [] := List.filter_eq_nil_iff.2 fun z hz => Bool.eq_false_iff.1 (hl z hz)
  unfold contactStep
  dsimp only
  rw [joined, joinTouches_nil, deepen_none h, markStopPoint_none h, endContact_none h]

theorem countedZones_nil (h : ∀ y : Zone, y ≠ 0 → q.electrodes[y].counted = false) : q.countedZones = [] :=
  List.filter_eq_nil_iff.2 fun y hy => Bool.eq_false_iff.1 (h y (mem_rowZones.1 hy))

/-- The contact that ends at a tick. -/
def ended (tick : Tick) (k : Contact) : Contact :=
  { k with release := some tick, duration := (tick - k.onset).toNat, outcome := some (k.judge tick) }

theorem endContact_lifted (h : q.contact = some k) (hl : q.countedZones = []) :
    q.endContact tick = ({ q with
      contact := none, holdPoint := none, stopPoint := none, last := some (ended tick k)
      counts := if k.spent then q.counts else q.counts.after (k.judge tick) },
      if k.spent then none else some (ended tick k)) := by
  unfold Pad.endContact
  rw [h, hl]
  rfl

theorem endContact_goesOn (h : q.contact = some k) (hz : z ≠ 0) (hc : q.electrodes[z].counted = true) :
    q.endContact tick = (q, none) := by
  have some_counted : q.countedZones.isEmpty = false :=
    List.isEmpty_eq_false_iff_exists_mem.2 ⟨z, List.mem_filter.2 ⟨mem_rowZones.2 hz, hc⟩⟩
  unfold Pad.endContact
  rw [h]
  dsimp only
  rw [some_counted]
  rfl

/-- The contact ends when every touch has lifted. -/
theorem contactStep_ends (h : q.contact = some k) (hl : ∀ y : Zone, y ≠ 0 → q.electrodes[y].counted = false) :
    contactStep tick (q, []) = ({ q with
      contact := none, holdPoint := none, stopPoint := none, last := some (ended tick k)
      counts := if k.spent then q.counts else q.counts.after (k.judge tick) },
      if k.spent then none else some (ended tick k)) := by
  have deepen : q.deepen = q := by
    unfold Pad.deepen
    rw [countedZones_nil hl]
    rfl
  have mark : q.markStopPoint tick = { q with stopPoint := none } := by
    unfold Pad.markStopPoint
    rw [h, hl 4 (by decide)]
    rfl
  have ends := endContact_lifted (q := { q with stopPoint := none }) (tick := tick) h (countedZones_nil hl)
  unfold contactStep
  dsimp only
  rw [List.filter_nil, joinTouches_nil, deepen, mark, ends]

/-- The stop point is left alone, set or cleared (R131). -/
def stopPointAt (tick : Tick) (pressed : Bool) (k : Contact) (point : Option Tick) : Option Tick :=
  if pressed then (if point.isNone ∧ k.stopGiven = false then some (tick + ticks 72000) else point) else none

/-- A DEEP touch of the row that is counted. -/
def pressed (q : Pad) (z : Zone) : Bool := q.electrodes[z].counted && decide (q.electrodes[z].level = .deep)

/-- A contact that a touch has begun or joined goes on (R128, R131). -/
theorem contactGoesOn (h : q.contact = some k) (hz : z ≠ 0) (hc : q.electrodes[z].counted = true) :
    ((q.deepen).markStopPoint tick).endContact tick = ({ q with
      contact := some { k with deepest := if rowZones.any (pressed q) then .deep else k.deepest }
      stopPoint := stopPointAt tick (pressed q 4) k q.stopPoint }, none) := by
  let k' : Contact := { k with deepest := if rowZones.any (pressed q) then .deep else k.deepest }
  have deepen : q.deepen = { q with contact := some k' } := by
    have deep : (q.countedZones.any fun z => decide (q.electrodes[z].level = .deep)) = rowZones.any (pressed q) := List.any_filter
    unfold Pad.deepen
    rw [deep, h]
    by_cases hd : rowZones.any (pressed q) = true
    · rw [if_pos hd]
      simp [k', hd]
    · rw [if_neg hd]
      simp [k', hd, ← h]
  have mark : ({ q with contact := some k' } : Pad).markStopPoint tick =
      { q with contact := some k', stopPoint := stopPointAt tick (pressed q 4) k q.stopPoint } := by
    have marks : ({ q with contact := some k' } : Pad).markStopPoint tick = if pressed q 4 then
        (if q.stopPoint.isNone ∧ k.stopGiven = false then { q with contact := some k', stopPoint := some (tick + ticks 72000) }
          else { q with contact := some k' })
      else { q with contact := some k', stopPoint := none } := rfl
    rw [marks]
    unfold stopPointAt
    split
    · split
      · rfl
      · rfl
    · rfl
  rw [deepen, mark]
  exact endContact_goesOn (k := k') rfl hz hc

/-- A counted touch that begins alone makes or joins a contact `k`, which goes on. -/
theorem contactStep_touches (hz : z ≠ 0) (hc : q.electrodes[z].counted = true) {point : Option Tick}
    (join : q.joinTouches tick [z] = { q with contact := some k, holdPoint := point }) :
    contactStep tick (q, [z]) = ({ q with
      contact := some { k with deepest := if rowZones.any (pressed q) then .deep else k.deepest }
      holdPoint := point, stopPoint := stopPointAt tick (pressed q 4) k q.stopPoint }, none) := by
  have joined : [z].filter (fun z => q.electrodes[z].counted) = [z] := List.filter_eq_self.2 fun y hy => by
    rw [List.mem_singleton.1 hy]
    exact hc
  unfold contactStep
  dsimp only
  rw [joined, join]
  exact contactGoesOn (q := { q with contact := some k, holdPoint := point }) rfl hz hc

theorem joinTouches_begins (h : q.contact = none) : q.joinTouches tick [z] = { q with
    contact := some { Contact.fresh tick with visits := [{ zone := z, onset := tick }] }
    holdPoint := if z = 3 then some (tick + ticks 28800) else none } := by
  unfold Pad.joinTouches
  rw [h]
  by_cases hz : z = 3
  · subst hz
    rfl
  · have other : ¬[z] = [3] := fun h => hz (List.singleton_inj.1 h)
    rw [if_neg hz]
    dsimp only
    rw [if_neg other]
    rfl

theorem joinTouches_joins (h : q.contact = some k) : q.joinTouches tick [z] =
    { q with contact := some (k.visit z tick), holdPoint := none } := by
  unfold Pad.joinTouches
  rw [h]
  rfl

theorem any_pressed (hz : z ≠ 0) (h : pressed q z = true) : rowZones.any (pressed q) = true :=
  List.any_eq_true.2 ⟨z, mem_rowZones.2 hz, h⟩

theorem any_pressed_alone (hz : z ≠ 0) (h : ∀ y : Zone, y ≠ 0 → y ≠ z → q.electrodes[y].counted = false) :
    rowZones.any (pressed q) = pressed q z := by
  cases hp : pressed q z with
  | true => exact any_pressed hz hp
  | false =>
    refine List.any_eq_false.2 fun y hy => ?_
    by_cases hyz : y = z
    · rw [hyz, hp]
      simp
    · unfold pressed
      rw [h y (mem_rowZones.1 hy) hyz]
      simp

/-! ## The outcome of a contact (R129, R132) -/

/-- Each visit lies one electrode further up the row than the visit before it, or one further down (R132). -/
def OneStep (up : Bool) (x y : Visit) : Prop :=
  if up then y.zone.val = x.zone.val + 1 else x.zone.val = y.zone.val + 1

theorem steady_cons (up : Bool) (a b : Visit) (l : List Visit) :
    steady up (a :: b :: l) = true ↔ OneStep up a b ∧ steady up (b :: l) = true := by
  rw [steady, Bool.and_eq_true]
  unfold OneStep
  cases up <;> simp

theorem steady_iff (up : Bool) (l : List Visit) : steady up l = true ↔
    ∀ (before after : List Visit) (x y : Visit), l = before ++ x :: y :: after → OneStep up x y := by
  induction l with
  | nil => exact iff_of_true rfl fun before after x y h => by simp at h
  | cons a l ih =>
    cases l with
    | nil =>
      refine iff_of_true rfl fun before after x y h => ?_
      have := congrArg List.length h
      simp at this
      omega
    | cons b l =>
      rw [steady_cons, ih]
      constructor
      · rintro ⟨step, rest⟩ before after x y h
        cases before with
        | nil =>
          cases h
          exact step
        | cons c before =>
          injection h with _ h
          exact rest before after x y h
      · intro h
        exact ⟨h [] l a b rfl, fun before after x y hl => h (a :: before) after x y (congrArg (a :: ·) hl)⟩

/-- The last visit of the contact begins no more than 400 ms after it (R132). -/
def swift (k : Contact) : Bool :=
  match k.visits.getLast? with
  | some v => decide ((v.onset - k.onset).toNat ≤ 19200)
  | none => false

theorem judge_many {r : Tick} {a b : Visit} {l : List Visit} (hs : k.spent = false) (ho : k.overflow = false)
    (hv : k.visits = a :: b :: l) : k.judge r =
      if 3 ≤ k.visits.length ∧ swift k = true then
        (if steady true k.visits then .next else if steady false k.visits then .back else .none)
      else .none := by
  unfold Contact.judge swift
  rw [hs, ho, hv]
  rfl

theorem exists_two {l : List Visit} (h : 2 ≤ l.length) : ∃ a b m, l = a :: b :: m := by
  match l, h with
  | a :: b :: m, _ => exact ⟨a, b, m, rfl⟩

/-- The outcome of a contact of three visits or more that has not overflowed (R132). -/
theorem judge_swipe {r : Tick} {v : Visit} (hs : k.spent = false) (ho : k.overflow = false) (h3 : 3 ≤ k.visits.length)
    (hv : k.visits.getLast? = some v) : k.judge r =
      if (v.onset - k.onset).toNat ≤ 19200 then
        (if steady true k.visits then .next else if steady false k.visits then .back else .none)
      else .none := by
  obtain ⟨a, b, m, hl⟩ := exists_two (show 2 ≤ k.visits.length by omega)
  have last : swift k = decide ((v.onset - k.onset).toNat ≤ 19200) := by
    unfold swift
    rw [hv]
  rw [judge_many hs ho hl, last]
  exact if_congr (by simp [h3]) rfl rfl

theorem judge_overflowed {r : Tick} (hs : k.spent = false) (ho : k.overflow = true) : k.judge r = .none := by
  unfold Contact.judge
  rw [hs, ho]
  rfl

theorem judge_single {r : Tick} {v : Visit} (hs : k.spent = false) (ho : k.overflow = false) (hv : k.visits = [v]) :
    k.judge r = if (r - k.onset).toNat ≤ 14400 then
      (if v.zone = 1 then .go else if v.zone = 2 then .tempoTap else .tap) else .none := by
  unfold Contact.judge
  rw [hs, ho, hv]
  rfl

theorem not_both_steady {l : List Visit} (h2 : 2 ≤ l.length) (down : steady false l = true) : ¬steady true l = true := by
  obtain ⟨a, b, m, rfl⟩ := exists_two h2
  intro up
  have u : b.zone.val = a.zone.val + 1 := ((steady_cons ..).1 up).1
  have d : a.zone.val = b.zone.val + 1 := ((steady_cons ..).1 down).1
  omega

theorem judge_gives {r : Tick} (hs : k.spent = false) (h : k.Gives r o) : k.judge r = o := by
  cases h with
  | goTap v ho hv hd hz => rw [judge_single hs ho hv, if_pos hd, if_pos hz]
  | tempoTap v ho hv hd hz => rw [judge_single hs ho hv, if_pos hd, if_neg (by rw [hz]; decide), if_pos hz]
  | tap v ho hv hd hz =>
    rw [judge_single hs ho hv, if_pos hd]
    rcases hz with hz | hz
    · rw [if_neg (by rw [hz]; decide), if_neg (by rw [hz]; decide)]
    · rw [if_neg (by rw [hz]; decide), if_neg (by rw [hz]; decide)]
  | next v ho h3 hv hd steps =>
    rw [judge_swipe hs ho h3 hv, if_pos hd, if_pos ((steady_iff true _).2 steps)]
  | back v ho h3 hv hd steps =>
    have down : steady false k.visits = true := (steady_iff false _).2 steps
    rw [judge_swipe hs ho h3 hv, if_pos hd, if_neg (not_both_steady (by omega) down), if_pos down]
  | overflowed ho => exact judge_overflowed hs ho
  | long v hv hd =>
    cases ho : k.overflow with
    | true => exact judge_overflowed hs ho
    | false => rw [judge_single hs ho hv, if_neg (by omega)]
  | two v w hv =>
    cases ho : k.overflow with
    | true => exact judge_overflowed hs ho
    | false => rw [judge_many hs ho hv, if_neg (by rw [hv]; simp)]
  | slow v h3 hv hd =>
    cases ho : k.overflow with
    | true => exact judge_overflowed hs ho
    | false => rw [judge_swipe hs ho h3 hv, if_neg (by omega)]
  | turns before after b a x y v w h3 hup nup hdown ndown =>
    cases ho : k.overflow with
    | true => exact judge_overflowed hs ho
    | false =>
      have up : ¬steady true k.visits = true := fun h => nup ((steady_iff true _).1 h before after x y hup)
      have down : ¬steady false k.visits = true := fun h => ndown ((steady_iff false _).1 h b a v w hdown)
      obtain ⟨u, hu⟩ : ∃ u, k.visits.getLast? = some u := by
        cases hl : k.visits.getLast? with
        | some u => exact ⟨u, rfl⟩
        | none =>
          rw [List.getLast?_eq_none_iff.1 hl] at h3
          simp at h3
      rw [judge_swipe hs ho h3 hu, if_neg up, if_neg down, ite_self]

theorem judge_spent {r : Tick} (hs : k.spent = true) (h : k.outcome = some o) : k.judge r = o := by
  unfold Contact.judge
  rw [hs, h]
  rfl

end Sys2Proof.Proofs

/-! PROOFS. A sample of the pad in its cases: touches that begin, lift and are void, the ring and a stuck touch (R126 to R128,
R133). -/

namespace Sys2Proof.Proofs

open Sys2Proof.Machine Sys2Proof.Laws

variable {e : Electrode} {set : Settings} {tick : Tick} {p q : Pad} {y z : Zone} {counts : Vector Nat 5} {k : Contact}
  {l : List Zone} {o : ContactOutcome}

/-! ## What a sample leaves alone -/

/-- The pad without what a sample's evaluation and contact write. -/
def aroundTouches (p : Pad) : Pad :=
  { p with
    electrodes := Vector.replicate 5 { b16 := 0, level := .idle, onset := none, void := false }, blocking := false
    contact := none, holdPoint := none, stopPoint := none, last := none, counts := Pad.initial.counts }

theorem frame_of_aroundTouches (h : aroundTouches q = aroundTouches p) : q = { p with
    electrodes := q.electrodes, blocking := q.blocking, contact := q.contact, holdPoint := q.holdPoint
    stopPoint := q.stopPoint, last := q.last, counts := q.counts } := by
  cases p
  cases q
  simp only [aroundTouches, Pad.mk.injEq] at h
  simp_all

theorem cancel_around : aroundTouches (p.cancel tick) = aroundTouches p := by
  unfold Pad.cancel
  split <;> rfl

theorem evaluateRow_around (r : Pad × List Zone) (z : Zone) :
    aroundTouches (Pad.evaluateRow set tick counts r z).1 = aroundTouches r.1 := by
  unfold Pad.evaluateRow
  dsimp only
  split
  · split
    · exact cancel_around
    · rfl
  · rfl

theorem evaluateRows_around (l : List Zone) (r : Pad × List Zone) :
    aroundTouches (l.foldl (Pad.evaluateRow set tick counts) r).1 = aroundTouches r.1 := by
  induction l generalizing r with
  | nil => rfl
  | cons z l ih => exact (ih _).trans (evaluateRow_around r z)

theorem contactStep_around (r : Pad × List Zone) : aroundTouches (contactStep tick r).1 = aroundTouches r.1 := by
  have join : ∀ l, aroundTouches (r.1.joinTouches tick l) = aroundTouches r.1 := fun l => by
    unfold Pad.joinTouches
    split
    · rfl
    · split <;> rfl
  have deepen : ∀ q : Pad, aroundTouches q.deepen = aroundTouches q := fun q => by
    unfold Pad.deepen
    split <;> rfl
  have mark : ∀ q : Pad, aroundTouches (q.markStopPoint tick) = aroundTouches q := fun q => by
    unfold Pad.markStopPoint
    dsimp only
    split
    · rfl
    · split
      · split <;> rfl
      · rfl
  have ends : ∀ q : Pad, aroundTouches (q.endContact tick).1 = aroundTouches q := fun q => by
    unfold Pad.endContact
    split
    · rfl
    · split <;> rfl
  unfold contactStep
  rw [ends, mark, deepen, join]

theorem takeSample_frame (set : Settings) (tick : Tick) (counts : Vector Nat 5) (p : Pad) :
    aroundTouches (p.takeSample set tick counts).1 = aroundTouches (stamped tick counts p) := by
  have blocks : ∀ (touched : Bool) (q : Pad), aroundTouches (blockedBy touched tick q) = aroundTouches q := fun touched q => by
    unfold blockedBy
    split
    · exact cancel_around
    · rfl
  rw [takeSample_eq, contactStep_around, evaluateRows_around, blocks]
  rfl

/-! ## A sample with no touch on the ring -/

/-- What a sample finds on an electrode of the row as it came. -/
def seen (set : Settings) (tick : Tick) (counts : Vector Nat 5) (blocked : Bool) (p : Pad) (z : Zone) : Evaluation :=
  evaluate set tick blocked counts[z] p.electrodes[z]

/-- The pad as a sample with no touch on the ring comes to the row. -/
def ringIdle (tick : Tick) (counts : Vector Nat 5) (p : Pad) : Pad :=
  { stamped tick counts p with
    electrodes := modifyAt p.electrodes 0 fun _ => Released false counts[0] p.electrodes[(0 : Zone)], blocking := false }

theorem found_ringIdle (hz : z ≠ 0) : found set tick counts (ringIdle tick counts p) z = seen set tick counts false p z := by
  unfold found seen ringIdle
  rw [modifyAt_getElem, if_neg hz]

variable (ring : p.electrodes[(0 : Zone)].rests set counts[0] ∨ p.electrodes[(0 : Zone)].lifts set tick counts[0])

include ring in
theorem takeSample_ringIdle : p.takeSample set tick counts =
    contactStep tick (rowZones.foldl (Pad.evaluateRow set tick counts) (ringIdle tick counts p, [])) := by
  have idle := evaluate_rests (blocked := false) ring
  have ringed_eq : ringed set tick counts (stamped tick counts p) = { stamped tick counts p with
      electrodes := modifyAt p.electrodes 0 fun _ => Released false counts[0] p.electrodes[(0 : Zone)] } := by
    unfold ringed
    rw [show (stamped tick counts p).electrodes = p.electrodes from rfl, idle]
    rfl
  rw [takeSample_eq, idle, ringed_eq]
  rfl

include ring in
/-- The sample where no touch is reseeded. -/
theorem takeSample_brief (brief : ∀ y : Zone, y ≠ 0 → (seen set tick counts false p y).stuck = false) :
    ∃ es, p.takeSample set tick counts = contactStep tick
        ({ stamped tick counts p with electrodes := es, blocking := false },
          rowZones.filter fun y => (seen set tick counts false p y).began && (seen set tick counts false p y).electrode.counted) ∧
      ∀ y : Zone, y ≠ 0 → es[y] = (seen set tick counts false p y).electrode := by
  obtain ⟨es, rows, each⟩ := evaluateRows_brief (p := ringIdle tick counts p) (zs := rowZones) (by decide)
    (fun y hy => by rw [found_ringIdle (mem_rowZones.1 hy)]; exact brief y (mem_rowZones.1 hy)) []
  refine ⟨es, ?_, fun y hy => ?_⟩
  · rw [takeSample_ringIdle ring, rows, List.nil_append]
    have began : rowZones.filter (joins set tick counts (ringIdle tick counts p)) =
        rowZones.filter fun y => (seen set tick counts false p y).began && (seen set tick counts false p y).electrode.counted :=
      List.filter_congr fun y hy => by
        unfold joins
        rw [found_ringIdle (mem_rowZones.1 hy)]
    rw [began]
    rfl
  · rw [each y, if_pos (mem_rowZones.2 hy), found_ringIdle hy]

theorem filter_rowZones_none {f : Zone → Bool} (h : ∀ y : Zone, y ≠ 0 → f y = false) : rowZones.filter f = [] :=
  List.filter_eq_nil_iff.2 fun y hy => Bool.eq_false_iff.1 (h y (mem_rowZones.1 hy))

theorem filter_rowZones_one {f : Zone → Bool} (hz : z ≠ 0) (h : f z = true) (others : ∀ y : Zone, y ≠ 0 → y ≠ z → f y = false) :
    rowZones.filter f = [z] := by
  have same : rowZones.filter f = rowZones.filter fun y => decide (y = z) := List.filter_congr fun y hy => by
    by_cases hyz : y = z
    · rw [hyz, h]
      simp
    · rw [others y (mem_rowZones.1 hy) hyz, decide_eq_false hyz]
  rw [same]
  clear same h others
  revert z
  decide

/-! ## A touch begins (R126, R128, R130, R131) -/

theorem seen_begins {blocked : Bool} (h : p.electrodes[z].begins set counts[z]) : seen set tick counts blocked p z = {
    electrode := { p.electrodes[z] with
      level := touchLevel set p.electrodes[z] counts[z], onset := some tick, void := blocked }
    began := true, stuck := false } := evaluate_begins h

/-- Nothing begins on the electrode, and it is not reseeded. -/
theorem seen_quiet {blocked : Bool} (h : p.electrodes[y].rests set counts[y] ∨ p.electrodes[y].lasts set tick counts[y] ∨
    p.electrodes[y].lifts set tick counts[y]) :
    (seen set tick counts blocked p y).began = false ∧ (seen set tick counts blocked p y).stuck = false := by
  rcases h with h | h | h
  · unfold seen
    rw [evaluate_rests (.inl h)]
    exact ⟨rfl, rfl⟩
  · obtain ⟨level, -, found⟩ := evaluate_lasts (blocked := blocked) h
    unfold seen
    rw [found]
    exact ⟨rfl, rfl⟩
  · unfold seen
    rw [evaluate_rests (.inr h)]
    exact ⟨rfl, rfl⟩

section Begins

variable (hz : z ≠ 0) (begins : p.electrodes[z].begins set counts[z])
  (others : ∀ y : Zone, y ≠ 0 → y ≠ z → p.electrodes[y].rests set counts[y] ∨ p.electrodes[y].lasts set tick counts[y] ∨
    p.electrodes[y].lifts set tick counts[y])

include ring hz begins others

/-- The sample at which one touch begins on the row. -/
theorem takeSample_one : ∃ es, p.takeSample set tick counts = contactStep tick
      ({ stamped tick counts p with electrodes := es, blocking := false }, [z]) ∧
    es[z] = { p.electrodes[z] with
      level := touchLevel set p.electrodes[z] counts[z], onset := some tick, void := false } ∧
    ∀ y : Zone, y ≠ 0 → es[y] = (seen set tick counts false p y).electrode := by
  have first := seen_begins (tick := tick) (blocked := false) begins
  obtain ⟨es, sample, each⟩ := takeSample_brief ring fun y hy => by
    by_cases hyz : y = z
    · rw [hyz, first]
    · exact (seen_quiet (others y hy hyz)).2
  refine ⟨es, ?_, by rw [each z hz, first], each⟩
  rw [sample, filter_rowZones_one hz ?_ fun y hy hyz => ?_]
  · rw [first]
    simp [Electrode.counted, Electrode.touched, touchLevel_ne_idle]
  · rw [(seen_quiet (others y hy hyz)).1]
    rfl

/-- A touch that begins joins the contact in progress. -/
theorem takeSample_joins (hk : p.contact = some k) : ∃ (q : Pad) (k' : Contact), p.takeSample set tick counts = (q, none) ∧
    q.contact = some k' ∧ q.holdPoint = none ∧
    (k.visits.length < 8 → k' = { k with visits := k.visits ++ [{ zone := z, onset := tick }], deepest := k'.deepest }) ∧
    (8 ≤ k.visits.length → k' = { k with overflow := true, deepest := k'.deepest }) ∧
    (p.electrodes[z].reaches set.deep counts[z] → k'.deepest = .deep) ∧
    q.blocking = false ∧ q.last = p.last ∧ q.counts = p.counts := by
  obtain ⟨es, sample, self, -⟩ := takeSample_one ring hz begins others
  have counted : es[z].counted = true := by
    rw [self]
    simp [Electrode.counted, Electrode.touched, touchLevel_ne_idle]
  have step := contactStep_touches (tick := tick) (q := { stamped tick counts p with electrodes := es, blocking := false }) hz counted
    (joinTouches_joins hk)
  refine ⟨_, _, sample.trans step, rfl, rfl, fun few => ?_, fun many => ?_, fun deep => ?_, rfl, rfl, rfl⟩
  · unfold Contact.visit
    rw [if_pos few]
  · unfold Contact.visit
    rw [if_neg (by omega)]
  · refine if_pos (any_pressed hz ?_)
    unfold pressed
    rw [show ({ stamped tick counts p with electrodes := es, blocking := false } : Pad).electrodes = es from rfl, counted, self]
    rw [touchLevel_deep deep]
    rfl

omit others in
/-- A touch that begins alone begins a contact. -/
theorem takeSample_begins (hk : p.contact = none)
    (alone : ∀ y : Zone, y ≠ 0 → y ≠ z → p.electrodes[y].rests set counts[y]) :
    ∃ (q : Pad) (k : Contact), p.takeSample set tick counts = (q, none) ∧ q.contact = some k ∧
      k = { visits := [{ zone := z, onset := tick }], overflow := false, onset := tick, deepest := k.deepest
            release := none, duration := 0, spent := false, stopGiven := false, outcome := none } ∧
      k.deepest = touchLevel set p.electrodes[z] counts[z] ∧
      q.electrodes[z] = { p.electrodes[z] with level := k.deepest, onset := some tick, void := false } ∧
      q.holdPoint = (if z = 3 then some (tick + 28800#32) else none) ∧
      (z = 4 → k.deepest = .deep → p.stopPoint = none → q.stopPoint = some (tick + 72000#32)) ∧
      (z ≠ 4 ∨ k.deepest = .touch → q.stopPoint = none) ∧
      q.blocking = false ∧ q.last = p.last ∧ q.counts = p.counts := by
  obtain ⟨es, sample, self, each⟩ := takeSample_one ring hz begins fun y hy hyz => .inl (alone y hy hyz)
  let q₀ : Pad := { stamped tick counts p with electrodes := es, blocking := false }
  have counted : q₀.electrodes[z].counted = true := by
    rw [show q₀.electrodes = es from rfl, self]
    simp [Electrode.counted, Electrode.touched, touchLevel_ne_idle]
  have idle : ∀ y : Zone, y ≠ 0 → y ≠ z → q₀.electrodes[y].counted = false := fun y hy hyz => by
    rw [show q₀.electrodes = es from rfl, each y hy]
    unfold seen
    rw [evaluate_rests (.inl (alone y hy hyz))]
    rfl
  have here : pressed q₀ z = decide (touchLevel set p.electrodes[z] counts[z] = .deep) := by
    unfold pressed
    rw [counted, show q₀.electrodes = es from rfl, self, Bool.true_and]
  have elsewhere : z ≠ 4 → pressed q₀ 4 = false := fun h => by
    unfold pressed
    rw [idle 4 (by decide) (Ne.symm h)]
    rfl
  have deepest : (if rowZones.any (pressed q₀) = true then Level.deep else .touch) =
      touchLevel set p.electrodes[z] counts[z] := by
    rw [any_pressed_alone hz idle, here]
    unfold touchLevel
    split <;> rfl
  have step := contactStep_touches (tick := tick) (q := q₀) hz counted (joinTouches_begins hk)
  refine ⟨_, _, sample.trans step, rfl, rfl, deepest, ?_, rfl, fun h4 hd hn => ?_, fun h => ?_, rfl, rfl, rfl⟩
  · exact self.trans (by rw [← deepest]; rfl)
  · subst h4
    have deep := deepest.symm.trans hd
    show stopPointAt tick (pressed q₀ 4) _ p.stopPoint = _
    rw [here, deep, hn]
    rfl
  · have off : pressed q₀ 4 = false := by
      by_cases h4 : z = 4
      · subst h4
        have touch := deepest.symm.trans (h.resolve_left fun h => h rfl)
        rw [here, touch]
        rfl
      · exact elsewhere h4
    show stopPointAt tick (pressed q₀ 4) _ p.stopPoint = _
    rw [off]
    rfl

end Begins

/-! ## The contact ends (R128) -/

/-- The pad as a sample ends the contact `k`, its electrodes left as `es`. -/
def contactEnded (tick : Tick) (counts : Vector Nat 5) (es : Vector Electrode 5) (k : Contact) (p : Pad) : Pad :=
  { stamped tick counts p with
    electrodes := es, contact := none, holdPoint := none, stopPoint := none, last := some (ended tick k)
    counts := if k.spent then p.counts else p.counts.after (k.judge tick) }

include ring in
/-- Every touch has lifted, and the contact ends. -/
theorem takeSample_ends (hb : p.blocking = false) (hk : p.contact = some k) (lifted : ∀ z : Zone, z ≠ 0 → p.electrodes[z].rests set counts[z] ∨
    p.electrodes[z].lifts set tick counts[z]) : ∃ es, p.takeSample set tick counts =
        (contactEnded tick counts es k p, if k.spent then none else some (ended tick k)) ∧
    ∀ z : Zone, z ≠ 0 → es[z].level = .idle ∧ es[z].onset = none ∧ es[z].void = false := by
  have found : ∀ z : Zone, z ≠ 0 → seen set tick counts false p z =
      { electrode := Released false counts[z] p.electrodes[z], began := false, stuck := false } :=
    fun z hz => evaluate_rests (lifted z hz)
  obtain ⟨es, sample, each⟩ := takeSample_brief ring fun y hy => by rw [found y hy]
  have row : ∀ z : Zone, z ≠ 0 → es[z] = Released false counts[z] p.electrodes[z] := fun z hz => by rw [each z hz, found z hz]
  have unblocked : ({ stamped tick counts p with electrodes := es, blocking := false } : Pad) =
      { stamped tick counts p with electrodes := es } := by rw [← hb]; rfl
  refine ⟨es, ?_, fun z hz => by rw [row z hz]; exact ⟨rfl, rfl, rfl⟩⟩
  rw [sample, filter_rowZones_none fun y hy => by rw [found y hy]; rfl, unblocked]
  refine contactStep_ends (q := { stamped tick counts p with electrodes := es }) hk fun y hy => ?_
  exact (congrArg Electrode.counted (row y hy)).trans rfl

/-! ## The ring (R127) -/

include ring in
/-- As the ring is released with no contact in progress, a touch that remains stays void. -/
theorem takeSample_unblocks (hk : p.contact = none) (remains : ∀ z : Zone, z ≠ 0 → p.electrodes[z].rests set counts[z] ∨
    p.electrodes[z].lifts set tick counts[z] ∨ (p.electrodes[z].lasts set tick counts[z] ∧ p.electrodes[z].void = true)) :
    ∃ q : Pad, p.takeSample set tick counts = (q, none) ∧ q.blocking = false ∧ q.contact = none ∧ q.counts = p.counts ∧
      ∀ z : Zone, z ≠ 0 → q.electrodes[z].level ≠ .idle → q.electrodes[z].void = true := by
  have quiet : ∀ y : Zone, y ≠ 0 → (seen set tick counts false p y).began = false ∧ (seen set tick counts false p y).stuck = false :=
    fun y hy => seen_quiet (by
      rcases remains y hy with h | h | ⟨h, -⟩
      · exact .inl h
      · exact .inr (.inr h)
      · exact .inr (.inl h))
  obtain ⟨es, sample, each⟩ := takeSample_brief ring fun y hy => (quiet y hy).2
  rw [filter_rowZones_none fun y hy => by rw [(quiet y hy).1]; rfl,
    contactStep_none (q := { stamped tick counts p with electrodes := es, blocking := false }) hk (by simp)] at sample
  refine ⟨_, sample, rfl, hk, rfl, fun z hz hl => ?_⟩
  have row : es[z] = (seen set tick counts false p z).electrode := each z hz
  rw [show ({ stamped tick counts p with electrodes := es, blocking := false } : Pad).electrodes = es from rfl, row] at hl ⊢
  unfold seen at hl ⊢
  rcases remains z hz with h | h | ⟨h, hv⟩
  · rw [evaluate_rests (.inl h)] at hl
    exact absurd rfl hl
  · rw [evaluate_rests (.inr h)] at hl
    exact absurd rfl hl
  · obtain ⟨level, -, found⟩ := evaluate_lasts (blocked := false) h
    rw [found]
    exact hv

theorem voided_eq (e : Electrode) : Voided e = { e with void := (Voided e).void } := by
  unfold Voided
  split <;> rfl

theorem voided_void (h : (Voided e).level ≠ .idle) : (Voided e).void = true := by
  have touched : e.touched = true := by
    rw [voided_eq] at h
    simpa [Electrode.touched] using h
  unfold Voided
  rw [if_pos touched]

/-- The pad as a sample that touches the ring comes to the row. -/
theorem blockedBy_touched (hb : p.blocking = false) : ∃ es, blockedBy true tick p =
      { p.cancel tick with electrodes := es, blocking := true } ∧
    ∀ y : Zone, y ≠ 0 → es[y] = { p.electrodes[y] with void := es[y].void } ∧ (es[y].level ≠ .idle → es[y].void = true) := by
  refine ⟨voidRow (p.cancel tick).electrodes, ?_, fun y hy => ?_⟩
  · unfold blockedBy
    rw [hb]
    rfl
  · rw [voidRow_getElem _ hy]
    refine ⟨?_, voided_void⟩
    cases hk : p.contact with
    | none =>
      rw [cancel_none hk]
      exact voided_eq _
    | some k =>
      rw [cancel_some hk]
      dsimp only
      rw [voidRow_getElem _ hy, voided_eq (Voided _)]
      exact congrArg (fun e : Electrode => { e with void := (Voided (Voided p.electrodes[y])).void }) (voided_eq p.electrodes[y])

theorem cancel_withElectrodes (es es' : Vector Electrode 5) (p : Pad) :
    ({ ({ p with electrodes := es } : Pad).cancel tick with electrodes := es', blocking := true } : Pad) =
      { p.cancel tick with electrodes := es', blocking := true } := by
  rcases p.contact.eq_none_or_eq_some with hk | ⟨k, hk⟩
  · rw [cancel_none hk, cancel_none (p := { p with electrodes := es }) hk]
  · rw [cancel_some hk, cancel_some (p := { p with electrodes := es }) hk]

theorem cancel_contact (p : Pad) : (p.cancel tick).contact = none := by
  cases hk : p.contact with
  | none => rw [cancel_none hk, hk]
  | some k => rw [cancel_some hk]

/-- A touch of the ring blocks the row and cancels the contact (R127). -/
theorem takeSample_blocks (hb : p.blocking = false) (begins : p.electrodes[(0 : Zone)].begins set counts[0])
    (brief : ∀ z : Zone, z ≠ 0 → ¬p.electrodes[z].overstays tick) :
    ∃ es, p.takeSample set tick counts =
        ({ (stamped tick counts p).cancel tick with electrodes := es, blocking := true }, none) ∧
      ∀ z : Zone, z ≠ 0 → es[z].b16 = p.electrodes[z].b16 ∧ (es[z].level ≠ .idle → es[z].void = true) := by
  have first := evaluate_begins (tick := tick) (blocked := false) begins
  have touched : (evaluate set tick false counts[0] p.electrodes[(0 : Zone)]).electrode.touched = true := by
    rw [first]
    simp [Electrode.touched, touchLevel_ne_idle]
  let es₀ := modifyAt p.electrodes 0 fun _ => { p.electrodes[(0 : Zone)] with
    level := touchLevel set p.electrodes[(0 : Zone)] counts[0], onset := some tick, void := false }
  have ringed_eq : ringed set tick counts (stamped tick counts p) = { stamped tick counts p with electrodes := es₀ } := by
    unfold ringed
    rw [show (stamped tick counts p).electrodes = p.electrodes from rfl, first]
    rfl
  obtain ⟨es₁, blocked, each₁⟩ := blockedBy_touched (tick := tick) (p := { stamped tick counts p with electrodes := es₀ }) hb
  rw [cancel_withElectrodes] at blocked
  have kept : ∀ y : Zone, y ≠ 0 → es₀[y] = p.electrodes[y] := fun y hy => (modifyAt_getElem ..).trans (if_neg hy)
  let r : Pad := { (stamped tick counts p).cancel tick with electrodes := es₁, blocking := true }
  have found : ∀ y : Zone, y ≠ 0 → (found set tick counts r y).stuck = false ∧
      (found set tick counts r y).electrode.b16 = p.electrodes[y].b16 ∧
      ((found set tick counts r y).electrode.level ≠ .idle → (found set tick counts r y).electrode.void = true) := by
    intro y hy
    obtain ⟨same, void⟩ := each₁ y hy
    rw [show ({ stamped tick counts p with electrodes := es₀ } : Pad).electrodes[y] = p.electrodes[y] from kept y hy] at same
    have quiet : ¬es₁[y].overstays tick := by
      rw [same]
      exact brief y hy
    obtain ⟨stuck, b16, voided⟩ := evaluate_blocked (set := set) (count := counts[y]) quiet void
    exact ⟨stuck, b16.trans (by rw [same]), voided⟩
  obtain ⟨es, rows, each⟩ := evaluateRows_brief (p := r) (zs := rowZones) (by decide)
    (fun y hy => (found y (mem_rowZones.1 hy)).1) []
  have none_joins : rowZones.filter (joins set tick counts r) = [] := filter_rowZones_none fun y hy => by
    obtain ⟨-, -, voided⟩ := found y hy
    unfold joins Electrode.counted Electrode.touched
    by_cases hl : (Proofs.found set tick counts r y).electrode.level = .idle
    · simp [hl]
    · simp [voided hl]
  refine ⟨es, ?_, fun z hz => ?_⟩
  · rw [takeSample_eq, touched, ringed_eq, blocked, rows, none_joins, List.append_nil]
    exact contactStep_none (q := { r with electrodes := es }) (cancel_contact _) (by simp)
  · rw [each z, if_pos (mem_rowZones.2 hz)]
    exact (found z hz).2

/-! ## A stuck touch (R133) -/

/-- Nothing begins on an electrode and it is not reseeded. -/
def Quiet (set : Settings) (tick : Tick) (count : Nat) (e : Electrode) : Prop :=
  e.rests set count ∨ e.lasts set tick count ∨ e.lifts set tick count

theorem quiet_voided {count : Nat} (h : Quiet set tick count e) : Quiet set tick count (Voided e) := by
  rw [voided_eq]
  exact h

theorem evaluate_quiet {count : Nat} (h : Quiet set tick count e) (blocked : Bool) :
    (evaluate set tick blocked count e).began = false ∧ (evaluate set tick blocked count e).stuck = false ∧
      ((e.level ≠ .idle → e.void = true) →
        (evaluate set tick blocked count e).electrode.level ≠ .idle →
        (evaluate set tick blocked count e).electrode.void = true) := by
  rcases h with h | h | h
  · rw [evaluate_rests (.inl h)]
    exact ⟨rfl, rfl, fun _ h => absurd rfl h⟩
  · obtain ⟨level, -, found⟩ := evaluate_lasts (blocked := blocked) h
    rw [found]
    exact ⟨rfl, rfl, fun hv _ => hv h.1⟩
  · rw [evaluate_rests (.inr h)]
    exact ⟨rfl, rfl, fun _ h => absurd rfl h⟩

/-- A part of the row on which nothing begins and nothing is reseeded. -/
theorem evaluateRows_quiet {zs : List Zone} (hz : zs.Nodup) (h : ∀ z ∈ zs, Quiet set tick counts[z] p.electrodes[z]) :
    ∃ es, zs.foldl (Pad.evaluateRow set tick counts) (p, []) = ({ p with electrodes := es }, []) ∧
      ∀ y : Zone, es[y] = if y ∈ zs then (found set tick counts p y).electrode else p.electrodes[y] := by
  obtain ⟨es, rows, each⟩ := evaluateRows_brief (p := p) hz (fun z hz => (evaluate_quiet (h z hz) p.blocking).2.1) []
  have none_joins : zs.filter (joins set tick counts p) = [] := List.filter_eq_nil_iff.2 fun z hz => by
    unfold joins
    rw [show (found set tick counts p z).began = false from (evaluate_quiet (h z hz) p.blocking).1]
    simp
  rw [none_joins] at rows
  exact ⟨es, rows, each⟩

/-- An electrode that is reseeded from its count. -/
def Reseeded (count : Nat) : Electrode := { b16 := 16 * count, level := .idle, onset := none, void := false }

theorem evaluateRow_overstays (hs : p.electrodes[z].overstays tick) (hv : p.electrodes[z].void = false) (hk : p.contact = some k)
    (l : List Zone) : Pad.evaluateRow set tick counts (p, l) z = ({ p with
      electrodes := voidRow (modifyAt p.electrodes z fun _ => Reseeded counts[z])
      contact := none, holdPoint := none, stopPoint := none, last := some (k.cancelledAt tick)
      counts := { p.counts with
        stuckReseeds := bump p.counts.stuckReseeds, cancelled := bump p.counts.cancelled } }, l) := by
  have counted : p.electrodes[z].counted = true := by
    unfold Electrode.counted Electrode.touched
    rw [hv, decide_eq_false hs.1]
    rfl
  unfold Pad.evaluateRow
  dsimp only
  rw [evaluate_overstays hs, counted]
  dsimp only
  rw [if_pos rfl, if_pos rfl]
  exact congrArg (·, l) (cancel_some hk)

include ring in
/-- A touch of more than 20 s is reseeded, which cancels its contact and makes the others void (R133). -/
theorem takeSample_overstays (hz : z ≠ 0) (hs : p.electrodes[z].overstays tick) (hv : p.electrodes[z].void = false)
    (hk : p.contact = some k) (others : ∀ y : Zone, y ≠ 0 → y ≠ z → Quiet set tick counts[y] p.electrodes[y]) :
    ∃ es, p.takeSample set tick counts = ({ stamped tick counts p with
        electrodes := es, blocking := false, contact := none, holdPoint := none, stopPoint := none
        last := some (k.cancelledAt tick)
        counts := { p.counts with
          stuckReseeds := bump p.counts.stuckReseeds, cancelled := bump p.counts.cancelled } }, none) ∧
      es[z] = Reseeded counts[z] ∧ ∀ y : Zone, y ≠ 0 → es[y].level ≠ .idle → es[y].void = true := by
  obtain ⟨before, after, row⟩ := List.append_of_mem (mem_rowZones.2 hz)
  have nodup : (before ++ z :: after).Nodup := by rw [← row]; decide
  obtain ⟨nodupBefore, nodupAfter, apart⟩ := List.nodup_append.1 nodup
  obtain ⟨notAfter, nodupAfter⟩ := List.nodup_cons.1 nodupAfter
  have notBefore : z ∉ before := fun h => apart z h z (by simp) rfl
  have rowMem : ∀ y : Zone, y ≠ 0 → y ∈ before ∨ y = z ∨ y ∈ after := fun y hy => by
    have := mem_rowZones.2 hy
    rw [row] at this
    simpa using this
  have other : ∀ y : Zone, y ∈ before ∨ y ∈ after → y ≠ 0 ∧ y ≠ z := fun y hy => by
    refine ⟨mem_rowZones.1 (by rw [row]; rcases hy with h | h <;> simp [h]), ?_⟩
    rintro rfl
    exact hy.elim notBefore notAfter
  have same : ∀ y : Zone, y ≠ 0 → (ringIdle tick counts p).electrodes[y] = p.electrodes[y] := fun y hy =>
    (modifyAt_getElem ..).trans (if_neg hy)
  obtain ⟨es₁, rows₁, each₁⟩ := evaluateRows_quiet (p := ringIdle tick counts p) nodupBefore fun y hy => by
    obtain ⟨hy0, hyz⟩ := other y (.inl hy)
    rw [same y hy0]
    exact others y hy0 hyz
  have self : es₁[z] = p.electrodes[z] := by rw [each₁ z, if_neg notBefore, same z hz]
  let q₁ : Pad := { ringIdle tick counts p with electrodes := es₁ }
  have reseeds := evaluateRow_overstays (set := set) (counts := counts) (p := q₁) (z := z)
    (by show es₁[z].overstays tick; rw [self]; exact hs) (by show es₁[z].void = false; rw [self]; exact hv)
    (show q₁.contact = some k from hk) []
  generalize hq₂ : ({ q₁ with
    electrodes := voidRow (modifyAt q₁.electrodes z fun _ => Reseeded counts[z])
    contact := none, holdPoint := none, stopPoint := none, last := some (k.cancelledAt tick)
    counts := { q₁.counts with
      stuckReseeds := bump q₁.counts.stuckReseeds, cancelled := bump q₁.counts.cancelled } } : Pad) = q₂ at reseeds
  have voided : ∀ y : Zone, y ≠ 0 → y ≠ z → q₂.electrodes[y] = Voided es₁[y] := fun y hy hyz => by
    rw [← hq₂]
    refine (voidRow_getElem _ hy).trans ?_
    rw [modifyAt_getElem, if_neg hyz]
  have reseeded : q₂.electrodes[z] = Reseeded counts[z] := by
    rw [← hq₂]
    refine (voidRow_getElem _ hz).trans ?_
    rw [modifyAt_getElem, if_pos rfl]
    rfl
  have afterQuiet : ∀ y ∈ after, y ≠ 0 ∧ y ≠ z ∧ q₂.electrodes[y] = Voided p.electrodes[y] := fun y hy => by
    obtain ⟨hy0, hyz⟩ := other y (.inr hy)
    refine ⟨hy0, hyz, ?_⟩
    rw [voided y hy0 hyz, each₁ y, if_neg fun h => apart y h y (List.mem_cons_of_mem z hy) rfl, same y hy0]
  obtain ⟨es₂, rows₂, each₂⟩ := evaluateRows_quiet (set := set) (tick := tick) (counts := counts) (p := q₂) nodupAfter
    fun y hy => by
      obtain ⟨hy0, hyz, as⟩ := afterQuiet y hy
      rw [as]
      exact quiet_voided (others y hy0 hyz)
  have whole : p.takeSample set tick counts = ({ q₂ with electrodes := es₂ }, none) := by
    rw [takeSample_ringIdle ring, row, List.foldl_append, rows₁, List.foldl_cons, reseeds, rows₂]
    exact contactStep_none (by rw [← hq₂]) (by simp)
  refine ⟨es₂, whole.trans (by rw [← hq₂]; rfl), ?_, fun y hy hl => ?_⟩
  · rw [each₂ z, if_neg notAfter, reseeded]
  · by_cases hyAfter : y ∈ after
    · obtain ⟨hy0, hyz, as⟩ := afterQuiet y hyAfter
      have found : es₂[y] = (evaluate set tick q₂.blocking counts[y] (Voided p.electrodes[y])).electrode := by
        rw [each₂ y, if_pos hyAfter, ← as]
        rfl
      rw [found] at hl ⊢
      exact (evaluate_quiet (quiet_voided (others y hy0 hyz)) q₂.blocking).2.2 voided_void hl
    · have kept : es₂[y] = q₂.electrodes[y] := by rw [each₂ y, if_neg hyAfter]
      rw [kept] at hl ⊢
      by_cases hyz : y = z
      · rw [hyz, reseeded] at hl
        exact absurd rfl hl
      · rw [voided y hy hyz] at hl ⊢
        exact voided_void hl

end Sys2Proof.Proofs

/-! PROOFS. The gestures of the pad's contacts (R30, R39, R62, R63, R129, R132). -/

namespace Sys2Proof.Proofs

open Sys2Proof.Machine Sys2Proof.Laws

variable {s t u : State} {n : CueNumber} {c : Cue} {onset : Tick} {set : Settings} {tick : Tick} {p q : Pad} {z : Zone}
  {counts : Vector Nat 5} {k : Contact} {o : ContactOutcome}

/-! ## The GO tap (R30) -/

/-- A GO tap is set aside and counted (R30). -/
def padIgnored (u : State) : State :=
  { u with
    cue := { u.cue with ignoredPad := bump u.cue.ignoredPad }
    port := { u.port with flags := u.port.flags ||| EventFlag.goIgnored.bit } }

theorem ignoreGo_pad (u : State) : ignoreGo .pad u = padIgnored u := rfl

theorem decideGo_padGo (u : State) : u.padGo (decideGo .pad u).1 where
  closed ho := by rw [decideGo_closed ho]
  ignored ho h := by
    refine Eq.trans ?_ (ignoreGo_pad u)
    by_cases hs : u.stop.state = .clear
    · by_cases hg : u.cue.guard = none
      · rcases h with h | h | ⟨hh, h⟩
        · exact absurd hs h
        · exact absurd hg h
        · rcases h with h | ⟨n, c, hn, hc, hm⟩
          · rw [decideGo_nothing ho hs hg hh h]
          · have bars : ¬u.standbyAllows .pad = true := by
              rw [standbyAllows_of hn hc]
              exact Bool.eq_false_iff.1 hm
            rw [decideGo_standby ho hs hg hh hn, if_neg bars]
      · rw [decideGo_guarded ho hs hg]
    · rw [decideGo_stopped ho hs]
  fires n c hs hg hf h := by
    rcases h with hh | ⟨hh, hn, -, hm⟩
    · rw [decideGo_held hf.isOpen hs hg hh]
      exact firedPlainly_of_fire hf .held
    · have allows : u.standbyAllows .pad = true := by
        rw [standbyAllows_of hn hf.record]
        exact hm
      rw [decideGo_standby hf.isOpen hs hg hh hn, if_pos allows]
      exact firedPlainly_of_fire hf .standby

/-! ## The tempo tap (R62, R63) -/

theorem segmentInForce_eq {pos : SongPos} {g : Segment} (hp : u.clock.pos = some pos)
    (hg : u.book.governing? pos.song pos.bar = some g) :
    u.segmentInForce = if u.clock.state = .parked then none else some g := by
  unfold State.segmentInForce
  rw [hp]
  dsimp only
  rw [hg]

theorem followApplies_of (h : u.mayFollow) : u.followApplies = true := by
  obtain ⟨moving, pos, g, hp, hg, hf⟩ := h
  have notParked : u.clock.state ≠ .parked := by rcases moving with h | h <;> rw [h] <;> simp
  unfold State.followApplies
  rw [segmentInForce_eq hp hg, if_neg notParked]
  dsimp only
  rw [hf, Bool.and_true]
  simpa using moving

theorem not_followApplies (h : (u.clock.state ≠ .playing ∧ u.clock.state ≠ .vamping) ∨
    ∃ (pos : SongPos) (g : Segment),
      u.clock.pos = some pos ∧ u.book.governing? pos.song pos.bar = some g ∧ g.follow = false) : u.followApplies = false := by
  unfold State.followApplies
  rcases h with ⟨h1, h2⟩ | ⟨pos, g, hp, hg, hf⟩
  · rw [decide_eq_false h1, decide_eq_false h2]
    rfl
  · rw [segmentInForce_eq hp hg]
    by_cases parked : u.clock.state = .parked
    · rw [if_pos parked]
      exact Bool.and_false _
    · rw [if_neg parked]
      dsimp only
      rw [hf, Bool.and_false]

/-- The series of tap intervals with one more, of four at most (R63). -/
def tapSeries (u : State) (interval : Int) : List Int := takeLast 4 (u.clock.taps ++ [interval])

/-- The follow adjustment that the series gives (R63). -/
def tapAdjust (u : State) (series : List Int) : Option Nat :=
  followTempo u.book.settings u.clock.tempo ((u.clock.pos.map (u.book.mappedTempo u.clock.override)).getD u.clock.tempo)
    u.clock.adjust series

/-- A tap after another, where follow applies (R62, R63). -/
theorem tempoTap_again (h : u.mayFollow) {last : Tick} (hl : u.clock.tapOnset = some last) : tempoTap onset u =
    if ((2 * u.clock.beatTicks / 5 : Nat) : Int) ≤ (onset - last).toInt ∧
        (onset - last).toInt ≤ ((5 * u.clock.beatTicks / 2 : Nat) : Int) then
      { u with clock := { u.clock with
        tapOnset := some onset, taps := tapSeries u (onset - last).toInt
        adjust := tapAdjust u (tapSeries u (onset - last).toInt) } }
    else { u with clock := { u.clock with tapOnset := some onset, taps := [], rejected := bump u.clock.rejected } } := by
  unfold tempoTap
  rw [if_pos (followApplies_of h), hl]
  rfl

theorem tapSeries_eq (u : State) (interval : Int) :
    tapSeries u interval = (u.clock.taps ++ [interval]).drop (u.clock.taps.length - 3) := by
  unfold tapSeries takeLast
  rw [List.length_append]
  rfl

theorem tapAdjust_eq {pos : SongPos} {series : List Int} {m measured map span : Nat} {d : Int} (hp : u.clock.pos = some pos)
    (hm : m = (series.sum / series.length).toNat) (hmeasured : measured = (288000000 + m / 2) / m)
    (hd : d = (measured : Int) - u.clock.tempo) (hmap : map = u.book.mappedTempo u.clock.override pos)
    (hspan : span = map * u.book.settings.band / 1000) : tapAdjust u series =
      if d.natAbs ≤ u.book.settings.deadband then u.clock.adjust
      else some (clampInt 2000 30000 (clampInt ((map : Int) - span) ((map : Int) + span)
        (u.clock.tempo + clampInt (-u.book.settings.maxStep) u.book.settings.maxStep d))).toNat := by
  subst hd hspan hmap hmeasured hm
  unfold tapAdjust followTempo
  rw [hp]
  rfl

theorem tempoTap_tapped (u : State) (onset : Tick) : u.tapped (tempoTap onset u) onset where
  idle h := by
    unfold tempoTap
    rw [not_followApplies h]
    rfl
  first h hn := by
    unfold tempoTap
    rw [followApplies_of h, hn]
    rfl
  rejected h last hl hr := by
    rw [tempoTap_again h hl, if_neg]
    rintro ⟨low, high⟩
    omega
  accepted h last hl low high := by
    have taps : (tempoTap onset u).clock.taps = tapSeries u (onset - last).toInt := by
      rw [tempoTap_again h hl, if_pos ⟨low, high⟩]
    have adjust : (tempoTap onset u).clock.adjust = tapAdjust u (tapSeries u (onset - last).toInt) := by
      rw [tempoTap_again h hl, if_pos ⟨low, high⟩]
    refine ⟨?_, taps.trans (tapSeries_eq ..), fun pos m measured map span d hp hm hmeasured hd hmap hspan => ?_⟩
    · rw [taps, adjust, tempoTap_again h hl, if_pos ⟨low, high⟩]
    · rw [taps] at hm
      rw [adjust, tapAdjust_eq hp hm hmeasured hd hmap hspan]
      exact ⟨fun small => if_pos small, fun large => if_neg (by omega)⟩

/-! ## The swipes (R39) -/

/-- From `u` to `t` a swipe towards `target` has stepped the standby: nothing with the show closed or STOPPED or with no cue
that way, and else its move. -/
structure Swiped (target : Option CueNumber) (u t : State) : Prop where
  still : u.cue.isOpen = false ∨ u.stop.state = .stopped ∨ target = none → t = u
  moves : ∀ n : CueNumber, target = some n → u.cue.isOpen = true → u.stop.state ≠ .stopped → u.cue.held ≠ some n →
    (u.cue.entry? n).isSome = true → (∀ m : CueNumber, u.cue.standby = some m → u.runState m = .standby) →
    t = { u with cue := t.cue, overlay := { u.overlay with standby := u.cue.held.or (some n) } } ∧
    t.cue = { u.cue with runs := t.cue.runs, standby := some n } ∧ t.runState n = .standby ∧
    (∀ m : CueNumber, u.cue.standby = some m → t.runState m = .pending) ∧
    ∀ m : CueNumber, m ≠ n → u.cue.standby ≠ some m → t.runState m = u.runState m

theorem padSwipe_steps {move : State → State} {target : Option CueNumber} (hm : move u = stepStandby target u)
    (hp : ∀ n : CueNumber, target = some n → u.runState n = .pending) : Swiped target u (padSwipe move u) := by
  refine ⟨fun h => ?_, fun n ht ho hs hh he hst => ?_⟩
  · by_cases acts : u.cue.isOpen = true ∧ u.stop.state ≠ .stopped
    · obtain ⟨ho, hs⟩ := acts
      rcases h with h | h | h
      · rw [ho] at h
        cases h
      · exact absurd h hs
      · refine (if_pos ⟨ho, hs⟩).trans ?_
        rw [hm, h]
        rfl
    · exact if_neg acts
  · have acts : padSwipe move u = stepStandby (some n) u := (if_pos ⟨ho, hs⟩).trans (hm.trans (by rw [ht]))
    rw [acts]
    exact stepStandby_moves ho (hp n ht) hh he hst

/-! ## A gesture handed on (R128 to R132) -/

theorem handGesture_still (u : State) (h : k.outcome = some .none ∨ k.outcome = some .tap) : handGesture k u = u := by
  unfold handGesture
  rcases h with h | h <;> rw [h]

theorem handGesture_go (u : State) (h : k.outcome = some .go) : u.padGo (handGesture k u) := by
  unfold handGesture
  rw [h]
  exact decideGo_padGo u

theorem handGesture_tempoTap (u : State) (h : k.outcome = some .tempoTap) : u.tapped (handGesture k u) k.onset := by
  unfold handGesture
  rw [h]
  exact tempoTap_tapped u k.onset

theorem handGesture_next (u : State) (h : k.outcome = some .next) : Swiped (nextStandby u) u (handGesture k u) := by
  unfold handGesture
  rw [h]
  exact padSwipe_steps (standbyNext_eq u) fun n hn => nextStandby_pending hn

theorem handGesture_back (u : State) (h : k.outcome = some .back) : Swiped (backStandby u) u (handGesture k u) := by
  unfold handGesture
  rw [h]
  exact padSwipe_steps (standbyBack_eq u) fun n hn => backStandby_pending hn

/-! ## A sample in RUNNING -/

/-- The state as a sample leaves its pad, before a gesture is handed on. -/
def sampled (q : Pad) (s : State) : State := { s with pad := q }

/-- The state as a sample has handed on the gesture of the contact that it ended. -/
def gestured (r : Pad × Option Contact) (s : State) : State :=
  match r.2 with
  | some k => handGesture k (sampled r.1 s)
  | none => sampled r.1 s

theorem exec_padSample {bytes : List Byte} (hr : s.resetHeld = false) (hs : s.pad.state = .running)
    (hc : padCounts bytes = some counts) :
    exec (.padSample bytes) s = .next (gestured (s.pad.takeSample s.book.settings s.time.tick counts) s) := by
  refine (event_up hr _).trans ?_
  unfold padFrame
  rw [hc]
  dsimp only
  rw [hs, State.now]
  dsimp only
  generalize s.pad.takeSample s.book.settings s.time.tick counts = r
  unfold gestured
  cases r.2 <;> rfl

theorem gestured_pad (r : Pad × Option Contact) (s : State) : (gestured r s).pad = r.1 := by
  unfold gestured
  split
  · exact (congrArg State.pad (handGesture_outside ..) :)
  · rfl

theorem ended_outcome (h : k.judge tick = o) : (ended tick k).outcome = some o := congrArg some h

/-- The state as a sample that ends the contact has handed its gesture on. -/
def gestureGiven (counts : Vector Nat 5) (es : Vector Electrode 5) (k : Contact) (s : State) : State :=
  gestured (contactEnded s.time.tick counts es k s.pad, if k.spent then none else some (ended s.time.tick k)) s

theorem gestureGiven_spent {es : Vector Electrode 5} (h : k.spent = true) :
    gestureGiven counts es k s = sampled (contactEnded s.time.tick counts es k s.pad) s ∧
      (contactEnded s.time.tick counts es k s.pad).counts = s.pad.counts := by
  refine ⟨?_, if_pos h⟩
  unfold gestureGiven
  rw [h]
  rfl

theorem gestureGiven_fresh {es : Vector Electrode 5} (h : k.spent = false) :
    gestureGiven counts es k s =
        handGesture (ended s.time.tick k) (sampled (contactEnded s.time.tick counts es k s.pad) s) ∧
      (contactEnded s.time.tick counts es k s.pad).counts = s.pad.counts.after (k.judge s.time.tick) := by
  refine ⟨?_, if_neg (by rw [h]; simp)⟩
  unfold gestureGiven
  rw [h]
  rfl

/-- Settles O48: the sample's cases, and the gesture of the contact that it ends. -/
theorem touchesMakeContactsAndGestures : Obligations.TouchesMakeContactsAndGestures := by
  intro bytes counts set tick s hr hrun hc hset htick
  subst hset htick
  have runs := exec_padSample hr hrun hc
  have frame := takeSample_frame s.book.settings s.time.tick counts s.pad
  obtain ⟨r, sample⟩ : ∃ r, s.pad.takeSample s.book.settings s.time.tick counts = r := ⟨_, rfl⟩
  rw [sample] at runs frame
  refine ⟨gestured r s, sampled r.1 s, runs, ?_, frame_of_aroundTouches frame, fun z hz hb ring begins =>
    ⟨fun hk alone => ?_, fun k hk others => ?_⟩, fun k o hk hb ring lifted outcome => ?_, fun hb begins brief => ?_,
    fun hb ring hk remains => ?_, fun z k hz hb ring hs hv hk others => ?_⟩
  · rw [gestured_pad]
    rfl
  · obtain ⟨q, k, taken, contact, hk', deepest, self, hold, stop, noStop, blocking, last, counts'⟩ :=
      takeSample_begins (.inl ring) hz begins hk alone
    cases sample.symm.trans taken
    refine ⟨k, rfl, contact, hk', fun deep => ?_, fun shallow => ?_, self, hold, stop, noStop, blocking, last, counts'⟩
    · rw [deepest, touchLevel_deep deep]
    · rw [deepest, touchLevel_touch shallow]
  · obtain ⟨q, k', taken, contact, hold, few, many, deep, rest⟩ := takeSample_joins (.inl ring) hz begins others hk
    cases sample.symm.trans taken
    exact ⟨k', rfl, contact, hold, few, many, deep, rest⟩
  · have judged : k.judge s.time.tick = o := outcome.elim (fun h => judge_spent h.1 h.2) fun h => judge_gives h.1 h.2
    have outcome' := ended_outcome judged
    obtain ⟨es, taken, row⟩ := takeSample_ends (.inl ring) hb hk lifted
    cases sample.symm.trans taken
    refine ⟨?_, row, fun quiet => ?_, fun fresh => ?_⟩
    · rw [← judged]
      rfl
    · rcases Bool.eq_false_or_eq_true k.spent with spent | spent
      · exact gestureGiven_spent spent
      · have plain : o = .none ∨ o = .tap := quiet.resolve_left (by rw [spent]; simp)
        obtain ⟨acts, counted⟩ := gestureGiven_fresh (counts := counts) (es := es) (s := s) spent
        refine ⟨acts.trans (handGesture_still _ (outcome'.symm ▸ plain.imp (congrArg some) (congrArg some))), counted.trans ?_⟩
        rw [judged]
        rcases plain with rfl | rfl <;> rfl
    · obtain ⟨acts, counted⟩ := gestureGiven_fresh (counts := counts) (es := es) (s := s) fresh
      rw [judged] at counted
      rw [show gestured _ s = _ from acts]
      let u := sampled (contactEnded s.time.tick counts es k s.pad) s
      refine ⟨?_, ?_, ?_, ?_, fun target towards => ?_⟩
      · rintro rfl
        exact ⟨handGesture_go u outcome', counted⟩
      · rintro rfl
        exact ⟨handGesture_tempoTap u outcome', counted⟩
      · rintro rfl
        exact counted
      · rintro rfl
        exact counted
      · have swiped : Swiped target u (handGesture (ended s.time.tick k) u) := by
          rcases towards with ⟨rfl, ht⟩ | ⟨rfl, ht⟩
          · exact (ht.trans (nextStandby_eq u).symm) ▸ handGesture_next u outcome'
          · exact (ht.trans (backStandby_eq u).symm) ▸ handGesture_back u outcome'
        exact ⟨swiped.still, swiped.moves⟩
  · obtain ⟨es, taken, row⟩ := takeSample_blocks hb begins brief
    cases sample.symm.trans taken
    refine ⟨rfl, rfl, cancel_contact _, row, fun hk => ?_, fun k hk => ?_⟩
    · rw [cancel_none (p := stamped s.time.tick counts s.pad) hk]
      exact ⟨rfl, rfl⟩
    · rw [cancel_some (p := stamped s.time.tick counts s.pad) hk]
      exact ⟨rfl, rfl, rfl, rfl⟩
  · obtain ⟨q, taken, blocking, contact, counts', row⟩ := takeSample_unblocks (.inr ring) hk remains
    cases sample.symm.trans taken
    exact ⟨rfl, blocking, contact, counts', row⟩
  · obtain ⟨es, taken, self, row⟩ := takeSample_overstays (.inl ring) hz hs hv hk others
    cases sample.symm.trans taken
    exact ⟨rfl, self, row, rfl, rfl, rfl, rfl, rfl⟩

end Sys2Proof.Proofs
